-- ==== Sys2Proof/Word.lean ====
section
/-! DEFINITION. The words of the bus and of the timebase, and their plainest arithmetic (00_scope, "Units and ranges"). -/

namespace Sys2Proof

/-- One byte of a frame or of the configuration image. -/
abbrev Byte := BitVec 8

/-- A value of the 32-bit timebase, in ticks of 50 ns. It wraps. -/
abbrev Tick := BitVec 32

/-- A station number, 0 to 15. -/
abbrev Station := Fin 16

/-- The difference of two timestamps, taken modulo 2^32, as a number of ticks. -/
def ticksFrom (earlier later : Tick) : Nat := (later - earlier).toNat

/-- The byte that holds the low eight bits of a number. -/
def byteOf (n : Nat) : Byte := BitVec.ofNat 8 n

/-- A 16-bit field as its two bytes, high byte first (chapter 11). -/
def bytes16 (n : Nat) : List Byte := [byteOf (n / 256), byteOf n]

/-- A 16-bit word as its two bytes, high byte first. -/
def bytesOfWord (w : BitVec 16) : List Byte := bytes16 w.toNat

/-- The value of a flag standing at bit `i` of a byte. -/
def bitAt (i : Nat) (b : Bool) : Nat := if b then 2 ^ i else 0

end Sys2Proof
end

