-- ==== Sys2Proof/Config.lean ====
section
/-! DEFINITION. What is fixed for the part (its time constants), and the parameters that the configuration image gives
(R170). The image's bytes are read at run time, so the parameters in use stand in the state; here is only their type.
The spec leaves no result of a command undefined, so the model has no free value. -/

namespace Sys2Proof.Config

/-- Ticks in one millisecond (R127: "converted to ticks at 20,000 ticks per ms"). -/
def ticksPerMs : Nat := 20000

/-- The presence probe: 20 ms (R25). -/
def probeTicks : Nat := 400000

/-- The part of the probe that is watched: its last 10 ms (R25). -/
def probeWatchTicks : Nat := 200000

/-- The qualification timer: 1 ms (R27). -/
def qualificationTicks : Nat := 20000

/-- The largest limit of the stall watchdog: 200 ms (R8). -/
def stallTicks : Nat := 4000000

/-- The longest segment period handed on (R20). -/
def periodLimit : Nat := 16777215

/-- The largest running sum of a knock window that is not clipped (R30). -/
def sumLimit : Nat := 262143

/-- The wait before the second configuration read: 10 ms (R160). -/
def retryTicks : Nat := 200000

/-- The dwell of the bit-rate hunt: 20 ms (R143). -/
def dwellTicks : Nat := 400000

/-- The status period in UNCONFIGURED: 100 ms (R161). -/
def unconfiguredStatusMs : Nat := 100

/-- Entries the transmit queue holds at most (R145). -/
def queueSize : Nat := 12

/-- Cells of the interframe gap (R135). -/
def gapCells : Nat := 11

/-- Cells of a dominant run that make a stuck line (R142). -/
def stuckCells : Nat := 13

end Sys2Proof.Config

namespace Sys2Proof.Machine

/-- The configuration image's fields (R170), as numbers. Lists over cylinders hold cylinder `c` at index `c - 1`. -/
structure Image where
  /-- cylinder count n, byte 0 -/
  n : Nat
  /-- cylinder at firing position 0 to 7, bytes 1 to 8 -/
  firing : List Nat
  /-- tooth positions N_t, byte 9 -/
  teeth : Nat
  /-- missing positions g, byte 10 -/
  gap : Nat
  /-- gap offset, bytes 11 to 12 -/
  gapOffset : Nat
  /-- cam window start, bytes 13 to 14 -/
  camStart : Nat
  /-- cam window width, bytes 15 to 16 -/
  camWidth : Nat
  /-- boundary offset σ, bytes 17 to 18 -/
  sigma : Nat
  /-- window open offset ω, bytes 19 to 20 -/
  omega : Nat
  /-- knock window width, bytes 21 to 22 -/
  width : Nat
  /-- deadline allowance, bytes 23 to 24 -/
  allowance : Nat
  /-- warm-up length W, byte 25 -/
  warmUp : Nat
  /-- Channel A gain code, band code and weights, bytes 26 to 35 -/
  gainA : Nat
  bandA : Nat
  weightA : List Nat
  /-- Channel B gain code, band code and weights, bytes 36 to 45 -/
  gainB : Nat
  bandB : Nat
  weightB : List Nat
  /-- owner station per cylinder, bytes 46 to 53 -/
  owner : List Nat
  /-- deputy 1 and deputy 2 per cylinder (255 for none), bytes 54 to 69 -/
  deputy1 : List Nat
  deputy2 : List Nat
  /-- witness station set per cylinder, bit s for station s, bytes 70 to 85 -/
  witness : List Nat
  /-- misfire thresholds Mthr[0] to Mthr[7], bytes 86 to 101 -/
  mthr : List Nat
  /-- the seven rpm band edges, bytes 102 to 115 -/
  edges : List Nat
  /-- load scales S_load[0] to S_load[3], bytes 116 to 119 -/
  sLoad : List Nat
  /-- anti-lag factor A, byte 120 -/
  antiLag : Nat
  /-- knock threshold Kthr, bytes 121 to 122 -/
  kthr : Nat
  /-- foreign factor F, byte 123 -/
  foreign : Nat
  /-- reference shift k, byte 124 -/
  shift : Nat
  /-- learning length Lc, byte 125 -/
  learnLen : Nat
  /-- block length in cycles, bytes 126 to 127 -/
  blockLen : Nat
  /-- misfire rate limit in per-mille, bytes 128 to 129 -/
  rateLimit : Nat
  /-- knock limit, bytes 130 to 131 -/
  knockLimit : Nat
  /-- clear count, byte 132 -/
  clearCount : Nat
  /-- shock threshold, bytes 133 to 134 -/
  shockThr : Nat
  /-- shock hold in ms, bytes 135 to 136 -/
  shockHold : Nat
  /-- K_miss, byte 137 -/
  kMiss : Nat
  /-- rejoin length R, byte 138 -/
  rejoinLen : Nat
  /-- silence length D, byte 139 -/
  silenceLen : Nat
  /-- engine-manager station, byte 140 -/
  manager : Nat
  /-- order-source mask, bit s for station s, bytes 141 to 142 -/
  orderMask : Nat
  /-- status period in ms, bytes 143 to 144 -/
  statusMs : Nat
  /-- bit rate code, byte 145 -/
  bitRate : Nat
  /-- fallback rate code, byte 146 -/
  fallback : Nat
  /-- alert mask, bit s for source s, byte 147 -/
  alertMask : Nat
  /-- hold-off in 0.5 ms steps, byte 148 -/
  holdOff : Nat
  /-- fault mask, bit x for class x, bytes 149 to 150 -/
  faultMask : Nat
  /-- severity codes of PEER_SILENT and of CLASH, bytes 151 and 152 -/
  sevSilent : Nat
  sevClash : Nat
  deriving DecidableEq, Repr

/-- The parameters of a node that holds none (LOADING, UNCONFIGURED): no block reads them there. -/
def Image.blank : Image :=
  { n := 0, firing := [], teeth := 0, gap := 0, gapOffset := 0, camStart := 0, camWidth := 0, sigma := 0, omega := 0,
    width := 0, allowance := 0, warmUp := 0, gainA := 0, bandA := 0, weightA := [], gainB := 0, bandB := 0,
    weightB := [], owner := [], deputy1 := [], deputy2 := [], witness := [], mthr := [], edges := [], sLoad := [],
    antiLag := 0, kthr := 0, foreign := 0, shift := 0, learnLen := 0, blockLen := 0, rateLimit := 0, knockLimit := 0,
    clearCount := 0, shockThr := 0, shockHold := 0, kMiss := 0, rejoinLen := 0, silenceLen := 0, manager := 0,
    orderMask := 0, statusMs := 0, bitRate := 0, fallback := 0, alertMask := 0, holdOff := 0, faultMask := 0,
    sevSilent := 0, sevClash := 0 }

end Sys2Proof.Machine
end

