-- ==== Sys2Proof/Syntax.lean ====
section
/-! DEFINITION. The commands: one constructor of `Instr` per row of spec/opcode_table.json. The table gives no operand;
each command carries the instant `t` of the timebase at which it is taken, and what the outside brings with it (a
frame's sending station and payload, a sample, a level, the image's bytes). -/

namespace Sys2Proof

/-- The two knock channels. -/
inductive Chan where
  | a | b
  deriving DecidableEq, Repr

/-- Report kinds (R135). -/
inductive Kind where
  | jolt | phase | witness | verdict | order | tally | status | log
  deriving DecidableEq, Repr

/-- The kinds that only the Peer Table takes (R135, R167). -/
inductive PassiveKind where
  | tally | status | log
  deriving DecidableEq, Repr

/-- How the assembly of a frame ended (R136). -/
inductive FrameEnd where
  /-- the last character given was taken whole and the frame is complete -/
  | complete
  /-- a recessive cell was read where the start cell of the next character was due -/
  | startCellMissing
  /-- a dominant cell was read where the stop cell of the last character given was due -/
  | stopCellDominant
  deriving DecidableEq, Repr

/-- At a segment boundary the segment end and the segment peak reach the records in either order (R68, R130): the
world's choice, carried by the tooth edge. -/
inductive BoundaryOrder where
  | segmentEndFirst | peakFirst
  deriving DecidableEq, Repr

/-- The commands of the block. `t` is the instant at which the command is taken, `st` the sending station in a frame's
header; payload operands stand in the order and width of their bytes (R168). -/
inductive Instr where
  | resetNRelease (t : Tick) (straps : Station)
  | configReadDone (t : Tick) (bytes : List Byte)
  | configRetryTimer (t : Tick)
  | toothEdge (t : Tick) (order : BoundaryOrder)
  | stall (t : Tick)
  | camEdge (t : Tick)
  | interpolatedMark (t : Tick)
  | knockSample (t : Tick) (ch : Chan) (magnitude : BitVec 11)
  | probeEnd (t : Tick)
  | biasAboveThreshold (t : Tick) (ch : Chan)
  | biasBelowThreshold (t : Tick) (ch : Chan)
  | qualificationExpiry (t : Tick) (ch : Chan)
  | frameRejected (t : Tick) (chars : List Byte) (ending : FrameEnd)
  | ownStationFrame (t : Tick) (kind : Kind) (payload : List Byte)
  | peerReportReceived (t : Tick) (st : Station) (kind : PassiveKind) (payload : BitVec 64)
  | joltReceived (t : Tick) (st : Station) (peak hold : BitVec 16)
  | phaseReceived (t : Tick) (st : Station) (cutMask flags : Byte)
  | witnessReceived (t : Tick) (st : Station) (cyl : Byte) (score : BitVec 16) (flags : Byte)
  | verdictReceived (t : Tick) (st : Station) (b0 b1 : Byte) (score loss : BitVec 16) (count : Byte)
  | orderServe (t : Tick) (st : Station) (target arg1 arg2 : Byte)
  | orderClearCounts (t : Tick) (st : Station) (target arg1 arg2 : Byte)
  | orderRelearn (t : Tick) (st : Station) (target arg1 arg2 : Byte)
  | orderClearFaults (t : Tick) (st : Station) (target arg1 arg2 : Byte)
  | orderHold (t : Tick) (st : Station) (target arg1 arg2 : Byte)
  | orderResume (t : Tick) (st : Station) (target arg1 arg2 : Byte)
  | orderRestart (t : Tick) (st : Station) (target arg1 arg2 : Byte)
  | orderReport (t : Tick) (st : Station) (target arg1 arg2 : Byte)
  | orderUnknownCode (t : Tick) (st : Station) (target code arg1 arg2 : Byte)
  | interframeGapEnd (t : Tick)
  | stuckLine (t : Tick)
  | transmissionBegin (t : Tick)
  | arbitrationLost (t : Tick) (cell : Nat)
  | transmitClash (t : Tick) (cell : Nat)
  | transmissionEnd (t : Tick)
  | dwellTimerExpiry (t : Tick)
  | peerTimeoutTick (t : Tick)
  | shockHoldExpiry (t : Tick)
  | joltGuardExpiry (t : Tick)
  | holdOffExpiry (t : Tick)
  | listenEnd (t : Tick)
  | statusTimerExpiry (t : Tick)
  | envelopeExceedsShockPeak (t : Tick) (ch : Chan) (envelope : BitVec 16)
  | dominantCellBeforeGap (t : Tick)
  deriving DecidableEq, Repr

/-- The kind number, which is also the arbitration priority: a lower number wins (R135). -/
def Kind.code : Kind → Nat
  | .jolt => 1 | .phase => 2 | .witness => 3 | .verdict => 4
  | .order => 5 | .tally => 6 | .status => 7 | .log => 8

/-- The payload length of a kind (R135, R167). -/
def Kind.payloadLen : Kind → Nat
  | .jolt => 4 | .phase => 2 | .witness => 4 | .verdict => 7
  | .order => 4 | .tally => 8 | .status => 8 | .log => 8

/-- A passive kind as a kind. -/
def PassiveKind.kind : PassiveKind → Kind
  | .tally => .tally | .status => .status | .log => .log

/-- The kind with a given number: kind 0 and kinds 9 to 15 are unknown (R135). -/
def kindOfCode : Nat → Option Kind
  | 1 => some .jolt | 2 => some .phase | 3 => some .witness | 4 => some .verdict
  | 5 => some .order | 6 => some .tally | 7 => some .status | 8 => some .log
  | _ => none

/-- The instant at which a command is taken. -/
def Instr.instant : Instr → Tick
  | .resetNRelease t _ => t
  | .configReadDone t _ => t
  | .configRetryTimer t => t
  | .toothEdge t _ => t
  | .stall t => t
  | .camEdge t => t
  | .interpolatedMark t => t
  | .knockSample t _ _ => t
  | .probeEnd t => t
  | .biasAboveThreshold t _ => t
  | .biasBelowThreshold t _ => t
  | .qualificationExpiry t _ => t
  | .frameRejected t _ _ => t
  | .ownStationFrame t _ _ => t
  | .peerReportReceived t _ _ _ => t
  | .joltReceived t _ _ _ => t
  | .phaseReceived t _ _ _ => t
  | .witnessReceived t _ _ _ _ => t
  | .verdictReceived t _ _ _ _ _ _ => t
  | .orderServe t _ _ _ _ => t
  | .orderClearCounts t _ _ _ _ => t
  | .orderRelearn t _ _ _ _ => t
  | .orderClearFaults t _ _ _ _ => t
  | .orderHold t _ _ _ _ => t
  | .orderResume t _ _ _ _ => t
  | .orderRestart t _ _ _ _ => t
  | .orderReport t _ _ _ _ => t
  | .orderUnknownCode t _ _ _ _ _ => t
  | .interframeGapEnd t => t
  | .stuckLine t => t
  | .transmissionBegin t => t
  | .arbitrationLost t _ => t
  | .transmitClash t _ => t
  | .transmissionEnd t => t
  | .dwellTimerExpiry t => t
  | .peerTimeoutTick t => t
  | .shockHoldExpiry t => t
  | .joltGuardExpiry t => t
  | .holdOffExpiry t => t
  | .listenEnd t => t
  | .statusTimerExpiry t => t
  | .envelopeExceedsShockPeak t _ _ => t
  | .dominantCellBeforeGap t => t

end Sys2Proof
end

