-- ==== Sys2Proof/Decode.lean ====
section
/-! DEFINITION. The commands of this block are events on its pins and bus: the table gives no row any bits, so no word
spells a command. -/

namespace Sys2Proof

/-- The command that a word spells by the table's bits: the table gives bits to no row. -/
def decodeTableWord (_nbits _w : Nat) : Option Instr := none

end Sys2Proof
end

