-- ==== Sys2Proof/Machine/State.lean ====
section
/-! DEFINITION. The state of the node: every piece the spec names, block by block, as plain data, its power-on values and
the two outcome types. Timers hold the ticks left; `none` is idle or absent. -/

namespace Sys2Proof.Machine

/-! ## Node Control (chapter 10) -/

/-- Node states (Figure 10-1). -/
inductive NodeState where
  | loading | probing | joining | running | hold | withdrawn | unconfigured
  deriving DecidableEq, Repr

/-- The configuration port reader (R160). -/
inductive ConfigPort where
  /-- no read under way, CFG_CS_N released -/
  | idle
  /-- the read command for address 0 has been sent; the second read or the first -/
  | reading (second : Bool)
  /-- the 10 ms wait after the first failed read, ticks left -/
  | waiting (left : Nat)
  deriving DecidableEq, Repr

/-- Node Control's own state. -/
structure NodeCtl where
  /-- the node state (R162) -/
  state : NodeState
  /-- the configuration port reader (R160) -/
  port : ConfigPort
  /-- time left of the presence probe (R25) -/
  probe : Option Nat
  /-- time left of the listen of JOINING (R162) -/
  listen : Option Nat
  /-- the status timer (R166) -/
  statusTimer : Option Nat
  deriving DecidableEq, Repr

/-! ## Angle Tracker (chapter 1) -/

/-- Sync states (Figure 1-2). -/
inductive Sync where
  | stopped | seeking | crankLocked | phased
  deriving DecidableEq, Repr

/-- The revolution of the engine cycle under way (R1). -/
inductive Phase where
  | first | second
  deriving DecidableEq, Repr

/-- Kinds of angle mark (R15), in the order of R17 at equal angle. -/
inductive MarkKind where
  | cycle | firing | segment | windowOpen | windowClose | camWindowEnd | deadline
  deriving DecidableEq, Repr

/-- An entry of the pending mark list (R16). -/
structure PendingMark where
  kind : MarkKind
  /-- the mark's cycle angle -/
  angle : Nat
  /-- firing position, where the kind carries one -/
  pos : Option Nat
  /-- forward advance of the tracker's angle still needed to reach the mark; 0 or less once reached or passed -/
  dist : Int
  deriving DecidableEq, Repr

/-- The Angle Tracker's state (R2's table). -/
structure Tracker where
  sync : Sync
  lastEdge : Option Tick
  /-- T_{j-1} -/
  periodPrev : Option Nat
  /-- T_j -/
  periodCur : Option Nat
  /-- the span of T_j in pitches: 1 or g + 1 -/
  span : Option Nat
  perPitch : Option Nat
  refCount : Option Nat
  toothIndex : Option Nat
  edgeAngle : Option Nat
  /-- the interpolated angle (R14) as of the timebase value held -/
  angle : Option Nat
  phase : Option Phase
  cycleCount : BitVec 16
  warmUp : Nat
  camMiss : Nat
  camSeen : Bool
  /-- segment chain: timestamp of the latest segment boundary -/
  chain : Option Tick
  /-- pending mark list, in order of issue -/
  marks : List PendingMark
  /-- stall watchdog, time left (R8) -/
  stallLeft : Option Nat
  deriving DecidableEq, Repr

/-! ## Knock Channels (chapter 2) -/

/-- Channel states (Figure 2-2). -/
inductive ChanState where
  | unprobed | enabled | disabled
  deriving DecidableEq, Repr

/-- The window integrator (R24, R29, R30). -/
inductive Integrator where
  | idle
  | running (pos cyl : Nat) (opened : Tick) (sum count : Nat) (clipped : Bool)
  deriving DecidableEq, Repr

/-- One knock channel (R24's table), with the level of its input pins. -/
structure Channel where
  state : ChanState
  biasOn : Bool
  openFault : Bool
  qualification : Option Nat
  integrator : Integrator
  shockPeak : Nat
  /-- the input's resting level: how long it has been above the open threshold (held at the probe's length), or
  `none` while it is below -/
  levelAbove : Option Nat
  deriving DecidableEq, Repr

/-! ## Segment Estimator (chapter 3) -/

/-- The period history (R41). -/
structure Estimator where
  depth : Nat
  t0 : Option Nat
  t1 : Option Nat
  t2 : Option Nat
  deriving DecidableEq, Repr

/-! ## Record Table (chapter 4) -/

/-- Record states (Figure 4-2). -/
inductive RecState where
  | gathering | waiting
  deriving DecidableEq, Repr

/-- Channel evidence of a record (R57, R62). -/
structure Evidence where
  energy : Option Nat
  weight : Nat
  learning : Bool
  deriving DecidableEq, Repr

/-- A weight and a ratio that count in the combined score (R76). -/
structure Contribution where
  weight : Nat
  ratio : Nat
  deriving DecidableEq, Repr

/-- An entry of a witness list (R57). -/
structure WitnessEntry where
  station : Station
  score : Nat
  weight : Nat
  learning : Bool
  deriving DecidableEq, Repr

/-- A combustion record (R57's table). -/
structure Record where
  slot : Nat
  cyl : Nat
  pos : Nat
  state : RecState
  windowTaken : Bool
  segmentTaken : Bool
  evidenceA : Option Evidence
  evidenceB : Option Evidence
  ownA : Option Contribution
  ownB : Option Contribution
  learning : Bool
  loss : Option Int
  band : Nat
  witnesses : List WitnessEntry
  expected : List Station
  cut : Bool
  antiLag : Bool
  loadBand : Option Nat
  stale : Bool
  shock : Bool
  deputy : Bool
  deriving DecidableEq, Repr

/-! ## Cylinder Table and ownership (chapters 5 and 6) -/

/-- Roles (R82, R83). -/
inductive Role where
  | owner | deputyStandby | deputyActive | witness | none
  deriving DecidableEq, Repr

/-- Entries of a misfire history (R90). -/
inductive FireEntry where
  | fired | misfire
  deriving DecidableEq, Repr

/-- The entry of a knock history (R91). -/
inductive KnockEntry where
  | quiet | knock
  deriving DecidableEq, Repr

/-- The block counters of a cylinder (R82). -/
structure Block where
  assessed : Nat
  misfires : Nat
  knocks : Nat
  suspects : Nat
  cycles : Nat
  deriving DecidableEq, Repr

/-- A cylinder's entry (R82's table), with the heard flag of R114. -/
structure CylEntry where
  role : Role
  rank : Option Nat
  silence : Nat
  heard : Bool
  refA : Nat
  refB : Nat
  learnA : Nat
  learnB : Nat
  misfireHistory : List FireEntry
  knockHistory : Option KnockEntry
  block : Block
  counted : Bool
  misfireAlarm : Bool
  knockAlarm : Bool
  dead : Bool
  clearRun : Nat
  aborts : Nat
  deriving DecidableEq, Repr

/-! ## Peer Table (chapter 6) -/

/-- Peer states (Figure 6-1). -/
inductive PeerState where
  | unknown | active | silent | rejoining
  deriving DecidableEq, Repr

/-- A peer's entry (R103's table). -/
structure PeerEntry where
  state : PeerState
  lastHeard : Option Tick
  misses : Nat
  rejoinRun : Nat
  expectedFor : Bool
  deriving DecidableEq, Repr

/-! ## Context Unit (chapter 7) -/

/-- The engine context a PHASE reports (R121); bit c - 1 of the cut mask stands for cylinder c. -/
structure EngineContext where
  cutMask : Byte
  antiLag : Bool
  loadBand : Nat
  deriving DecidableEq, Repr

/-- What last set the shock hold's expiry (R126). -/
inductive HoldCause where
  | ownShock
  | station (st : Station)
  deriving DecidableEq, Repr

/-- An ACTIVE shock hold: its time remaining and its cause (R121). -/
structure ShockHold where
  left : Nat
  cause : HoldCause
  deriving DecidableEq, Repr

/-- The Context Unit (R121's table); the hold is INACTIVE when absent. -/
structure Context where
  current : EngineContext
  pendingCtx : Option EngineContext
  freshness : Nat
  hold : Option ShockHold
  joltGuard : Option Nat
  deriving DecidableEq, Repr

/-! ## Link Controller (chapter 8) -/

/-- Rate modes (R133). -/
inductive RateMode where
  | fixed | acquire
  deriving DecidableEq, Repr

/-- Acquisition states (R143). -/
inductive Acq where
  | hunt | confirm | locked
  deriving DecidableEq, Repr

/-- Bit rates in kbit/s (R133). -/
inductive Rate where
  | k125 | k250 | k500 | k1000
  deriving DecidableEq, Repr

/-- Receiver states (R136). -/
inductive Receiver where
  | idle | assembling | discarding
  deriving DecidableEq, Repr

/-- An entry of the transmit queue (R145): kind, cylinder of its coalescing key, contents, and its place in the order of
first queuing. -/
structure TxEntry where
  kind : Kind
  cyl : Option Nat
  payload : List Byte
  age : Nat
  deriving DecidableEq, Repr

/-- The transmitter (R139): the entry under way, whether a removal event has taken it meanwhile (R140), and the ticks left
of the header character. -/
inductive Transmitter where
  | idle
  | arbitrating (e : TxEntry) (removed : Bool) (left : Nat)
  | sending (e : TxEntry)
  deriving DecidableEq, Repr

/-- The Link Controller (R133's table). -/
structure Link where
  mode : Option RateMode
  acq : Option Acq
  rate : Option Rate
  fallback : Option Rate
  dwell : Option Nat
  rounds : Nat
  confirms : Nat
  failures : Nat
  dominantRun : Nat
  recessiveRun : Nat
  inhibit : Bool
  receiver : Receiver
  transmitter : Transmitter
  queue : List TxEntry
  /-- the place the next new entry takes in the order of first queuing (R145) -/
  nextAge : Nat
  deriving DecidableEq, Repr

/-! ## Fault Unit and Alert Unit (chapter 9) -/

/-- The sixteen fault classes (R149), in class order. -/
inductive FaultClass where
  | check | malformed | refused | queueOverflow | configInvalid | lateWitness | peerSilent | ownershipConflict
  | clash | stuckLine | rateLost | sensorOpen | sensorClipped | crankLost | camMismatch | contextStale
  deriving DecidableEq, Repr

/-- Severities (R149). -/
inductive Severity where
  | advisory | degrading | withdrawing
  deriving DecidableEq, Repr

/-- Service levels (R152). -/
inductive Service where
  | full | degraded | withdrawn
  deriving DecidableEq, Repr

/-- One fault class (R148's table). -/
structure ClassState where
  status : Bool
  count : Nat
  mask : Bool
  severity : Severity
  deriving DecidableEq, Repr

/-- The contents of the first-fault record (R150). -/
structure FirstFault where
  cls : FaultClass
  cycle : BitVec 16
  angle : Option Nat
  station : Option Station
  kind : Option Nat
  cyl : Option Nat
  service : Service
  deriving DecidableEq, Repr

/-- The Fault Unit (R148); the first-fault record is EMPTY when absent. -/
structure FaultUnit where
  /-- one entry per class, in class order -/
  classes : List ClassState
  first : Option FirstFault
  overflow : Bool
  service : Service
  deriving DecidableEq, Repr

/-- The eight alert sources (R155), in source order. -/
inductive AlertSource where
  | misfireAlarm | deadCylinder | knockAlarm | heavyKnock | serviceChange | firstFault | peerSilent | ownershipChange
  deriving DecidableEq, Repr

/-- One alert source (R155's table). -/
structure SourceState where
  latch : Bool
  latest : BitVec 8
  mask : Bool
  deriving DecidableEq, Repr

/-- States of the ALERT line (R157). -/
inductive AlertLine where
  | released | asserted | holdoff
  deriving DecidableEq, Repr

/-- The Alert Unit (R155). -/
structure AlertUnit where
  /-- one entry per source, in source order -/
  sources : List SourceState
  raiseSeq : BitVec 8
  line : AlertLine
  holdOff : Option Nat
  deriving DecidableEq, Repr

end Sys2Proof.Machine

namespace Sys2Proof.Machine

/-- The state of the node. -/
structure State where
  /-- the commands that wait, first in, first out (the model's own field) -/
  pending : List Instr
  /-- the 32-bit timebase (R1) -/
  now : Tick
  /-- the station number sampled from STN[3:0] (R160) -/
  station : Station
  /-- Node Control -/
  node : NodeCtl
  /-- the accepted configuration image (R160); absent in LOADING and UNCONFIGURED -/
  image : Option Image
  /-- Angle Tracker -/
  tracker : Tracker
  /-- Knock Channel A -/
  chanA : Channel
  /-- Knock Channel B -/
  chanB : Channel
  /-- Segment Estimator -/
  estimator : Estimator
  /-- Record Table: eight slots, `none` where free (R57) -/
  records : List (Option Record)
  /-- Cylinder Table: cylinder c at index c - 1 (R82) -/
  cylinders : List CylEntry
  /-- the latest cycle mark was taken while the node was RUNNING (R93) -/
  markCounted : Bool
  /-- Peer Table: station s at index s; the node's own entry is never used (R103) -/
  peers : List PeerEntry
  /-- Context Unit -/
  context : Context
  /-- Link Controller -/
  link : Link
  /-- Fault Unit -/
  faults : FaultUnit
  /-- Alert Unit -/
  alert : AlertUnit
  /-- a withdrawal has been passed in the event under way (R151); false between commands (the model's own field) -/
  withdrawDue : Bool
  deriving DecidableEq, Repr

/-- The reasons for a stop. There is none: the spec gives every command an effect in every state. -/
inductive Fault : Type
  deriving DecidableEq, Repr

/-- The reasons for a refusal. -/
inductive Refusal where
  /-- Raised by `exec` for a command whose meaning is not modelled yet; safe, since nothing can be proved of it. No arm
  raises it now. -/
  | notModelled (mnemonic : String)
  deriving DecidableEq, Repr

/-! ## Power-on values -/

/-- R2, column "Power-on" (and "After RESTART", which is the same). -/
def Tracker.powerOn : Tracker :=
  { sync := .stopped, lastEdge := none, periodPrev := none, periodCur := none, span := none, perPitch := none,
    refCount := none, toothIndex := none, edgeAngle := none, angle := none, phase := none, cycleCount := 0,
    warmUp := 0, camMiss := 0, camSeen := false, chain := none, marks := [], stallLeft := none }

/-- R24, column "Power-on". The input's level stands below the threshold (DESIGN CHOICE, log entry 3). -/
def Channel.powerOn : Channel :=
  { state := .unprobed, biasOn := false, openFault := false, qualification := none, integrator := .idle,
    shockPeak := 0, levelAbove := none }

/-- R41: the empty history. -/
def Estimator.empty : Estimator := { depth := 0, t0 := none, t1 := none, t2 := none }

/-- R82: cleared block counters. -/
def Block.zero : Block := { assessed := 0, misfires := 0, knocks := 0, suspects := 0, cycles := 0 }

/-- R82, column "Power-on". -/
def CylEntry.powerOn : CylEntry :=
  { role := .none, rank := none, silence := 0, heard := false, refA := 16, refB := 16, learnA := 0, learnB := 0,
    misfireHistory := [], knockHistory := none, block := Block.zero, counted := false, misfireAlarm := false,
    knockAlarm := false, dead := false, clearRun := 0, aborts := 0 }

/-- R103, column "Power-on" (expected-for is set when an image is accepted, R104). -/
def PeerEntry.powerOn : PeerEntry :=
  { state := .unknown, lastHeard := none, misses := 0, rejoinRun := 0, expectedFor := false }

/-- R121, column "Power-on" (and "After RESTART", which is the same). -/
def Context.powerOn : Context :=
  { current := { cutMask := 0, antiLag := false, loadBand := 0 }, pendingCtx := none, freshness := 5, hold := none,
    joltGuard := none }

/-- R133, column "Power-on". -/
def Link.powerOn : Link :=
  { mode := none, acq := none, rate := none, fallback := none, dwell := none, rounds := 0, confirms := 0,
    failures := 0, dominantRun := 0, recessiveRun := 0, inhibit := false, receiver := .idle, transmitter := .idle,
    queue := [], nextAge := 0 }

/-- R148, R149: a class with its power-on severity. -/
def ClassState.powerOn (sev : Severity) : ClassState :=
  { status := false, count := 0, mask := false, severity := sev }

/-- R148, R149: the Fault Unit at power-on, its severities in class order. -/
def FaultUnit.powerOn : FaultUnit :=
  { classes :=
      [ ClassState.powerOn .advisory, ClassState.powerOn .advisory, ClassState.powerOn .advisory,
        ClassState.powerOn .advisory, ClassState.powerOn .withdrawing, ClassState.powerOn .advisory,
        ClassState.powerOn .advisory, ClassState.powerOn .advisory, ClassState.powerOn .withdrawing,
        ClassState.powerOn .degrading, ClassState.powerOn .advisory, ClassState.powerOn .degrading,
        ClassState.powerOn .advisory, ClassState.powerOn .degrading, ClassState.powerOn .degrading,
        ClassState.powerOn .degrading ],
    first := none, overflow := false, service := .degraded }

/-- R155: a source at power-on. -/
def SourceState.powerOn : SourceState := { latch := false, latest := 0, mask := false }

/-- R155, column "Power-on". -/
def AlertUnit.powerOn : AlertUnit :=
  { sources := List.replicate 8 SourceState.powerOn, raiseSeq := 0, line := .released, holdOff := none }

/-- Node Control while RESET_N holds the node: nothing runs. -/
def NodeCtl.powerOn : NodeCtl :=
  { state := .loading, port := .idle, probe := none, listen := none, statusTimer := none }

/-- The node held in reset: every block at its power-on value, no configuration read under way yet (it starts with
RESET_N_RELEASE), nothing waiting. -/
def State.reset : State :=
  { pending := [], now := 0, station := 0, node := NodeCtl.powerOn, image := none, tracker := Tracker.powerOn,
    chanA := Channel.powerOn, chanB := Channel.powerOn, estimator := Estimator.empty,
    records := List.replicate 8 none, cylinders := List.replicate 8 CylEntry.powerOn, markCounted := false,
    peers := List.replicate 16 PeerEntry.powerOn, context := Context.powerOn, link := Link.powerOn,
    faults := FaultUnit.powerOn, alert := AlertUnit.powerOn, withdrawDue := false }

end Sys2Proof.Machine
end

