-- ==== Sys2Proof/Machine/Formats.lean ====
section
/-! DEFINITION. Frames and report layouts: the CRC-8 of R135, the header of R167, the payloads the node sends (R168,
R169), and the judgement of a frame that ended in failure (R136, R137). -/

namespace Sys2Proof.Machine

/-! ## CRC-8 (R135) -/

/-- One shift of the register toward its most significant end. -/
def crcShift (r : Byte) : Byte := if r.getLsbD 7 then (r <<< 1) ^^^ 0x1D#8 else r <<< 1

/-- One byte combined into the register, then eight shifts. -/
def crcByte (r b : Byte) : Byte :=
  crcShift (crcShift (crcShift (crcShift (crcShift (crcShift (crcShift (crcShift (r ^^^ b))))))))

/-- The CRC-8 of a run of bytes, from FFh (R135; also the image's check byte, R160). -/
def crc8 (bytes : List Byte) : Byte := bytes.foldl crcByte 0xFF#8

/-! ## Frames (R135, R167) -/

/-- The header byte: kind in bits 7 to 4, station in bits 3 to 0. -/
def headerByte (kindCode : Nat) (st : Station) : Byte := byteOf (kindCode * 16 + st.val)

/-- The characters of a frame without its check: header, length, payload. -/
def frameBody (k : Kind) (st : Station) (payload : List Byte) : List Byte :=
  headerByte k.code st :: byteOf payload.length :: payload

/-- The characters of a frame: header, length, payload, check. -/
def frameChars (k : Kind) (st : Station) (payload : List Byte) : List Byte :=
  frameBody k st payload ++ [crc8 (frameBody k st payload)]

/-- The levels of a character's ten cells, `true` recessive: start, data most significant bit first, stop (R134). -/
def charCells (b : Byte) : List Bool :=
  [false, b.getLsbD 7, b.getLsbD 6, b.getLsbD 5, b.getLsbD 4, b.getLsbD 3, b.getLsbD 2, b.getLsbD 1, b.getLsbD 0, true]

/-! ## Judging a frame that did not pass (R136, R137) -/

/-- What the receive checks find. -/
inductive FrameJudgement where
  /-- check 1: truncated, with the header character when it was taken whole -/
  | truncated (header : Option Byte)
  /-- a length above 8, which ends the assembly at once: check 3 without checks 1 and 2 -/
  | overlong (header : Byte)
  /-- check 2 -/
  | badCheck (header : Byte)
  /-- check 3: unknown kind, or a length that is not the kind's -/
  | malformed (header : Byte)
  /-- all three checks pass -/
  | valid
  deriving DecidableEq, Repr

/-- R137, check 3: the kind is known and the length is the kind's payload length. -/
def kindLengthOk (header len : Byte) : Bool :=
  match kindOfCode (header.toNat / 16) with
  | some k => len.toNat == k.payloadLen
  | none => false

/-- The receive checks over the characters taken and the way the assembly ended. The last character of a
`stopCellDominant` ending was not taken whole. An ending that its characters contradict (a start cell missing after the last
character of a whole frame, a complete frame with too few or too many characters) is judged truncated (DESIGN CHOICE, log
entry 19). -/
def judgeFrame (chars : List Byte) (ending : FrameEnd) : FrameJudgement :=
  match ending, chars with
  | .stopCellDominant, header :: len :: _ :: _ => if len.toNat > 8 then .overlong header else .truncated (some header)
  | .stopCellDominant, header :: _ :: [] => .truncated (some header)
  | .stopCellDominant, _ => .truncated none
  | .startCellMissing, header :: len :: _ => if len.toNat > 8 then .overlong header else .truncated (some header)
  | .startCellMissing, header :: [] => .truncated (some header)
  | .startCellMissing, [] => .truncated none
  | .complete, header :: len :: rest =>
    if len.toNat > 8 then .overlong header
    else if rest.length != len.toNat + 1 then .truncated (some header)
    else if crc8 (header :: len :: rest.dropLast) != rest.getLastD 0 then .badCheck header
    else if kindLengthOk header len then .valid
    else .malformed header
  | .complete, header :: [] => .truncated (some header)
  | .complete, [] => .truncated none

/-- The station in a header byte. -/
def headerStation (h : Byte) : Station := Fin.ofNat 16 h.toNat

/-- The kind number in a header byte. -/
def headerKind (h : Byte) : Nat := h.toNat / 16

/-! ## Codes (R168, R169) -/

/-- Misfire parts of a verdict (R75). -/
inductive MisfirePart where
  | fired | misfire | suspect | intended | unassessed
  deriving DecidableEq, Repr

/-- Knock parts of a verdict (R78). -/
inductive KnockPart where
  | quiet | light | heavy | foreign | learning | unassessed | none
  deriving DecidableEq, Repr

def MisfirePart.code : MisfirePart → Nat
  | .fired => 0 | .misfire => 1 | .suspect => 2 | .intended => 3 | .unassessed => 4

def KnockPart.code : KnockPart → Nat
  | .quiet => 0 | .light => 1 | .heavy => 2 | .foreign => 3 | .learning => 4 | .unassessed => 5 | .none => 6

def NodeState.code : NodeState → Nat
  | .loading => 0 | .probing => 1 | .joining => 2 | .running => 3 | .hold => 4 | .withdrawn => 5 | .unconfigured => 6

def Service.code : Service → Nat
  | .full => 0 | .degraded => 1 | .withdrawn => 2

def Sync.code : Sync → Nat
  | .stopped => 0 | .seeking => 1 | .crankLocked => 2 | .phased => 3

def Acq.code : Acq → Nat
  | .hunt => 0 | .confirm => 1 | .locked => 2

def Severity.code : Severity → Nat
  | .advisory => 0 | .degrading => 1 | .withdrawing => 2

/-! ## Payloads the node sends (R168, R169) -/

/-- JOLT: the peak and the configured hold in ms. -/
def joltPayload (peak holdMs : Nat) : List Byte := bytes16 peak ++ bytes16 holdMs

/-- WITNESS. -/
def witnessPayload (cyl score weight : Nat) (learning : Bool) : List Byte :=
  byteOf cyl :: bytes16 score ++ [byteOf (bitAt 7 learning + weight % 32)]

/-- The loss field of a VERDICT: two's complement, 8000h when absent. -/
def lossWord (loss : Option Int) : BitVec 16 :=
  match loss with
  | some l => BitVec.ofInt 16 l
  | none => 0x8000#16

/-- VERDICT. -/
def verdictPayload (cyl : Nat) (deputy stale missing : Bool) (m : MisfirePart) (k : KnockPart) (q : Nat)
    (loss : Option Int) (count : Nat) : List Byte :=
  byteOf (bitAt 7 deputy + bitAt 6 stale + bitAt 5 missing + cyl % 16)
    :: byteOf (m.code * 16 + k.code) :: bytes16 q ++ bytesOfWord (lossWord loss) ++ [byteOf count]

/-- TALLY. -/
def tallyPayload (cyl assessed misfires knocks : Nat) (misfireAlarm knockAlarm dead thin suspect abort knocking : Bool) :
    List Byte :=
  byteOf cyl :: bytes16 assessed ++ bytes16 misfires ++ bytes16 knocks
    ++ [byteOf (bitAt 0 misfireAlarm + bitAt 1 knockAlarm + bitAt 2 dead + bitAt 3 thin + bitAt 4 suspect
        + bitAt 5 abort + bitAt 6 knocking)]

/-- LOG of the first-fault form (R154, R169). While the record is EMPTY bit 7 of byte 1 is clear and every byte after byte 1
is 0; the class nibble of byte 1, for which R169 gives no value then, is sent as 0. In a FULL one, the nibble of byte 6 whose
station or kind is absent, for which R169 gives no value, is sent as 0 (DESIGN CHOICE, log entry 29). -/
def firstFaultLog (first : Option FirstFault) (overflow : Bool) (classCode : FaultClass → Nat) : List Byte :=
  match first with
  | none => List.replicate 8 0#8
  | some f =>
    [0#8, byteOf (128 + bitAt 6 overflow + classCode f.cls)] ++ bytesOfWord f.cycle ++ bytes16 (f.angle.getD 0xFFFF)
      ++ [ byteOf ((match f.station with | some st => st.val | none => 0) * 16 + f.kind.getD 0),
           byteOf (bitAt 7 f.station.isNone + bitAt 6 f.kind.isNone + f.service.code * 16 + f.cyl.getD 0) ]

/-- LOG of the class form, for class `selector - 1` (R154, R169). -/
def classLog (selector : Nat) (c : ClassState) : List Byte :=
  [ byteOf selector, byteOf (selector - 1), byteOf (bitAt 7 c.status + bitAt 6 c.mask + c.severity.code),
    byteOf c.count, 0#8, 0#8, 0#8, 0#8 ]

end Sys2Proof.Machine
end

