-- ==== Sys2Proof/Machine/Ops.lean ====
section
/-! DEFINITION. The operations every block shares: named updates and reads of the state, the engine's geometry, and the
passing of time (timers, watchdog and interpolated angle brought to the instant of a command). -/

namespace Sys2Proof.Machine

/-! ## Named updates, one per block -/

def State.onNode (f : NodeCtl → NodeCtl) (s : State) : State := { s with node := f s.node }
def State.onTracker (f : Tracker → Tracker) (s : State) : State := { s with tracker := f s.tracker }
def State.onChanA (f : Channel → Channel) (s : State) : State := { s with chanA := f s.chanA }
def State.onChanB (f : Channel → Channel) (s : State) : State := { s with chanB := f s.chanB }
def State.onEstimator (f : Estimator → Estimator) (s : State) : State := { s with estimator := f s.estimator }
def State.onRecords (f : List (Option Record) → List (Option Record)) (s : State) : State :=
  { s with records := f s.records }
def State.onCylinders (f : List CylEntry → List CylEntry) (s : State) : State := { s with cylinders := f s.cylinders }
def State.onPeers (f : List PeerEntry → List PeerEntry) (s : State) : State := { s with peers := f s.peers }
def State.onContext (f : Context → Context) (s : State) : State := { s with context := f s.context }
def State.onLink (f : Link → Link) (s : State) : State := { s with link := f s.link }
def State.onFaults (f : FaultUnit → FaultUnit) (s : State) : State := { s with faults := f s.faults }
def State.onAlert (f : AlertUnit → AlertUnit) (s : State) : State := { s with alert := f s.alert }
def State.setImage (im : Option Image) (s : State) : State := { s with image := im }
def State.setMarkCounted (b : Bool) (s : State) : State := { s with markCounted := b }
def State.setWithdrawDue (b : Bool) (s : State) : State := { s with withdrawDue := b }

/-! ## Reads and updates of one entry -/

/-- The parameters in use (R160). -/
def State.params (s : State) : Image := s.image.getD Image.blank

/-- One knock channel. -/
def State.chan (s : State) : Chan → Channel
  | .a => s.chanA
  | .b => s.chanB

/-- Update one knock channel. -/
def State.onChan (ch : Chan) (f : Channel → Channel) (s : State) : State :=
  match ch with
  | .a => s.onChanA f
  | .b => s.onChanB f

/-- Update both knock channels alike. -/
def State.onChans (f : Channel → Channel) (s : State) : State := (s.onChanA f).onChanB f

/-- The Cylinder Table's entry of a cylinder, 1 to 8 (R82). -/
def State.cyl (s : State) (c : Nat) : CylEntry := s.cylinders.getD (c - 1) CylEntry.powerOn

/-- Update the entry of a cylinder. -/
def State.onCyl (c : Nat) (f : CylEntry → CylEntry) (s : State) : State := s.onCylinders (·.modify (c - 1) f)

/-- The Peer Table's entry of a station (R103). -/
def State.peer (s : State) (st : Station) : PeerEntry := s.peers.getD st.val PeerEntry.powerOn

/-- Update the entry of a station. -/
def State.onPeer (st : Station) (f : PeerEntry → PeerEntry) (s : State) : State := s.onPeers (·.modify st.val f)

/-- The station numbers, ascending. -/
def allStations : List Station := [0, 1, 2, 3, 4, 5, 6, 7, 8, 9, 10, 11, 12, 13, 14, 15]

/-- The cylinder numbers, ascending. -/
def allCylinders : List Nat := [1, 2, 3, 4, 5, 6, 7, 8]

/-- The place of a fault class in the Fault Unit's list (R149). -/
def FaultClass.index : FaultClass → Nat
  | .check => 0 | .malformed => 1 | .refused => 2 | .queueOverflow => 3 | .configInvalid => 4 | .lateWitness => 5
  | .peerSilent => 6 | .ownershipConflict => 7 | .clash => 8 | .stuckLine => 9 | .rateLost => 10 | .sensorOpen => 11
  | .sensorClipped => 12 | .crankLost => 13 | .camMismatch => 14 | .contextStale => 15

/-- A class of the Fault Unit. -/
def FaultUnit.cls (f : FaultUnit) (c : FaultClass) : ClassState :=
  f.classes.getD c.index (ClassState.powerOn .advisory)

/-- The place of an alert source in the Alert Unit's list (R155). -/
def AlertSource.index : AlertSource → Nat
  | .misfireAlarm => 0 | .deadCylinder => 1 | .knockAlarm => 2 | .heavyKnock => 3
  | .serviceChange => 4 | .firstFault => 5 | .peerSilent => 6 | .ownershipChange => 7

/-- A source of the Alert Unit. -/
def AlertUnit.src (a : AlertUnit) (x : AlertSource) : SourceState := a.sources.getD x.index SourceState.powerOn

/-! ## The image's geometry (chapter 1) and per-cylinder fields -/

/-- The pitch P in angle units (R1). -/
def Image.pitch (im : Image) : Nat := 3600 / im.teeth

/-- The number of real teeth, N_t - g (R1). -/
def Image.realTeeth (im : Image) : Nat := im.teeth - im.gap

/-- The firing interval S = 7200 ÷ n (R15). -/
def Image.interval (im : Image) : Nat := 7200 / im.n

/-- The deadline offset D (R15). -/
def Image.deadlineOffset (im : Image) : Nat :=
  max (im.sigma + im.interval) (im.omega + im.width) + im.allowance

/-- The crank-revolution angle of real tooth `i` (R1). -/
def Image.toothAngle (im : Image) (i : Nat) : Nat := (im.gapOffset + i * im.pitch) % 3600

/-- The crank-revolution angle of the segment boundary of position `k` (R19). -/
def Image.boundaryAngle (im : Image) (k : Nat) : Nat := (im.sigma + k * im.interval) % 3600

/-- Whether an accepted edge at this crank-revolution angle is a segment boundary in CRANK_LOCKED: only for an even
cylinder count (R19). -/
def Image.isLockedBoundary (im : Image) (angle : Nat) : Bool :=
  im.n % 2 == 0 && (List.range (im.n / 2)).any (fun k => im.boundaryAngle k == angle % 3600)

/-- Whether a cycle angle lies inside the cam window (R1). -/
def Image.inCamWindow (im : Image) (x : Nat) : Bool := (x + 7200 - im.camStart) % 7200 < im.camWidth

/-- The cylinder that the firing order places at a position (R15). -/
def Image.cylAt (im : Image) (k : Nat) : Nat := im.firing.getD k 0

/-- The weight a channel holds for a cylinder (R23). -/
def Image.weight (im : Image) (ch : Chan) (c : Nat) : Nat :=
  match ch with
  | .a => im.weightA.getD (c - 1) 0
  | .b => im.weightB.getD (c - 1) 0

/-- Whether a channel holds a nonzero weight for some cylinder (R28). -/
def Image.weighted (im : Image) (ch : Chan) : Bool :=
  match ch with
  | .a => im.weightA.any (· != 0)
  | .b => im.weightB.any (· != 0)

/-- The configured witness station set of a cylinder, ascending (R170). -/
def Image.witnessSet (im : Image) (c : Nat) : List Station :=
  allStations.filter (fun st => (im.witness.getD (c - 1) 0).testBit st.val)

/-- Ticks of a number of milliseconds. -/
def msTicks (ms : Nat) : Nat := ms * Config.ticksPerMs

/-- The status period of the node in ms: the configured one, or 100 ms in UNCONFIGURED (R161, R166). -/
def State.statusMs (s : State) : Nat :=
  if s.node.state = .unconfigured then Config.unconfiguredStatusMs else s.params.statusMs

/-! ## Passing of time -/

/-- A timer counts down and stands at 0 when it has run out and its expiry has not been taken yet. -/
def countDown (d : Nat) (timer : Option Nat) : Option Nat := timer.map (· - d)

/-- A timer has run out. Its expiry is taken only then: with ticks left, and idle, it has none to take. -/
def ranOut (timer : Option Nat) : Bool := timer == some 0

def ConfigPort.elapse (d : Nat) : ConfigPort → ConfigPort
  | .waiting left => .waiting (left - d)
  | p => p

def NodeCtl.elapse (d : Nat) (n : NodeCtl) : NodeCtl :=
  { n with port := n.port.elapse d, probe := countDown d n.probe, listen := countDown d n.listen,
           statusTimer := countDown d n.statusTimer }

/-- The qualification timer counts down; a level above the threshold has been there longer (held at the probe's length). -/
def Channel.elapse (d : Nat) (c : Channel) : Channel :=
  { c with qualification := countDown d c.qualification,
           levelAbove := c.levelAbove.map (fun u => min (u + d) Config.probeTicks) }

def Context.elapse (d : Nat) (c : Context) : Context :=
  { c with hold := c.hold.map (fun h => { h with left := h.left - d }), joltGuard := countDown d c.joltGuard }

/-- R139: ARBITRATING through the header character, SENDING after it. -/
def Transmitter.elapse (d : Nat) : Transmitter → Transmitter
  | .arbitrating e removed left => if left ≤ d then .sending e else .arbitrating e removed (left - d)
  | tx => tx

def Link.elapse (d : Nat) (l : Link) : Link :=
  { l with dwell := countDown d l.dwell, transmitter := l.transmitter.elapse d }

def AlertUnit.elapse (d : Nat) (a : AlertUnit) : AlertUnit := { a with holdOff := countDown d a.holdOff }

/-- R14: how far the angle has been interpolated past the latest tooth, held one unit short of the next expected tooth. -/
def Tracker.heldAdvance (im : Image) (now : Tick) (tr : Tracker) : Nat :=
  let e := match tr.lastEdge with
    | some u => ticksFrom u now
    | none => 0
  let toNext := if tr.toothIndex.getD 0 + 1 = im.realTeeth then im.gap + 1 else 1
  min (e * im.pitch / tr.perPitch.getD 1) (toNext * im.pitch - 1)

/-- R1: the revolution that a cycle angle lies in. -/
def phaseOf (cycleAngle : Nat) : Phase := if cycleAngle < 3600 then .first else .second

/-- R17: in PHASED, advance the tracker's angle forward to `a`, and every entry's distance falls by the advance. -/
def Tracker.moveTo (a : Nat) (tr : Tracker) : Tracker :=
  let adv : Nat := (a + 7200 - tr.angle.getD 0) % 7200
  { tr with angle := some a, phase := some (phaseOf a),
            marks := tr.marks.map (fun m => { m with dist := m.dist - (adv : Int) }) }

/-- R14, R17: the interpolated angle as time passes. -/
def Tracker.interpolate (im : Image) (now : Tick) (tr : Tracker) : Tracker :=
  match tr.sync with
  | .phased => tr.moveTo ((tr.edgeAngle.getD 0 + tr.heldAdvance im now) % 7200)
  | .crankLocked => { tr with angle := some ((tr.edgeAngle.getD 0 + tr.heldAdvance im now) % 3600) }
  | _ => tr

def Tracker.elapse (im : Image) (now : Tick) (d : Nat) (tr : Tracker) : Tracker :=
  ({ tr with stallLeft := countDown d tr.stallLeft } : Tracker).interpolate im now

/-- The node at the instant `t`: the timebase, every timer and the interpolated angle brought forward from the instant
of the command before. No expiry is taken here: each is a command of its own. -/
def State.advance (t : Tick) (s : State) : State :=
  let d := ticksFrom s.now t
  { s with now := t,
           node := s.node.elapse d,
           tracker := s.tracker.elapse s.params t d,
           chanA := s.chanA.elapse d,
           chanB := s.chanB.elapse d,
           context := s.context.elapse d,
           link := s.link.elapse d,
           alert := s.alert.elapse d }

end Sys2Proof.Machine
end

