-- ==== Sys2Proof/Machine/Operands.lean ====
section
/-! DEFINITION. The operand forms of the commands: the fields of received payloads (R168) and of orders (R163), and the
level runs that the cells of a frame leave behind (R134, R142). -/

namespace Sys2Proof.Machine

/-- R168: a cylinder mask holds cylinder `c` at bit c - 1. -/
def maskHas (mask : Byte) (c : Nat) : Bool := mask.getLsbD (c - 1)

/-- R168: the context a PHASE payload reports. Bits 6 to 2 of byte 1 are not read. -/
def phaseContext (cutMask flags : Byte) : EngineContext :=
  { cutMask := cutMask, antiLag := flags.getLsbD 7, loadBand := flags.toNat % 4 }

/-- R168: the weight of a WITNESS, bits 4 to 0 of byte 3. -/
def witnessWeight (flags : Byte) : Nat := flags.toNat % 32

/-- R168: the learning flag of a WITNESS, bit 7 of byte 3. -/
def witnessLearning (flags : Byte) : Bool := flags.getLsbD 7

/-- R168: the cylinder of a VERDICT, bits 3 to 0 of byte 0. -/
def verdictCyl (b0 : Byte) : Nat := b0.toNat % 16

/-- Whether a number names a cylinder. -/
def isCyl (c : Nat) : Bool := 1 ≤ c && c ≤ 8

/-- R65: the range check of a WITNESS. -/
def witnessInRange (cyl : Byte) (score : BitVec 16) (flags : Byte) : Bool :=
  isCyl cyl.toNat && score.toNat ≤ 1023 && 1 ≤ witnessWeight flags && witnessWeight flags ≤ 30

/-- R163, step 1: the order's target is the node's own station or 255. -/
def targets (own : Station) (target : Byte) : Bool := target.toNat == own.val || target.toNat == 255

/-- R156: the second argument of SERVE holds source `x` at bit x. -/
def serves (set : Byte) (x : AlertSource) : Bool := set.getLsbD x.index

/-- The eight bytes of a payload given as one word, byte 0 first. -/
def payloadBytes (p : BitVec 64) : List Byte :=
  [ p.extractLsb' 56 8, p.extractLsb' 48 8, p.extractLsb' 40 8, p.extractLsb' 32 8,
    p.extractLsb' 24 8, p.extractLsb' 16 8, p.extractLsb' 8 8, p.extractLsb' 0 8 ]

/-! ## Runs of cells -/

/-- One cell read: its level's run grows, saturating, and the other run becomes 0 (R133). -/
def Link.readCell (recessive : Bool) (l : Link) : Link :=
  if recessive then { l with recessiveRun := min (l.recessiveRun + 1) Config.gapCells, dominantRun := 0 }
  else { l with dominantRun := min (l.dominantRun + 1) Config.stuckCells, recessiveRun := 0 }

/-- A run of cells read, in order. -/
def Link.readCells (cells : List Bool) (l : Link) : Link := cells.foldl (fun l c => l.readCell c) l

/-- The cells of a frame read from its header's start cell on, which an interframe gap precedes (R136). -/
def Link.readFrame (cells : List Bool) (l : Link) : Link :=
  ({ l with dominantRun := 0, recessiveRun := Config.gapCells } : Link).readCells cells

/-- The cells of the characters of a frame. -/
def frameCells (chars : List Byte) : List Bool := chars.flatMap charCells

/-- The cells read of a frame that ended in failure: the characters taken, then the cell that ended the assembly. -/
def endedCells (chars : List Byte) (ending : FrameEnd) : List Bool :=
  match ending with
  | .complete => frameCells chars
  | .startCellMissing => frameCells chars ++ [true]
  | .stopCellDominant => (frameCells chars).dropLast ++ [false]

/-- The cells read of the node's own frame up to cell `cell`, counted from 0 at the header's start cell, where the level
read is the opposite of the level driven (R140, R141). -/
def mismatchCells (chars : List Byte) (cell : Nat) : List Bool :=
  (frameCells chars).take cell ++ [!((frameCells chars).getD cell true)]

/-- R140: a cell at which arbitration is lost: one of the header, driven recessive. The header's stop cell is among them
(DEDUCED from R142, log entry 27). -/
def losesAt (chars : List Byte) (cell : Nat) : Bool := cell < 10 && (frameCells chars).getD cell false

/-- R141: a cell at which a mismatch is a clash: any cell of the frame that is driven dominant, and from the length
character on any that is driven recessive. -/
def clashesAt (chars : List Byte) (cell : Nat) : Bool :=
  decide (cell < (frameCells chars).length) && (!((frameCells chars).getD cell false) || decide (10 ≤ cell))

end Sys2Proof.Machine
end

