-- ==== Sys2Proof/Machine/Flags.lean ====
section
/-! DEFINITION. Every flag and condition the node computes from its state: staleness, warm-up, learning, the degrading
conditions and the service level (R152), the alert set (R155), and the contents of a STATUS (R166, R169). -/

namespace Sys2Proof.Machine

/-! ## Conditions of the node -/

/-- The states in which the tracker, the Peer Table and the Context Unit run: all but LOADING and UNCONFIGURED (R2, R103,
R121). -/
def NodeState.configured : NodeState → Bool
  | .loading => false
  | .unconfigured => false
  | _ => true

/-- The states in which the ALERT line follows R157 (R158). -/
def NodeState.drivesAlert : NodeState → Bool
  | .running => true | .hold => true | .withdrawn => true | .unconfigured => true
  | _ => false

/-- R139: the kinds the transmitter may begin in a node state. -/
def NodeState.permits (n : NodeState) (k : Kind) : Bool :=
  match n with
  | .running => true
  | .hold => true
  | .withdrawn => k == .status || k == .log
  | .unconfigured => k == .status || k == .log
  | _ => false

/-- R13: warm-up is complete once the counter equals W. -/
def State.warm (s : State) : Bool := s.tracker.warmUp == s.params.warmUp

/-- The tracker is PHASED with warm-up complete. -/
def State.phasedWarm (s : State) : Bool := s.tracker.sync == .phased && s.warm

/-- R124: the context is stale while the freshness count is above 4. -/
def Context.stale (c : Context) : Bool := c.freshness > 4

/-- R84: the reference of a cylinder on a channel. -/
def CylEntry.ref (e : CylEntry) : Chan → Nat
  | .a => e.refA
  | .b => e.refB

/-- R84: the learning count of a cylinder on a channel. -/
def CylEntry.learn (e : CylEntry) : Chan → Nat
  | .a => e.learnA
  | .b => e.learnB

/-- R84: a channel is learning for a cylinder while the learning count is below Lc. -/
def CylEntry.learning (e : CylEntry) (im : Image) (ch : Chan) : Bool := e.learn ch < im.learnLen

/-- The node judges the cylinder (R59). -/
def Role.judges : Role → Bool
  | .owner => true
  | .deputyActive => true
  | _ => false

/-! ## The service level (R152) -/

/-- A channel is DISABLED and holds a nonzero weight for some cylinder. -/
def State.channelDegrades (s : State) : Bool :=
  [Chan.a, Chan.b].any (fun ch => (s.chan ch).state == .disabled && s.params.weighted ch)

/-- The tracker is SEEKING or CRANK_LOCKED. -/
def State.trackerDegrades (s : State) : Bool := s.tracker.sync == .seeking || s.tracker.sync == .crankLocked

/-- PEER_SILENT or CLASH has its status set and its severity is DEGRADING. -/
def FaultUnit.degrades (f : FaultUnit) : Bool :=
  [FaultClass.peerSilent, FaultClass.clash].any (fun c => (f.cls c).status && (f.cls c).severity == .degrading)

/-- The service level that the inputs give. -/
def State.serviceOf (s : State) : Service :=
  if s.node.state = .withdrawn ∨ s.node.state = .unconfigured then .withdrawn
  else if s.channelDegrades || s.trackerDegrades || s.link.inhibit || s.context.stale || s.faults.degrades then .degraded
  else .full

/-! ## The alert set (R155) -/

/-- The unmasked latched set is not empty. -/
def AlertUnit.unmaskedLatched (a : AlertUnit) : Bool := a.sources.any (fun x => x.latch && !x.mask)

/-! ## What a STATUS carries (R166, R169) -/

/-- The alert latch set as a byte: bit s for source s. -/
def AlertUnit.latchByte (a : AlertUnit) : Nat :=
  ((List.range 8).map (fun i => bitAt i (a.sources.getD i SourceState.powerOn).latch)).sum

/-- The fault status set as a 16-bit value: bit x for class x. -/
def FaultUnit.statusWord (f : FaultUnit) : Nat :=
  ((List.range 16).map (fun i => bitAt i (f.classes.getD i (ClassState.powerOn .advisory)).status)).sum

/-- The role summary: bit c - 1 where cylinder c is OWNER or DEPUTY_ACTIVE. -/
def State.roleSummary (s : State) : Nat := (allCylinders.map (fun c => bitAt (c - 1) (s.cyl c).role.judges)).sum

/-- Byte 1 of a STATUS: acquisition state, hold ACTIVE, cause a station, that station. -/
def State.statusByte1 (s : State) : Nat :=
  (match s.link.acq with | some q => q.code | none => 0) * 64
    + match s.context.hold with
      | none => 0
      | some h =>
        match h.cause with
        | .ownShock => 32
        | .station st => 32 + 16 + st.val

/-- The contents of a STATUS sampled now (R169). -/
def State.statusPayload (s : State) : List Byte :=
  [ byteOf (s.node.state.code * 32 + s.faults.service.code * 8 + s.tracker.sync.code * 2 + bitAt 0 s.context.stale),
    byteOf s.statusByte1,
    s.alert.raiseSeq,
    byteOf s.alert.latchByte ]
    ++ bytes16 s.faults.statusWord
    ++ [ byteOf s.roleSummary,
         byteOf (match s.faults.first with
           | none => bitAt 6 s.faults.overflow
           | some f => 128 + bitAt 6 s.faults.overflow + f.cls.index) ]

end Sys2Proof.Machine
end

