-- ==== Sys2Proof/Machine/Signals.lean ====
section
/-! DEFINITION. The transmit queue (R145 to R147), fault occurrences (R150) and alert raises (R155): the three hand-offs
that lead to one another, and that every block uses. -/

namespace Sys2Proof.Machine

/-! ## The transmit queue -/

/-- Queue order: lowest kind first, and within a kind the oldest first (R145). -/
def TxEntry.precedes (a b : TxEntry) : Bool :=
  a.kind.code < b.kind.code || (a.kind.code == b.kind.code && a.age < b.age)

/-- Two entries have the same coalescing key (R145). -/
def TxEntry.sameKey (a b : TxEntry) : Bool := a.kind == b.kind && a.cyl == b.cyl

/-- Insert an entry at its place in queue order. -/
def insertEntry (e : TxEntry) : List TxEntry → List TxEntry
  | [] => [e]
  | x :: rest => if e.precedes x then e :: x :: rest else x :: insertEntry e rest

/-- R145: the entry that survives a coalescing: the newer contents at the older of the two places. -/
def coalesce (a b : TxEntry) : TxEntry :=
  if a.age ≤ b.age then { a with payload := b.payload } else { b with payload := a.payload }

/-- R145: replacing a VERDICT or TALLY that waits passes QUEUE_OVERFLOW. -/
def replacementLost : Kind → Bool
  | .verdict => true
  | .tally => true
  | _ => false

/-- R145, R146: put an entry into the queue. Coalescing comes first; a full queue drops the youngest entry of the largest
kind that ranks below, or else the new entry. Answers the kind and cylinder of a QUEUE_OVERFLOW occurrence, where there
is one. -/
def putEntry (e : TxEntry) (q : List TxEntry) : List TxEntry × Option (Kind × Option Nat) :=
  match q.find? (fun x => x.sameKey e) with
  | some x =>
    (insertEntry (coalesce x e) (q.filter (fun y => !y.sameKey e)),
      if replacementLost e.kind then some (e.kind, e.cyl) else none)
  | none =>
    if q.length < Config.queueSize then (insertEntry e q, none)
    else match q.getLast? with
      | some last =>
        if e.kind.code < last.kind.code then (insertEntry e q.dropLast, some (last.kind, last.cyl))
        else (q, some (e.kind, e.cyl))
      | none => (q, some (e.kind, e.cyl))

/-- R147: a removal event takes entries from the queue; an entry that is still ARBITRATING is discarded if it loses
(R140). -/
def Link.removeEntries (p : TxEntry → Bool) (l : Link) : Link :=
  { l with
    queue := l.queue.filter (fun e => !p e)
    transmitter := match l.transmitter with
      | .arbitrating e removed left => .arbitrating e (removed || p e) left
      | tx => tx }

/-! ## Occurrences -/

/-- A fault occurrence (R150), with the cycle count and cycle angle that the tracker adds (R22). -/
structure Occurrence where
  cls : FaultClass
  cycle : BitVec 16
  angle : Option Nat
  station : Option Station
  kind : Option Nat
  cyl : Option Nat
  deriving DecidableEq, Repr

/-- R22: the interpolated cycle angle when the tracker is PHASED. -/
def Tracker.faultAngle (tr : Tracker) : Option Nat := if tr.sync = .phased then tr.angle else none

/-- An occurrence passed now. -/
def State.occurrence (s : State) (cls : FaultClass) (station : Option Station) (kind : Option Nat) (cyl : Option Nat) :
    Occurrence :=
  { cls := cls, cycle := s.tracker.cycleCount, angle := s.tracker.faultAngle, station := station, kind := kind,
    cyl := cyl }

/-- The QUEUE_OVERFLOW occurrences of one queue change (R145, R146). -/
def State.overflowOf (s : State) (lost : Option (Kind × Option Nat)) : List Occurrence :=
  match lost with
  | some (k, c) => [s.occurrence .queueOverflow none (some k.code) c]
  | none => []

/-- Queue a new report, answering the occurrences that the change passes after it. -/
def State.putReport (s : State) (k : Kind) (c : Option Nat) (payload : List Byte) : State × List Occurrence :=
  let r := putEntry { kind := k, cyl := c, payload := payload, age := s.link.nextAge } s.link.queue
  (s.onLink (fun l => { l with queue := r.1, nextAge := l.nextAge + 1 }), s.overflowOf r.2)

/-- R155: a raise gives the source the next number of the raise sequence and latches it. -/
def AlertUnit.latchSource (x : AlertSource) (a : AlertUnit) : AlertUnit :=
  { a with raiseSeq := a.raiseSeq + 1,
           sources := a.sources.modify x.index (fun y => { y with latch := true, latest := a.raiseSeq + 1 }) }

/-- R157, R158: in the states where the line follows the set, RELEASED goes to ASSERTED when the set is not empty. -/
def AlertUnit.assertLine (n : NodeState) (a : AlertUnit) : AlertUnit :=
  if n.drivesAlert && a.line == .released && a.unmaskedLatched then { a with line := .asserted } else a

/-- R155: a raise, taken as one event, answering the occurrences of the STATUS it queues. -/
def State.raiseStep (s : State) (x : AlertSource) : State × List Occurrence :=
  let r := (s.onAlert (AlertUnit.latchSource x)).putReport .status none []
  (r.1.onAlert (AlertUnit.assertLine r.1.node.state), r.2)

/-- R150, step 1. -/
def FaultUnit.countOccurrence (c : FaultClass) (f : FaultUnit) : FaultUnit :=
  { f with classes := f.classes.modify c.index (fun x => { x with status := true, count := min (x.count + 1) 255 }) }

/-- R150: what the first-fault record captures. -/
def Occurrence.captured (o : Occurrence) (service : Service) : FirstFault :=
  { cls := o.cls, cycle := o.cycle, angle := o.angle, station := o.station, kind := o.kind, cyl := o.cyl,
    service := service }

/-- R150, steps 3 and 4: capture into an EMPTY record with its LOG and its FIRST_FAULT raise, or set the overflow flag. -/
def State.capture (s : State) (o : Occurrence) : State × List Occurrence :=
  match s.faults.first with
  | some _ => (s.onFaults (fun f => { f with overflow := true }), [])
  | none =>
    let s1 := s.onFaults (fun f => { f with first := some (o.captured f.service) })
    let r1 := s1.putReport .log none (firstFaultLog s1.faults.first s1.faults.overflow FaultClass.index)
    let r2 := r1.1.raiseStep .firstFault
    (r2.1, r1.2 ++ r2.2)

/-- R150: one occurrence taken whole, answering the occurrences passed while it was taken. -/
def State.takeOccurrence (s : State) (o : Occurrence) : State × List Occurrence :=
  let s1 := s.onFaults (FaultUnit.countOccurrence o.cls)
  let c := s1.faults.cls o.cls
  if c.mask then (s1, [])
  else
    let r := s1.capture o
    (if c.severity = .withdrawing then r.1.setWithdrawDue true else r.1, r.2)

/-- R150: an occurrence, and after it those passed while it was taken. These find the record FULL, so the chain ends with
them (R146). -/
def State.occur (s : State) (o : Occurrence) : State :=
  let r := s.takeOccurrence o
  r.2.foldl (fun s o => (s.takeOccurrence o).1) r.1

/-- Pass an occurrence of a class with the station, kind and cylinder that the passing rule names. -/
def State.fault (s : State) (cls : FaultClass) (station : Option Station := none) (kind : Option Nat := none)
    (cyl : Option Nat := none) : State :=
  s.occur (s.occurrence cls station kind cyl)

/-- R155: raise an alert source. -/
def State.raise (s : State) (x : AlertSource) : State :=
  let r := s.raiseStep x
  r.2.foldl State.occur r.1

/-- R145: queue a report; the queue change is made first and the occurrence is passed after it. -/
def State.queueReport (s : State) (k : Kind) (c : Option Nat) (payload : List Byte) : State :=
  let r := s.putReport k c payload
  r.2.foldl State.occur r.1

/-- Queue a STATUS; its contents are sampled when its transmission begins (R145). -/
def State.queueStatus (s : State) : State := s.queueReport .status none []

/-- Remove entries by one of the events of R147. -/
def State.removeReports (s : State) (p : TxEntry → Bool) : State := s.onLink (Link.removeEntries p)

end Sys2Proof.Machine
end

