-- ==== Sys2Proof/Machine/Records.lean ====
section
/-! DEFINITION. The Record Table (chapter 4): opening, filling, aborting, and the verdict drawn from a record's fields. The
close and what follows it stand in Closing.lean. -/

namespace Sys2Proof.Machine

/-! ## Finding and updating -/

/-- The open record that satisfies `p`, in slot order. -/
def State.findRecord (s : State) (p : Record → Bool) : Option Record := s.records.findSome? (fun o => o.filter p)

/-- The open record of a cylinder. -/
def State.recordOf (s : State) (c : Nat) : Option Record := s.findRecord (fun r => r.cyl == c)

/-- Update every open record. -/
def State.onOpenRecords (f : Record → Record) (s : State) : State := s.onRecords (fun l => l.map (fun o => o.map f))

/-- Update the first open record, in slot order, that satisfies `p`. -/
def updateFirst (p : Record → Bool) (f : Record → Record) : List (Option Record) → List (Option Record)
  | [] => []
  | none :: rest => none :: updateFirst p f rest
  | some r :: rest => if p r then some (f r) :: rest else some r :: updateFirst p f rest

/-- Update the open record of a cylinder. -/
def State.onRecordOf (c : Nat) (f : Record → Record) (s : State) : State := s.onRecords (updateFirst (·.cyl == c) f)

/-- Free the slot of a cylinder's record. -/
def State.freeRecord (c : Nat) (s : State) : State :=
  s.onRecords (fun l => l.map (fun o => o.filter (fun r => r.cyl != c)))

/-! ## Opening (R59 to R61) -/

/-- The fields a record captures at its open. -/
def State.newRecord (s : State) (slot k c : Nat) : Record :=
  let stale := s.context.stale
  { slot := slot, cyl := c, pos := k, state := .gathering, windowTaken := false, segmentTaken := false,
    evidenceA := none, evidenceB := none, ownA := none, ownB := none, learning := false, loss := none, band := 0,
    witnesses := [],
    expected := (s.params.witnessSet c).filter (fun st => (s.peer st).state == .active),
    cut := !stale && maskHas s.context.current.cutMask c,
    antiLag := !stale && s.context.current.antiLag,
    loadBand := if stale then none else some s.context.current.loadBand,
    stale := stale,
    shock := s.context.hold.isSome,
    deputy := (s.cyl c).role == .deputyActive }

/-- R59, R93: open a record for the cylinder of a firing mark. The Cylinder Table's counted firing flag follows. -/
def State.openRecord (s : State) (k c : Nat) : State :=
  if s.node.state = .running ∧ s.phasedWarm = true ∧ (s.cyl c).role.judges = true then
    match s.records.findIdx? Option.isNone with
    | some slot =>
      (s.onRecords (fun l => l.set slot (some (s.newRecord slot k c)))).onCyl c
        (fun e => { e with counted := decide (1 ≤ e.block.cycles) && s.markCounted })
    | none => s
  else s

/-! ## Own evidence (R62, R63) -/

/-- Why a window gave no energy (R31). -/
inductive NoEnergy where
  | disabled | notIntegrated | bias | short | clipped
  deriving DecidableEq, Repr

/-- The energy of a window with the ratio and the reference used, or the reason it is absent (R31). -/
inductive WindowEnergy where
  | absent (reason : NoEnergy)
  | present (energy ratio ref : Nat)
  deriving DecidableEq, Repr

/-- One channel's window result (R31). -/
structure ChanResult where
  energy : WindowEnergy
  learning : Bool
  weight : Nat
  deriving DecidableEq, Repr

/-- The energy of a result, where present. -/
def ChanResult.energy? (r : ChanResult) : Option Nat :=
  match r.energy with
  | .present e _ _ => some e
  | .absent _ => none

/-- The ratio of a result, where present. -/
def ChanResult.ratio? (r : ChanResult) : Option Nat :=
  match r.energy with
  | .present _ q _ => some q
  | .absent _ => none

/-- The evidence a record keeps of a result (R62). -/
def ChanResult.evidence (r : ChanResult) : Evidence :=
  { energy := r.energy?, weight := r.weight, learning := r.learning }

/-- A channel counts when its weight is 1 to 15 and its energy is present (R62, R111). -/
def ChanResult.counts (r : ChanResult) : Bool := r.weight != 0 && r.energy?.isSome

/-- The own contribution a result gives: none from a learning channel (R62). -/
def ChanResult.contribution (r : ChanResult) : Option Contribution :=
  if r.counts && !r.learning then r.ratio?.map (fun q => { weight := r.weight, ratio := q }) else none

/-- R58: a record goes to WAITING once both events have been taken, and is never returned. -/
def Record.settleState (r : Record) : Record :=
  if r.windowTaken && r.segmentTaken then { r with state := .waiting } else r

/-- R62: the record takes its window result. -/
def Record.takeWindow (a b : ChanResult) (r : Record) : Record :=
  if r.windowTaken then r
  else
    ({ r with
        windowTaken := true, evidenceA := some a.evidence, evidenceB := some b.evidence,
        ownA := a.contribution, ownB := b.contribution,
        learning := r.learning || (a.counts && a.learning) || (b.counts && b.learning) } : Record).settleState

/-- R63: the record takes its segment end. -/
def Record.takeSegment (loss : Option Int) (band : Nat) (r : Record) : Record :=
  if r.segmentTaken then r
  else ({ r with segmentTaken := true, loss := loss, band := band } : Record).settleState

/-- R69: a RELEARN marks an open record whose window has been taken. -/
def Record.relearn (r : Record) : Record :=
  if r.windowTaken then { r with learning := true, ownA := none, ownB := none } else r

/-- R64: every station of the expected set has an entry in the witness list. -/
def Record.complete (r : Record) : Bool := r.expected.all (fun st => r.witnesses.any (fun w => w.station == st))

/-- R64: a record that is to close on completeness. -/
def Record.ready (r : Record) : Bool := r.state == .waiting && r.complete

/-! ## Aborts (R70 to R72, R100) -/

/-- R100: what an abort does to the cylinder's entry. -/
def CylEntry.countAbort (e : CylEntry) : CylEntry := { e with aborts := min (e.aborts + 1) 255, counted := false }

/-- Abort the open record of a cylinder, if there is one. -/
def State.abortRecord (s : State) (c : Nat) : State :=
  match s.recordOf c with
  | some _ => (s.freeRecord c).onCyl c CylEntry.countAbort
  | none => s

/-- The abort of one slot's record, counted. -/
def State.countSlotAbort (s : State) (slot : Option Record) : State :=
  match slot with
  | some r => s.onCyl r.cyl CylEntry.countAbort
  | none => s

/-- R71: abort every open record. -/
def State.abortAll (s : State) : State :=
  (s.records.foldl State.countSlotAbort s).onRecords (fun l => l.map (fun _ => none))

/-! ## The verdict (R52, R75 to R80) -/

/-- R52: the misfire threshold for a band, load band and anti-lag flag. -/
def Image.threshold (im : Image) (band : Nat) (loadBand : Option Nat) (antiLag : Bool) : Nat :=
  let load := match loadBand with
    | some b => im.sLoad.getD b 0
    | none => 16
  min (im.mthr.getD band 0 * load * (if antiLag then im.antiLag else 16) / 256) 32767

/-- R75: the misfire part. -/
def Record.misfirePart (im : Image) (r : Record) : MisfirePart :=
  if r.cut then .intended
  else match r.loss with
    | none => .unassessed
    | some l =>
      if r.shock then .unassessed
      else if (im.threshold r.band r.loadBand r.antiLag : Int) ≤ l then (if r.stale then .suspect else .misfire)
      else .fired

/-- R76: the usable contributions, own before witnesses, in order. -/
def Record.usable (r : Record) : List Contribution :=
  r.ownA.toList ++ r.ownB.toList
    ++ (r.witnesses.filter (fun w => !w.learning)).map (fun w => { weight := w.weight, ratio := w.score })

/-- R76: the combined score, 0 when no contribution is usable. -/
def combinedScore (cs : List Contribution) : Nat :=
  if cs.isEmpty then 0 else (cs.map (fun c => c.weight * c.ratio)).sum / (cs.map (fun c => c.weight)).sum

/-- R77: the foreign test with foreign factor `f`. Ties within a group leave the ratio compared the same. -/
def foreignTest (f : Nat) (cs : List Contribution) : Bool :=
  let weights := cs.map (fun c => c.weight)
  let largest := weights.foldl max 0
  let smallest := weights.foldl min largest
  let nearRatios := (cs.filter (fun c => c.weight == largest)).map (fun c => c.ratio)
  let farRatios := (cs.filter (fun c => c.weight == smallest)).map (fun c => c.ratio)
  let near := nearRatios.foldl min (nearRatios.headD 0)
  let far := farRatios.foldl max 0
  decide (2 ≤ cs.length) && decide (largest ≠ smallest) && decide (near * f ≤ far * 16)

/-- R78: the knock part, settled after the misfire part. -/
def Record.knockPart (im : Image) (r : Record) (m : MisfirePart) : KnockPart :=
  if m = .intended ∨ m = .misfire ∨ m = .suspect then .none
  else if r.learning then .learning
  else if r.antiLag then .unassessed
  else if r.shock then .unassessed
  else if r.usable.isEmpty then .unassessed
  else if foreignTest im.foreign r.usable then .foreign
  else if 2 * im.kthr ≤ combinedScore r.usable then .heavy
  else if im.kthr ≤ combinedScore r.usable then .light
  else .quiet

/-- The verdict of a close. -/
structure Verdict where
  misfire : MisfirePart
  knock : KnockPart
  score : Nat
  deriving DecidableEq, Repr

/-- R75 to R78: the verdict from what the record holds. -/
def Record.verdict (im : Image) (r : Record) : Verdict :=
  { misfire := r.misfirePart im, knock := r.knockPart im (r.misfirePart im), score := combinedScore r.usable }

/-- R79: the contents of the VERDICT queued at the close. -/
def Record.verdictReport (im : Image) (r : Record) : List Byte :=
  let v := r.verdict im
  verdictPayload r.cyl r.deputy r.stale (!r.complete) v.misfire v.knock v.score r.loss r.witnesses.length

/-- R80: the stations with an entry in the list. -/
def Record.onTime (r : Record) : List Station := allStations.filter (fun st => r.witnesses.any (fun w => w.station == st))

/-- R80: expected stations with no entry. -/
def Record.missed (r : Record) : List Station :=
  allStations.filter (fun st => r.expected.contains st && !r.witnesses.any (fun w => w.station == st))

/-- R80: configured stations in neither the list nor the expected set. -/
def Record.absentConfigured (im : Image) (r : Record) : List Station :=
  (im.witnessSet r.cyl).filter (fun st => !r.expected.contains st && !r.witnesses.any (fun w => w.station == st))

end Sys2Proof.Machine
end

