-- ==== Sys2Proof/Machine/Cylinders.lean ====
section
/-! DEFINITION. The Cylinder Table (chapter 5) and the ownership logic (R114 to R118): roles, references, the fold of a
verdict, blocks and alarms, clears, silence counting, takeovers and yields. -/

namespace Sys2Proof.Machine

/-! ## Roles (R83) -/

/-- R83: the role and deputy rank that the image gives the station for a cylinder. -/
def Image.roleOf (im : Image) (own : Station) (c : Nat) : Role × Option Nat :=
  if im.n < c then (.none, none)
  else if im.owner.getD (c - 1) 255 = own.val then (.owner, none)
  else if im.deputy1.getD (c - 1) 255 = own.val then (.deputyStandby, some 1)
  else if im.deputy2.getD (c - 1) 255 = own.val then (.deputyStandby, some 2)
  else if im.weight .a c ≠ 0 ∨ im.weight .b c ≠ 0 then (.witness, none)
  else (.none, none)

/-- R82, R83: the entry of a cylinder after RESTART, and when the image is accepted. -/
def CylEntry.fromImage (im : Image) (own : Station) (c : Nat) : CylEntry :=
  { CylEntry.powerOn with role := (im.roleOf own c).1, rank := (im.roleOf own c).2 }

/-! ## References (R85 to R88) -/

/-- R85: the signed step of an update, truncated toward zero, raised to 16 if below. -/
def moveRef (ref energy divisor : Nat) : Nat :=
  max 16 ((ref : Int) + ((energy * 16 : Nat) - (ref : Int)).tdiv divisor).toNat

/-- R85: the new reference from the learning count held before the update. -/
def newRef (im : Image) (ref count energy : Nat) : Nat :=
  if count = 0 then max 16 (energy * 16)
  else if count < im.learnLen then moveRef ref energy 2
  else moveRef ref energy (2 ^ im.shift)

/-- R85: one update of a channel's reference, and its learning count held at Lc. -/
def CylEntry.updateRef (im : Image) (ch : Chan) (energy : Nat) (e : CylEntry) : CylEntry :=
  match ch with
  | .a => { e with refA := newRef im e.refA e.learnA energy, learnA := min (e.learnA + 1) im.learnLen }
  | .b => { e with refB := newRef im e.refB e.learnB energy, learnB := min (e.learnB + 1) im.learnLen }

/-- R86: the update of one channel from its evidence: weight nonzero and energy present. -/
def CylEntry.updateFrom (im : Image) (ch : Chan) (ev : Option Evidence) (e : CylEntry) : CylEntry :=
  match ev with
  | some v => match v.energy with
    | some x => if v.weight ≠ 0 then e.updateRef im ch x else e
    | none => e
  | none => e

/-- R88: RELEARN of one cylinder. -/
def CylEntry.relearn (e : CylEntry) : CylEntry := { e with refA := 16, refB := 16, learnA := 0, learnB := 0 }

/-! ## Folding a verdict (R89 to R93) -/

/-- How many MISFIREs a history holds. -/
def misfireCount (h : List FireEntry) : Nat := h.countP (· == .misfire)

/-- R90: the dead flag judged after an addition. -/
def judgeDead (h : List FireEntry) (was : Bool) : Bool :=
  if h.length = 8 ∧ 6 ≤ misfireCount h then true
  else if misfireCount h ≤ 1 then false
  else was

/-- R90: add an entry, newest first, at most eight. -/
def CylEntry.addFire (x : FireEntry) (e : CylEntry) : CylEntry :=
  let h := (x :: e.misfireHistory).take 8
  { e with misfireHistory := h, dead := judgeDead h e.dead }

/-- R90: the misfire part enters the history when it is FIRED or MISFIRE. -/
def CylEntry.foldMisfire (m : MisfirePart) (e : CylEntry) : CylEntry :=
  match m with
  | .fired => e.addFire .fired
  | .misfire => e.addFire .misfire
  | _ => e

/-- R91: the knock part enters the knock history when it is QUIET or KNOCK. -/
def CylEntry.foldKnock (k : KnockPart) (e : CylEntry) : CylEntry :=
  match k with
  | .quiet => { e with knockHistory := some .quiet }
  | .light => { e with knockHistory := some .knock }
  | .heavy => { e with knockHistory := some .knock }
  | _ => e

/-- R93: the counters that a counted verdict increments. -/
def Block.countVerdict (m : MisfirePart) (k : KnockPart) (b : Block) : Block :=
  match m with
  | .fired =>
    if k = .light ∨ k = .heavy then { b with assessed := b.assessed + 1, knocks := b.knocks + 1 }
    else { b with assessed := b.assessed + 1 }
  | .misfire => { b with assessed := b.assessed + 1, misfires := b.misfires + 1 }
  | .suspect => { b with suspects := b.suspects + 1 }
  | _ => b

/-- R89, step 3. -/
def CylEntry.foldBlock (v : Verdict) (e : CylEntry) : CylEntry :=
  if e.counted then { e with block := e.block.countVerdict v.misfire v.knock } else e

/-- R86: reference updates only for a QUIET or LEARNING knock part, Channel A and then Channel B. -/
def CylEntry.foldRefs (im : Image) (k : KnockPart) (a b : Option Evidence) (e : CylEntry) : CylEntry :=
  if k = .quiet ∨ k = .learning then (e.updateFrom im .a a).updateFrom im .b b else e

/-- R89: the fold of a verdict, in its five steps. -/
def CylEntry.foldVerdict (im : Image) (v : Verdict) (a b : Option Evidence) (e : CylEntry) : CylEntry :=
  { ((((e.foldMisfire v.misfire).foldKnock v.knock).foldBlock v).foldRefs im v.knock a b) with counted := false }

/-- R89, R90: fold into the cylinder's entry, raising DEAD_CYLINDER when the dead flag goes from clear to set. -/
def State.foldVerdict (s : State) (c : Nat) (v : Verdict) (a b : Option Evidence) : State :=
  let s1 := s.onCyl c (CylEntry.foldVerdict s.params v a b)
  if !(s.cyl c).dead && (s1.cyl c).dead then s1.raise .deadCylinder else s1

/-! ## Blocks (R92, R94 to R96) -/

/-- R94: a block is thin when its assessed count is below a quarter of the block length. -/
def CylEntry.thin (im : Image) (e : CylEntry) : Bool := e.block.assessed < im.blockLen / 4

/-- R94: the misfire rate in per-mille. -/
def Block.rate (b : Block) : Nat := b.misfires * 1000 / b.assessed

/-- R94: the misfire alarm and the clear-run counter at a block end. -/
def CylEntry.judgeMisfire (im : Image) (e : CylEntry) : CylEntry :=
  if e.thin im then e
  else if im.rateLimit ≤ e.block.rate then { e with misfireAlarm := true, clearRun := 0 }
  else if e.block.rate < im.rateLimit / 2 then
    if im.clearCount ≤ e.clearRun + 1 then { e with misfireAlarm := false, clearRun := 0 }
    else { e with clearRun := e.clearRun + 1 }
  else { e with clearRun := 0 }

/-- R95: the knock alarm at a block end. -/
def CylEntry.judgeKnock (im : Image) (e : CylEntry) : CylEntry :=
  if e.thin im then e
  else if im.knockLimit ≤ e.block.knocks then { e with knockAlarm := true }
  else if e.block.knocks < im.knockLimit / 2 then { e with knockAlarm := false }
  else e

/-- R96: the contents of the TALLY of a judged block. -/
def CylEntry.tallyReport (im : Image) (c : Nat) (e : CylEntry) : List Byte :=
  tallyPayload c e.block.assessed e.block.misfires e.block.knocks e.misfireAlarm e.knockAlarm e.dead (e.thin im)
    (decide (1 ≤ e.block.suspects)) (decide (1 ≤ e.aborts)) (e.knockHistory == some .knock)

/-- R92: the counters at 0 and the counted firing flag cleared. -/
def CylEntry.clearBlock (e : CylEntry) : CylEntry := { e with block := Block.zero, counted := false }

/-- R92, R94 to R97: a block end: the alarms judged, MISFIRE_ALARM raised before KNOCK_ALARM, the TALLY queued, the
counters cleared. -/
def State.endBlock (s : State) (c : Nat) : State :=
  let before := s.cyl c
  let judged := (before.judgeMisfire s.params).judgeKnock s.params
  let s1 := s.onCyl c (fun _ => judged)
  let s2 := if !before.misfireAlarm && judged.misfireAlarm then s1.raise .misfireAlarm else s1
  let s3 := if !before.knockAlarm && judged.knockAlarm then s2.raise .knockAlarm else s2
  (s3.queueReport .tally (some c) (judged.tallyReport s.params c)).onCyl c CylEntry.clearBlock

/-- R92: the two steps of a counted cycle mark for one cylinder. -/
def State.countCycle (s : State) (c : Nat) : State :=
  if (s.cyl c).role.judges then
    (if (s.cyl c).block.cycles = s.params.blockLen then s.endBlock c else s).onCyl c
      (fun e => { e with block := { e.block with cycles := e.block.cycles + 1 } })
  else s

/-! ## Ownership (R114 to R118) -/

/-- R117: a standby deputy's silence counter, and the heard flag cleared. -/
def CylEntry.countSilence (e : CylEntry) : CylEntry :=
  let silence := if e.role = .deputyStandby ∧ e.heard = false then min (e.silence + 1) 255 else e.silence
  { e with silence := silence, heard := false }

/-- R117: the silence counter has reached its limit. -/
def CylEntry.takeoverDue (im : Image) (e : CylEntry) : Bool :=
  e.role == .deputyStandby && e.rank.isSome && e.silence == im.silenceLen * e.rank.getD 0

/-- R99, R118: the entry at a takeover. -/
def CylEntry.takeOver (e : CylEntry) : CylEntry := { e.clearBlock with role := .deputyActive }

/-- R117, R118: take a cylinder over when it is due. -/
def State.takeOverIfDue (s : State) (c : Nat) : State :=
  if (s.cyl c).takeoverDue s.params then (s.onCyl c CylEntry.takeOver).raise .ownershipChange else s

/-- R117: silence counting and takeovers at a counted cycle mark. -/
def State.countSilences (s : State) : State :=
  allCylinders.foldl State.takeOverIfDue (s.onCylinders (fun l => l.map CylEntry.countSilence))

/-- R92, R117: the cycle mark as the Cylinder Table takes it. -/
def State.cylinderCycleMark (s : State) : State :=
  if s.node.state = .running then allCylinders.foldl State.countCycle (s.setMarkCounted true).countSilences
  else s.setMarkCounted false

/-- R99, R116: the entry at a yield. -/
def CylEntry.yieldEntry (e : CylEntry) : CylEntry :=
  { e.clearBlock with
    misfireAlarm := false, knockAlarm := false, dead := false, clearRun := 0, role := .deputyStandby, silence := 0 }

/-- R116: a yield of a cylinder. -/
def State.yieldCylinder (s : State) (c : Nat) : State :=
  let s1 := (s.abortRecord c).removeReports (fun e => e.kind == .verdict && e.cyl == some c)
  (s1.onCyl c CylEntry.yieldEntry).raise .ownershipChange

/-- R98: CLEAR COUNTS of one cylinder. -/
def CylEntry.clearCounts (e : CylEntry) : CylEntry :=
  { e.clearBlock with
    misfireHistory := [], knockHistory := none, misfireAlarm := false, knockAlarm := false, dead := false,
    clearRun := 0 }

/-- Update the entries of the cylinders whose flag a mask sets. -/
def State.onMasked (mask : Byte) (f : CylEntry → CylEntry) (s : State) : State :=
  allCylinders.foldl (fun s c => if maskHas mask c then s.onCyl c f else s) s

end Sys2Proof.Machine
end

