-- ==== Sys2Proof/Machine/Peers.lean ====
section
/-! DEFINITION. The Peer Table (chapter 6): liveness, the entry into SILENT, and the accounting of witnesses. -/

namespace Sys2Proof.Machine

/-- R104: the station witnesses a cylinder that the node may judge. -/
def Image.expectedFor (im : Image) (own st : Station) : Bool :=
  allCylinders.any (fun c =>
    decide (c ≤ im.n)
      && (im.owner.getD (c - 1) 255 == own.val || im.deputy1.getD (c - 1) 255 == own.val
          || im.deputy2.getD (c - 1) 255 == own.val)
      && (im.witnessSet c).contains st)

/-- R103, R104: the Peer Table after RESTART, and when the image is accepted. The node's own entry is never used. -/
def peersFromImage (im : Image) (own : Station) : List PeerEntry :=
  allStations.map (fun st => { PeerEntry.powerOn with expectedFor := st != own && im.expectedFor own st })

/-- R105: what a valid frame does to the sender's entry. -/
def PeerEntry.hear (k : Kind) (at_ : Tick) (p : PeerEntry) : PeerEntry :=
  let q := { p with lastHeard := some at_ }
  match p.state with
  | .unknown => { q with state := .active, misses := 0 }
  | .active => q
  | .silent => { q with state := .rejoining, rejoinRun := 0 }
  | .rejoining =>
    if k = .status ∧ p.expectedFor = false then { q with state := .active, misses := 0, rejoinRun := 0 } else q

/-- R105: the Peer Table takes a valid frame, in the node states of R103. -/
def State.hearPeer (s : State) (st : Station) (k : Kind) : State :=
  if s.node.state.configured then s.onPeer st (PeerEntry.hear k s.now) else s

/-- R107, step 1. -/
def PeerEntry.silence (p : PeerEntry) : PeerEntry := { p with state := .silent, misses := 0, rejoinRun := 0 }

/-- R67: a silenced station leaves the expected set of every open record. -/
def Record.unexpect (st : Station) (r : Record) : Record := { r with expected := r.expected.filter (· != st) }

/-- R107: a station enters SILENT, by a miss at the close of a cylinder's record or by the timeout (no cylinder). -/
def State.silencePeer (s : State) (st : Station) (c : Option Nat) : State :=
  let p := s.peer st
  let s1 := (s.onPeer st PeerEntry.silence).fault .peerSilent (some st) none c
  let s2 := if p.state = .active ∧ p.expectedFor = true then s1.raise .peerSilent else s1
  s2.onOpenRecords (Record.unexpect st)

/-- R108: an on-time witness. -/
def PeerEntry.onTime (im : Image) (p : PeerEntry) : PeerEntry :=
  match p.state with
  | .active => { p with misses := 0 }
  | .rejoining =>
    if im.rejoinLen ≤ p.rejoinRun + 1 then { p with state := .active, misses := 0, rejoinRun := 0 }
    else { p with rejoinRun := p.rejoinRun + 1 }
  | _ => p

/-- R109: a station that an expected witness of a close is missing from. -/
def State.missPeer (c : Nat) (s : State) (st : Station) : State :=
  let p := s.peer st
  if p.state = .active then
    if s.params.kMiss ≤ p.misses + 1 then s.silencePeer st (some c)
    else s.onPeer st (fun p => { p with misses := min (p.misses + 1) 15 })
  else s

/-- R109: a configured station in neither the list nor the expected set. -/
def State.absentPeer (c : Nat) (s : State) (st : Station) : State :=
  if (s.peer st).state = .rejoining then s.silencePeer st (some c) else s

/-- R108, R109: the accounting of a close, each set in ascending station order. -/
def State.accountWitnesses (s : State) (r : Record) : State :=
  let s1 := r.onTime.foldl (fun s st => s.onPeer st (PeerEntry.onTime s.params)) s
  let s2 := r.missed.foldl (State.missPeer r.cyl) s1
  (r.absentConfigured s.params).foldl (State.absentPeer r.cyl) s2

/-- R110: a late or out-of-phase witness. -/
def State.lateWitness (s : State) (st : Station) (c : Nat) : State :=
  (s.fault .lateWitness (some st) (some Kind.witness.code) (some c)).onPeer st
    (fun p => if p.state = .rejoining then { p with rejoinRun := 0 } else p)

/-- R106: the station has not been heard for three times the own status period. -/
def State.timedOut (s : State) (st : Station) : Bool :=
  let p := s.peer st
  (p.state == .active || p.state == .rejoining)
    && match p.lastHeard with
      | some u => decide (3 * msTicks s.params.statusMs ≤ ticksFrom u s.now)
      | none => false

/-- R106: the Peer Table's test of one station, in ascending station order. -/
def State.timeoutPeer (s : State) (st : Station) : State :=
  if st ≠ s.station ∧ s.timedOut st = true then s.silencePeer st none else s

end Sys2Proof.Machine
end

