-- ==== Sys2Proof/Machine/Settle.lean ====
section
/-! DEFINITION. What ends an event: the withdrawal passed in it (R151) and the service level, computed once the event has
changed its inputs (R152). A command, an issued mark and a close are each an event (R18, R74; log entries 6 and 7). -/

namespace Sys2Proof.Machine

/-- R32: an integration under way is abandoned. -/
def Channel.abandon (c : Channel) : Channel := { c with integrator := .idle }

/-- R152: the service level is computed, and a change raises SERVICE_CHANGE once. -/
def State.updateService (s : State) : State :=
  if s.serviceOf = s.faults.service then s
  else (s.onFaults (fun f => { f with service := s.serviceOf })).raise .serviceChange

/-- R147: entry to WITHDRAWN purges every entry but STATUS and LOG. -/
def purgedByWithdrawal (e : TxEntry) : Bool := e.kind != .status && e.kind != .log

/-- R151, R158, R162: entry to WITHDRAWN. The line is evaluated when it was held RELEASED. -/
def State.enterWithdrawn (s : State) : State :=
  let s1 := ((s.abortAll.onChans Channel.abandon).removeReports purgedByWithdrawal).onNode
    (fun n => { n with state := .withdrawn, probe := none, listen := none })
  if s.node.state.drivesAlert then s1 else s1.onAlert (AlertUnit.assertLine .withdrawn)

/-- R151: a withdrawal takes the node to WITHDRAWN from PROBING, JOINING, RUNNING or HOLD, and changes nothing elsewhere. -/
def State.carryWithdrawal (s : State) : State :=
  if s.withdrawDue then
    let s1 := s.setWithdrawDue false
    match s.node.state with
    | .probing => s1.enterWithdrawn
    | .joining => s1.enterWithdrawn
    | .running => s1.enterWithdrawn
    | .hold => s1.enterWithdrawn
    | _ => s1
  else s

/-- The end of an event: a withdrawal passed in it is carried out, then the service level is computed. -/
def State.settle (s : State) : State := s.carryWithdrawal.updateService

end Sys2Proof.Machine
end

