-- ==== Sys2Proof/Machine/Closing.lean ====
section
/-! DEFINITION. The close of a record and the five hand-offs that follow it (R74), and the closes on completeness that a
change of a witness list or an expected set brings (R64, R67). -/

namespace Sys2Proof.Machine

/-- R74: close a record: VERDICT queued, verdict folded, HEAVY_KNOCK raised, witnesses accounted, slot freed. -/
def State.closeRecord (s : State) (r : Record) : State :=
  let v := r.verdict s.params
  let s1 := s.queueReport .verdict (some r.cyl) (r.verdictReport s.params)
  let s2 := s1.foldVerdict r.cyl v r.evidenceA r.evidenceB
  let s3 := if v.knock = .heavy then s2.raise .heavyKnock else s2
  (s3.accountWitnesses r).freeRecord r.cyl

/-- R64, R67, R74, R109: the records in WAITING that are complete close in slot order, each close an event of its own: the
event that completed them ends first, with the withdrawal passed in it and the service level (R151, R152), and so does each
close before the next (DEDUCED, log entry 7). A withdrawal aborts the records that have not closed by then (R71). Each close
frees a slot, so eight rounds suffice; it may complete further records by silencing a station (R67). -/
def State.closeReady : Nat → State → State
  | 0, s => s
  | fuel + 1, s =>
    match s.findRecord Record.ready with
    | some _ =>
      match s.settle.findRecord Record.ready with
      | some r => (s.settle.closeRecord r).settle.closeReady fuel
      | none => s.settle
    | none => s

/-- Close every complete record. -/
def State.closeComplete (s : State) : State := s.closeReady 8

/-- R73: at its deadline mark the record of a firing position closes with whatever it holds. -/
def State.deadlineMark (s : State) (k : Nat) : State :=
  match s.findRecord (fun r => r.pos == k) with
  | some r => (s.closeRecord r).closeComplete
  | none => s

/-- R62: a window result reaches the Record Table. -/
def State.recordWindow (s : State) (c : Nat) (a b : ChanResult) : State :=
  (s.onRecordOf c (Record.takeWindow a b)).closeComplete

/-- R63: a segment end reaches the Record Table. -/
def State.recordSegment (s : State) (c : Nat) (loss : Option Int) (band : Nat) : State :=
  (s.onRecordOf c (Record.takeSegment loss band)).closeComplete

/-- R106, R107: the Peer Table's tick. Every station is tested and silenced as one event; the records this completes close
after it (DEDUCED, log entry 7). -/
def State.timeoutPeers (s : State) : State := (allStations.foldl State.timeoutPeer s).closeComplete

/-- R65, R66: a WITNESS that passed the range check. -/
def State.placeWitness (s : State) (st : Station) (c score weight : Nat) (learning : Bool) : State :=
  if s.node.state = .running ∧ s.phasedWarm = true ∧ (s.cyl c).role.judges = true then
    match s.recordOf c with
    | none => s.lateWitness st c
    | some r =>
      if r.windowTaken = false then s.lateWitness st c
      else if r.witnesses.any (fun w => w.station == st) then
        s.fault .malformed (some st) (some Kind.witness.code) (some c)
      else
        (s.onRecordOf c (fun r => { r with
          witnesses := r.witnesses ++ [{ station := st, score := score, weight := weight, learning := learning }] })).closeComplete
  else s

end Sys2Proof.Machine
end

