-- ==== Sys2Proof/Machine/ContextUnit.lean ====
section
/-! DEFINITION. The Context Unit (chapter 7): the swap of the engine context at cycle marks, the shock hold, local shocks
and JOLTs. -/

namespace Sys2Proof.Machine

/-- R123: what a cycle mark does to the Context Unit. -/
def Context.cycleMark (c : Context) : Context :=
  match c.pendingCtx with
  | some p => { c with current := p, pendingCtx := none, freshness := 0 }
  | none => { c with freshness := min (c.freshness + 1) 255 }

/-- R123, R124: the cycle mark, with a CONTEXT_STALE occurrence when the context enters staleness. -/
def State.contextCycleMark (s : State) : State :=
  let s1 := s.onContext Context.cycleMark
  if !s.context.stale && s1.context.stale then s1.fault .contextStale else s1

/-- R122: a PHASE from the engine-manager station becomes the pending context. -/
def State.takePhase (s : State) (st : Station) (ctx : EngineContext) : State :=
  if s.node.state.configured && s.params.manager == st.val then s.onContext (fun c => { c with pendingCtx := some ctx })
  else s

/-- R68: the onset event marks every open record. -/
def State.markShock (s : State) : State := s.onOpenRecords (fun r => { r with shock := true })

/-- R126: the shock hold is extended by a duration. -/
def State.extendHold (s : State) (d : Nat) (cause : HoldCause) : State :=
  match s.context.hold with
  | none => (s.onContext (fun c => { c with hold := some { left := d, cause := cause } })).markShock
  | some h =>
    if h.left < d then s.onContext (fun c => { c with hold := some { left := d, cause := cause } }) else s

/-- R128: after a local shock a JOLT is queued in RUNNING or HOLD while the guard is idle, and the guard starts. -/
def State.considerJolt (s : State) (peak : Nat) : State :=
  if (s.node.state = .running ∨ s.node.state = .hold) ∧ s.context.joltGuard = none then
    (s.queueReport .jolt none (joltPayload peak s.params.shockHold)).onContext
      (fun c => { c with joltGuard := some (s.params.shockHold * (Config.ticksPerMs / 2)) })
  else s

/-- R127: a segment peak passed to the Context Unit. -/
def State.takePeak (s : State) (peak : Nat) : State :=
  if s.params.shockThr ≤ peak then (s.extendHold (msTicks s.params.shockHold) .ownShock).considerJolt peak else s

/-- R129: a received JOLT. -/
def State.takeJolt (s : State) (st : Station) (holdMs : Nat) : State :=
  if s.node.state.configured = true ∧ holdMs ≠ 0 then s.extendHold (msTicks (min holdMs 2000)) (.station st) else s

end Sys2Proof.Machine
end

