-- ==== Sys2Proof/Machine/Segment.lean ====
section
/-! DEFINITION. The Segment Estimator (chapter 3): the period history, the transient test, speed and band, expected period
and loss. -/

namespace Sys2Proof.Machine

/-- R42: the history shifts in a new period. -/
def Estimator.shift (p : Nat) (e : Estimator) : Estimator :=
  { depth := min (e.depth + 1) 3, t0 := some p, t1 := e.t0, t2 := e.t1 }

/-- R44: the two older periods differ by more than one sixteenth of T2. -/
def transient (t1 t2 : Nat) : Bool := t2 < (max t1 t2 - min t1 t2) * 16

/-- R45: the engine speed from T1. -/
def rpmOf (n t1 : Nat) : Nat := 2400000000 / (n * t1)

/-- R46: the rpm band. -/
def bandOf (edges : List Nat) (rpm : Nat) : Nat := edges.countP (· ≤ rpm)

/-- R45: the speed window served for assessment. -/
def served (rpm : Nat) : Bool := 400 ≤ rpm && rpm ≤ 10000

/-- R47: the expected period. -/
def expectedPeriod (t1 t2 : Nat) : Int := 2 * (t1 : Int) - (t2 : Int)

/-- R48: the misfire loss, truncated toward zero and held. -/
def lossOf (t0 t1 t2 : Nat) : Int :=
  max (-32768) (min 32767 ((((t0 : Int) - expectedPeriod t1 t2) * 4096).tdiv (expectedPeriod t1 t2)))

/-- The segment result (R49). -/
structure SegmentResult where
  loss : Option Int
  band : Nat
  deriving DecidableEq, Repr

/-- R44 to R49: the segment result that a history gives. -/
def Estimator.result (im : Image) (e : Estimator) : SegmentResult :=
  match e.t0, e.t1, e.t2 with
  | some t0, some t1, some t2 =>
    let rpm := rpmOf im.n t1
    { loss := if e.depth = 3 ∧ transient t1 t2 = false ∧ served rpm = true then some (lossOf t0 t1 t2) else none,
      band := bandOf im.edges rpm }
  | _, some t1, _ => { loss := none, band := bandOf im.edges (rpmOf im.n t1) }
  | _, _, _ => { loss := none, band := 0 }

/-- R42, R50: a period is taken, and its segment end delivered when it came with a position. -/
def State.takePeriod (s : State) (p : Nat) (pos : Option Nat) : State :=
  let s1 := s.onEstimator (Estimator.shift p)
  match pos with
  | some k =>
    let res := s1.estimator.result s1.params
    s1.recordSegment (s1.params.cylAt k) res.loss res.band
  | none => s1

/-- R21, R43: the segment chain is broken and the history emptied. -/
def State.breakChain (s : State) : State :=
  (s.onTracker (fun tr => { tr with chain := none })).onEstimator (fun _ => Estimator.empty)

end Sys2Proof.Machine
end

