-- ==== Sys2Proof/Machine/Knock.lean ====
section
/-! DEFINITION. The Knock Channels (chapter 2) and witness production (R111, R112, R87): integration, window results, shock
peaks, disabling. -/

namespace Sys2Proof.Machine

/-- R24: the fields of a channel at entry to PROBING. -/
def Channel.atProbing (c : Channel) : Channel :=
  { c with state := .unprobed, biasOn := true, openFault := false, qualification := none, integrator := .idle,
           shockPeak := 0 }

/-- R12, R32, R36: the loss event abandons the integration and restarts the shock peak. -/
def Channel.lossEvent (c : Channel) : Channel := { c with integrator := .idle, shockPeak := 0 }

/-- R28: a channel is disabled while running. -/
def Channel.disable (c : Channel) : Channel :=
  { c with state := .disabled, openFault := true, qualification := none, integrator := .idle, shockPeak := 0 }

/-- R26, R27: the judgement of the probe. A level that stayed above the threshold throughout the watched part disables the
channel; a level above it only now starts the qualification at once. -/
def Channel.judgeProbe (c : Channel) : Channel :=
  match c.levelAbove with
  | some u =>
    if Config.probeWatchTicks ≤ u then { c with state := .disabled, openFault := true, qualification := none }
    else { c with state := .enabled, openFault := true, qualification := some Config.qualificationTicks, shockPeak := 0 }
  | none => { c with state := .enabled, openFault := false, qualification := none, shockPeak := 0 }

/-- R27: the level rises above the threshold. -/
def Channel.levelRises (c : Channel) : Channel :=
  let c1 := { c with levelAbove := some (c.levelAbove.getD 0) }
  if c.state = .enabled ∧ c.openFault = false then
    { c1 with openFault := true, qualification := some Config.qualificationTicks }
  else c1

/-- R27: the level falls back below the threshold. Before the timer has run out that ends the excursion; once it has, the
sensor is found open, and the flag and the timer stay until the expiry is taken (at the tick itself: DESIGN CHOICE, log
entry 30). -/
def Channel.levelFalls (c : Channel) : Channel :=
  let c1 := { c with levelAbove := none }
  if c.state = .enabled ∧ ranOut c.qualification = false then { c1 with openFault := false, qualification := none } else c1

/-- R30: a knock sample taken at an instant. -/
def Channel.sample (now : Tick) (magnitude : Nat) (c : Channel) : Channel :=
  match c.integrator with
  | .running pos cyl opened sum count clipped =>
    if ticksFrom opened now = 0 then c
    else if clipped then { c with integrator := .running pos cyl opened sum (count + 1) true }
    else if Config.sumLimit < sum + magnitude then
      { c with integrator := .running pos cyl opened Config.sumLimit (count + 1) true }
    else { c with integrator := .running pos cyl opened (sum + magnitude) (count + 1) false }
  | .idle => c

/-- R36: the envelope exceeds the shock peak. -/
def Channel.envelope (v : Nat) (c : Channel) : Channel :=
  if c.state = .enabled ∧ c.shockPeak < v then { c with shockPeak := v } else c

/-- R29: a window open mark starts the integration of an ENABLED channel. -/
def Channel.openWindow (now : Tick) (k cyl : Nat) (c : Channel) : Channel :=
  if c.state = .enabled then { c with integrator := .running k cyl now 0 0 false } else c

/-- R29: a window open mark. -/
def State.windowOpen (s : State) (k c : Nat) : State :=
  if s.node.state = .running then s.onChans (Channel.openWindow s.now k c) else s

/-- R34: the knock ratio. -/
def knockRatio (energy ref : Nat) : Nat := min 1023 (energy * 256 / ref)

/-- R31: the energy of a window for position `k`, by the first case that applies, against the reference `ref`. -/
def Channel.windowEnergy (k ref : Nat) (c : Channel) : WindowEnergy :=
  if c.state ≠ .enabled then .absent .disabled
  else match c.integrator with
    | .idle => .absent .notIntegrated
    | .running pos _ _ sum count clipped =>
      if pos ≠ k then .absent .notIntegrated
      else if c.openFault then .absent .bias
      else if count < 16 then .absent .short
      else if clipped then .absent .clipped
      else .present (sum / 4) (knockRatio (sum / 4) ref) ref

/-- R31: the window result of a channel at a close. -/
def State.windowResult (s : State) (ch : Chan) (k c : Nat) : ChanResult :=
  { energy := (s.chan ch).windowEnergy k ((s.cyl c).ref ch),
    learning := (s.cyl c).learning s.params ch,
    weight := s.params.weight ch c }

/-- R33: a clipped window on a weighted channel passes SENSOR_CLIPPED. -/
def State.reportClip (s : State) (c : Nat) (r : ChanResult) : State :=
  if r.energy = .absent .clipped ∧ r.weight ≠ 0 then s.fault .sensorClipped none none (some c) else s

/-! ## Witness production -/

/-- R111: the sum of the counted channels' weights. -/
def localWeight (a b : ChanResult) : Nat :=
  (if a.counts then a.weight else 0) + (if b.counts then b.weight else 0)

/-- R111: the local score. -/
def localScore (a b : ChanResult) : Nat :=
  ((if a.counts then a.weight * a.ratio?.getD 0 else 0) + (if b.counts then b.weight * b.ratio?.getD 0 else 0))
    / localWeight a b

/-- R111: a counted channel is learning. -/
def localLearning (a b : ChanResult) : Bool := (a.counts && a.learning) || (b.counts && b.learning)

/-- R87: the witness-side update of one channel. -/
def CylEntry.witnessUpdate (im : Image) (ch : Chan) (r : ChanResult) (score : Nat) (e : CylEntry) : CylEntry :=
  match r.energy? with
  | some x => if r.weight ≠ 0 ∧ (r.learning = true ∨ score < im.kthr) then e.updateRef im ch x else e
  | none => e

/-- R112, R87: witness production takes a window result: the WITNESS queued first, then the reference updates. -/
def State.produceWitness (s : State) (c : Nat) (a b : ChanResult) : State :=
  if s.phasedWarm then
    let s1 :=
      if 1 ≤ localWeight a b then
        s.queueReport .witness (some c)
          (witnessPayload c (localScore a b) (localWeight a b) (localLearning a b))
      else s
    if s.context.hold = none then
      s1.onCyl c (fun e => (e.witnessUpdate s.params .a a (localScore a b)).witnessUpdate s.params .b b (localScore a b))
    else s1
  else s

/-- R31, R33, R35: a window close mark: both results formed, clips passed, the integrators idle, the result handed to the
Record Table or to witness production by the role. -/
def State.windowClose (s : State) (k c : Nat) : State :=
  if s.node.state = .running then
    let a := s.windowResult .a k c
    let b := s.windowResult .b k c
    let s1 := ((s.onChans Channel.abandon).reportClip c a).reportClip c b
    if (s.cyl c).role.judges then s1.recordWindow c a b else s1.produceWitness c a b
  else s

/-! ## Shock peaks -/

/-- R37: the larger of the peaks of the ENABLED channels; none when no channel is ENABLED. -/
def State.segmentPeak (s : State) : Option Nat :=
  match s.chanA.state, s.chanB.state with
  | .enabled, .enabled => some (max s.chanA.shockPeak s.chanB.shockPeak)
  | .enabled, _ => some s.chanA.shockPeak
  | _, .enabled => some s.chanB.shockPeak
  | _, _ => none

/-- R36, R37: an ENABLED channel's peak is restarted once it has been read. -/
def Channel.restartPeak (c : Channel) : Channel := if c.state = .enabled then { c with shockPeak := 0 } else c

/-- R37: the shock detector takes a segment boundary. -/
def State.boundaryPeak (s : State) : State :=
  match s.segmentPeak with
  | some p => (s.onChans Channel.restartPeak).takePeak p
  | none => s

end Sys2Proof.Machine
end

