-- ==== Sys2Proof/Machine/Node.lean ====
section
/-! DEFINITION. Node Control (chapter 10): the entries to its states, leaving LOADING, HOLD and RESTART. Entry to WITHDRAWN,
which ends an event, stands in Settle.lean. -/

namespace Sys2Proof.Machine

/-! ## Entries to node states -/

/-- R24, R25, R158, R166: entry to PROBING. -/
def State.enterProbing (s : State) : State :=
  ((s.onNode (fun n => { n with
      state := .probing, probe := some Config.probeTicks, listen := none, statusTimer := none })).onChans
        Channel.atProbing).onAlert (fun a => { a with line := .released, holdOff := none })

/-- R162: the listen of JOINING starts once the acquisition state is LOCKED. -/
def State.startListen (s : State) : State :=
  if s.node.state = .joining ∧ s.link.acq = some .locked ∧ s.node.listen = none then
    s.onNode (fun n => { n with listen := some (2 * msTicks s.params.statusMs) })
  else s

/-- R162: a listen under way stops when LOCKED is left. -/
def State.stopListen (s : State) : State := s.onNode (fun n => { n with listen := none })

/-- R162: entry to JOINING. -/
def State.enterJoining (s : State) : State :=
  (s.onNode (fun n => { n with state := .joining, probe := none })).startListen

/-- R158, R162, R166: entry to RUNNING from JOINING. -/
def State.enterRunning (s : State) : State :=
  let s1 := s.onNode (fun n => { n with
    state := .running, listen := none, statusTimer := some (msTicks s.params.statusMs) })
  s1.queueStatus.onAlert (AlertUnit.assertLine .running)

/-! ## Leaving LOADING -/

/-- R133: the rate that a code of the image names. -/
def rateOfCode : Nat → Rate
  | 1 => .k125 | 2 => .k250 | 3 => .k500 | _ => .k1000

/-- R133: the rate fields at leaving LOADING in FIXED mode. -/
def Link.startFixed (r fallback : Rate) (l : Link) : Link :=
  { l with mode := some .fixed, acq := some .locked, rate := some r, fallback := some fallback, dwell := none }

/-- R133: the rate fields at leaving LOADING in ACQUIRE mode. -/
def Link.startAcquire (fallback : Rate) (l : Link) : Link :=
  { l with mode := some .acquire, acq := some .hunt, rate := some .k500, fallback := some fallback,
           dwell := some Config.dwellTicks }

/-- R133: the link as an accepted image asks for it. -/
def Link.startFrom (im : Image) (l : Link) : Link :=
  if im.bitRate = 0 then l.startAcquire (rateOfCode im.fallback)
  else l.startFixed (rateOfCode im.bitRate) (rateOfCode im.fallback)

/-- R149: the severity a code of the image names. -/
def severityOfCode : Nat → Severity
  | 0 => .advisory | 1 => .degrading | _ => .withdrawing

/-- R148, R149: the masks and configurable severities from the image; the mask flag of class 4 is disregarded. -/
def FaultUnit.configure (im : Image) (f : FaultUnit) : FaultUnit :=
  { f with classes := (List.range 16).map (fun i =>
      let x := f.classes.getD i (ClassState.powerOn .advisory)
      { x with
        mask := im.faultMask.testBit i && i != 4,
        severity := if i = 6 then severityOfCode im.sevSilent
          else if i = 8 then severityOfCode im.sevClash else x.severity }) }

/-- R155: the alert mask from the image. -/
def AlertUnit.configure (im : Image) (a : AlertUnit) : AlertUnit :=
  { a with sources := (List.range 8).map (fun i =>
      { a.sources.getD i SourceState.powerOn with mask := im.alertMask.testBit i }) }

/-- The Cylinder Table with the image's roles and every other field at its power-on value (R82, R83). -/
def cylindersFromImage (im : Image) (own : Station) : List CylEntry := allCylinders.map (CylEntry.fromImage im own)

/-- R160: the image is accepted: every block takes its parameters, and the node enters PROBING. -/
def State.acceptImage (s : State) (im : Image) : State :=
  let s1 := (s.setImage (some im)).onNode (fun n => { n with port := .idle })
  let s2 := (s1.onFaults (FaultUnit.configure im)).onAlert (AlertUnit.configure im)
  let s3 := (s2.onCylinders (fun _ => cylindersFromImage im s.station)).onPeers (fun _ => peersFromImage im s.station)
  (s3.onLink (Link.startFrom im)).enterProbing

/-- R158, R160, R161, R166: entry to UNCONFIGURED: SERVICE_CHANGE by the change of the service level, then one
CONFIG_INVALID occurrence. -/
def State.enterUnconfigured (s : State) : State :=
  let s1 := s.onNode (fun n => { n with
    state := .unconfigured, port := .idle, statusTimer := some (msTicks Config.unconfiguredStatusMs) })
  let s2 := (s1.onLink (Link.startAcquire .k500)).queueStatus
  let s3 := (s2.updateService).onAlert (AlertUnit.assertLine .unconfigured)
  s3.fault .configInvalid

/-! ## HOLD and RESTART -/

/-- R147: entry to HOLD purges WITNESS, VERDICT and TALLY. -/
def purgedByHold (e : TxEntry) : Bool := e.kind == .witness || e.kind == .verdict || e.kind == .tally

/-- R164: entry to HOLD. -/
def State.enterHold (s : State) : State :=
  ((s.abortAll.onChans Channel.abandon).removeReports purgedByHold).onNode (fun n => { n with state := .hold })

/-- R165: RESTART: every open record aborted, the blocks at their RESTART values, PROBING entered. -/
def State.restart (s : State) : State :=
  let s1 := s.abortAll.onTracker (fun _ => Tracker.powerOn)
  let s2 := (s1.onEstimator (fun _ => Estimator.empty)).onCylinders (fun _ => cylindersFromImage s.params s.station)
  let s3 := (s2.setMarkCounted false).onPeers (fun _ => peersFromImage s.params s.station)
  ((s3.onContext (fun _ => Context.powerOn)).removeReports (fun _ => true)).enterProbing

end Sys2Proof.Machine
end

