-- ==== Sys2Proof/Machine/Tracker.lean ====
section
/-! DEFINITION. The Angle Tracker (chapter 1): the pending mark list and the issue of marks, segment boundaries, the loss of
PHASED, tooth edges by sync state, and phasing. -/

namespace Sys2Proof.Machine

/-! ## The pending mark list (R15, R16) -/

/-- The order of kinds at equal angle (R17). -/
def MarkKind.rank : MarkKind → Nat
  | .cycle => 0 | .firing => 1 | .segment => 2 | .windowOpen => 3 | .windowClose => 4 | .camWindowEnd => 5
  | .deadline => 6

/-- List order: least distance first, and by kind at equal distance. -/
def PendingMark.precedes (a b : PendingMark) : Bool :=
  decide (a.dist < b.dist) || (decide (a.dist = b.dist) && decide (a.kind.rank < b.kind.rank))

/-- Place a mark in the list. -/
def insertMark (m : PendingMark) : List PendingMark → List PendingMark
  | [] => [m]
  | x :: rest => if m.precedes x then m :: x :: rest else x :: insertMark m rest

/-- R16: the standing marks with their cycle angles: cycle mark, cam-window end, and per position a firing mark and a
segment boundary. -/
def Image.standingMarks (im : Image) : List (MarkKind × Nat × Option Nat) :=
  (.cycle, 0, none) :: (.camWindowEnd, (im.camStart + im.camWidth) % 7200, none)
    :: (List.range im.n).flatMap (fun k =>
      [(.firing, (k * im.interval) % 7200, some k), (.segment, (k * im.interval + im.sigma) % 7200, some k)])

/-- R16: the distance at which a standing mark is placed when PHASED is entered at angle `c`: a whole cycle where the
angles are equal. -/
def entryDistance (angle c : Nat) : Nat := if (angle + 7200 - c) % 7200 = 0 then 7200 else (angle + 7200 - c) % 7200

/-- R16: the list built when PHASED is entered at cycle angle `c`. -/
def Image.entryMarks (im : Image) (c : Nat) : List PendingMark :=
  im.standingMarks.foldl
    (fun l m => insertMark { kind := m.1, angle := m.2.1, pos := m.2.2, dist := (entryDistance m.2.1 c : Int) } l) []

/-- R16: the dependent marks of a firing mark issued at distance `d` (0 or less). -/
def Image.dependentMarks (im : Image) (k : Nat) (angle : Nat) (d : Int) : List PendingMark :=
  [ { kind := .windowOpen, angle := (angle + im.omega) % 7200, pos := some k, dist := (im.omega : Int) + d },
    { kind := .windowClose, angle := (angle + im.omega + im.width) % 7200, pos := some k,
      dist := ((im.omega + im.width : Nat) : Int) + d },
    { kind := .deadline, angle := (angle + im.deadlineOffset) % 7200, pos := some k,
      dist := (im.deadlineOffset : Int) + d } ]

/-- R16: what the list becomes when its head has been issued: a standing mark is placed again a cycle later, a firing mark
also places its dependent marks, and a dependent mark leaves. -/
def replaceMark (im : Image) (m : PendingMark) (rest : List PendingMark) : List PendingMark :=
  match m.kind with
  | .cycle => insertMark { m with dist := m.dist + 7200 } rest
  | .segment => insertMark { m with dist := m.dist + 7200 } rest
  | .camWindowEnd => insertMark { m with dist := m.dist + 7200 } rest
  | .firing =>
    (im.dependentMarks (m.pos.getD 0) m.angle m.dist).foldl (fun l x => insertMark x l)
      (insertMark { m with dist := m.dist + 7200 } rest)
  | _ => rest

/-! ## Leaving PHASED (R10 to R12) -/

/-- R12: the loss event, taken by the Record Table and the Knock Channels. -/
def State.lossEvent (s : State) : State := s.abortAll.onChans Channel.lossEvent

/-- R10: the tracker's fields at a drop to CRANK_LOCKED: tooth index and crank-revolution angle kept. -/
def Tracker.dropPhase (tr : Tracker) : Tracker :=
  { tr with sync := .crankLocked, edgeAngle := tr.edgeAngle.map (· % 3600), angle := tr.angle.map (· % 3600),
            phase := none, warmUp := 0, camMiss := 0, camSeen := false, marks := [] }

/-- R10, R12, R21: a cam mismatch: the occurrence, the drop to CRANK_LOCKED, the chain broken for an odd cylinder count,
the loss event. -/
def State.camMismatch (s : State) : State :=
  let s1 := (s.fault .camMismatch).onTracker Tracker.dropPhase
  (if s.params.n % 2 = 1 then s1.breakChain else s1).lossEvent

/-! ## Segment boundaries (R19, R20) -/

/-- R20: a measured segment period is held at the limit and raised to 1. -/
def clampPeriod (d : Nat) : Nat := max 1 (min d Config.periodLimit)

/-- R20, R37: a segment boundary ends the segment of position `ended`, where there is one. The order of the segment end
and the segment peak is the world's (R68, R130; log entry 8). Towards the other marks issued by the same tooth edge, a
window close or a deadline among them, the peak and the onset it brings are taken in the boundary mark's place in the
order of issue, where R130 leaves the order open (DESIGN CHOICE, log entry 28). -/
def State.boundary (s : State) (ended : Option Nat) (order : BoundaryOrder) : State :=
  let s1 := s.onTracker (fun tr => { tr with chain := some s.now })
  match s.tracker.chain with
  | some u =>
    let p := clampPeriod (ticksFrom u s.now)
    match order with
    | .segmentEndFirst => (s1.takePeriod p ended).boundaryPeak
    | .peakFirst => s1.boundaryPeak.takePeriod p ended
  | none => s1.boundaryPeak

/-! ## Marks issued (R13, R15, R17, R18) -/

/-- R13: the tracker's own part of the cycle mark. -/
def Tracker.cycleMark (im : Image) (tr : Tracker) : Tracker :=
  { tr with cycleCount := tr.cycleCount + 1, warmUp := if tr.warmUp < im.warmUp then tr.warmUp + 1 else tr.warmUp }

/-- R13, R15: the cycle mark, handed to the tracker, then the Context Unit, then the Cylinder Table. -/
def State.cycleMark (s : State) : State :=
  ((s.onTracker (Tracker.cycleMark s.params)).contextCycleMark).cylinderCycleMark

/-- R59, R113: a firing mark removes the unsent WITNESS of its cylinder, and may open a record. -/
def State.firingMark (s : State) (k : Nat) : State :=
  (s.removeReports (fun e => e.kind == .witness && e.cyl == some (s.params.cylAt k))).openRecord k (s.params.cylAt k)

/-- R11: the cam-window end judges the window just passed. -/
def State.camWindowEnd (s : State) : State :=
  if s.tracker.camSeen then s.onTracker (fun tr => { tr with camSeen := false, camMiss := 0 })
  else if s.tracker.camMiss = 0 then s.onTracker (fun tr => { tr with camMiss := 1 })
  else s.camMismatch

/-- R15, R18: one mark handed to the blocks it is for. -/
def State.deliverMark (s : State) (m : PendingMark) (order : BoundaryOrder) : State :=
  let k := m.pos.getD 0
  match m.kind with
  | .cycle => s.cycleMark
  | .firing => s.firingMark k
  | .segment => s.boundary (some ((k + s.params.n - 1) % s.params.n)) order
  | .windowOpen => s.windowOpen k (s.params.cylAt k)
  | .windowClose => s.windowClose k (s.params.cylAt k)
  | .camWindowEnd => s.camWindowEnd
  | .deadline => s.deadlineMark k

/-- R17, R18: one mark issued, as a single event. -/
def State.issueMark (s : State) (m : PendingMark) (rest : List PendingMark) (order : BoundaryOrder) : State :=
  ((s.onTracker (fun tr => { tr with marks := replaceMark s.params m rest })).deliverMark m order).settle

/-- R17: issue the entries at the head of the list that have been reached or passed, one after another. -/
def State.issueMarks : Nat → BoundaryOrder → State → State
  | 0, _, s => s
  | fuel + 1, order, s =>
    match s.tracker.marks with
    | m :: rest => if m.dist ≤ 0 then (s.issueMark m rest order).issueMarks fuel order else s
    | [] => s

/-- R17: one pass. Each entry is issued at most once in an advance of less than a cycle, and a firing mark adds three, so
four times the list's length is enough. -/
def State.issueDue (s : State) (order : BoundaryOrder) : State := s.issueMarks (4 * s.tracker.marks.length) order

/-! ## Tooth edges (R3 to R8) -/

/-- R4: the gap test on the periods as the edge leaves them. -/
def Tracker.gapCandidate (im : Image) (tr : Tracker) : Bool :=
  match tr.periodPrev, tr.periodCur with
  | some p, some q => decide ((2 * im.gap + 1) * p < 2 * q)
  | _, _ => false

/-- R3: the edge's period measured and the history shifted. -/
def Tracker.measure (now : Tick) (tr : Tracker) : Tracker :=
  { tr with lastEdge := some now, periodPrev := tr.periodCur,
            periodCur := tr.lastEdge.map (fun u => ticksFrom u now) }

/-- R8: the stall limit from the per-pitch estimate. -/
def stallLimit (im : Image) (perPitch : Option Nat) : Nat :=
  match perPitch with
  | some e => min ((im.gap + 3) * e) Config.stallTicks
  | none => Config.stallTicks

/-- R3, R8: the span fixed, the per-pitch estimate and the stall limit that the edge leaves behind. -/
def Tracker.estimate (im : Image) (candidate : Bool) (tr : Tracker) : Tracker :=
  let span := if candidate then im.gap + 1 else 1
  let per := tr.periodCur.map (fun q => max 1 (q / span))
  { tr with span := some span, perPitch := per, stallLeft := some (stallLimit im per) }

/-- R5: a tooth edge in STOPPED. -/
def Tracker.startSeeking (now : Tick) (tr : Tracker) : Tracker :=
  { tr with sync := .seeking, lastEdge := some now, refCount := none, stallLeft := some Config.stallTicks }

/-- R6: CRANK_LOCKED is entered with this edge as tooth 0. -/
def Tracker.lock (im : Image) (tr : Tracker) : Tracker :=
  { tr with sync := .crankLocked, refCount := none, toothIndex := some 0, edgeAngle := some im.gapOffset,
            angle := some im.gapOffset }

/-- R6: a tooth edge in SEEKING. -/
def Tracker.seek (im : Image) (candidate : Bool) (tr : Tracker) : Tracker :=
  match tr.refCount with
  | none => if candidate then { tr with refCount := some 0 } else tr
  | some c =>
    if c + 1 = im.realTeeth then if candidate then tr.lock im else { tr with refCount := none }
    else if candidate then { tr with refCount := some 0 } else { tr with refCount := some (c + 1) }

/-- R19: an accepted edge in CRANK_LOCKED, which is a boundary without a position where its angle is a boundary angle. -/
def State.lockedBoundary (s : State) (order : BoundaryOrder) : State :=
  if s.tracker.sync = .crankLocked ∧ s.params.isLockedBoundary (s.tracker.edgeAngle.getD 0) = true then
    s.boundary none order
  else s

/-- R19, R21 (DEDUCED, log entry 9): a mark issued at this edge has dropped PHASED before the edge's own boundary mark was
issued; the edge is then a boundary of CRANK_LOCKED, so that no boundary is skipped. -/
def State.boundaryAfterDrop (s : State) (order : BoundaryOrder) : State :=
  if s.tracker.chain = some s.now then s else s.lockedBoundary order

/-- R7, R12, R21: a tooth-count error. `lost` is the occurrence with the angle held before the edge. -/
def State.toothCountError (s : State) (candidate : Bool) (lost : Occurrence) : State :=
  let wasPhased := s.tracker.sync == .phased
  let s1 := (s.occur lost).onTracker (fun tr => { tr with
    sync := .seeking, toothIndex := none, edgeAngle := none, angle := none, phase := none, marks := [],
    refCount := if candidate then some 0 else none,
    warmUp := if wasPhased then 0 else tr.warmUp })
  if wasPhased then s1.breakChain.lossEvent else s1.breakChain

/-- R7: the tooth edge agrees with the tooth count: a candidate exactly where the gap ends. -/
def Tracker.edgeAccepted (im : Image) (candidate : Bool) (tr : Tracker) : Bool :=
  candidate == decide (tr.toothIndex.getD 0 + 1 = im.realTeeth)

/-- R7: the tooth index of an accepted edge. -/
def Tracker.nextIndex (im : Image) (tr : Tracker) : Nat :=
  if tr.toothIndex.getD 0 + 1 = im.realTeeth then 0 else tr.toothIndex.getD 0 + 1

/-- R7: an accepted edge in CRANK_LOCKED. -/
def Tracker.acceptLocked (im : Image) (tr : Tracker) : Tracker :=
  let a := im.toothAngle (tr.nextIndex im)
  { tr with toothIndex := some (tr.nextIndex im), edgeAngle := some a, angle := some a }

/-- R7, R17: an accepted edge in PHASED: the angle steps to the tooth, and every distance falls by the advance. -/
def Tracker.acceptPhased (im : Image) (tr : Tracker) : Tracker :=
  let step := if tr.toothIndex.getD 0 + 1 = im.realTeeth then (im.gap + 1) * im.pitch else im.pitch
  let a := (tr.edgeAngle.getD 0 + step) % 7200
  ({ tr with toothIndex := some (tr.nextIndex im), edgeAngle := some a } : Tracker).moveTo a

/-- R3 to R7: a tooth edge taken in SEEKING, CRANK_LOCKED or PHASED. -/
def State.takeTooth (s : State) (order : BoundaryOrder) : State :=
  let lost := s.occurrence .crankLost none none none
  let im := s.params
  let s1 := s.onTracker (Tracker.measure s.now)
  let candidate := s1.tracker.gapCandidate im
  let s2 :=
    match s.tracker.sync with
    | .seeking => (s1.onTracker (Tracker.seek im candidate)).lockedBoundary order
    | .crankLocked =>
      if s1.tracker.edgeAccepted im candidate then (s1.onTracker (Tracker.acceptLocked im)).lockedBoundary order
      else s1.toothCountError candidate lost
    | .phased =>
      if s1.tracker.edgeAccepted im candidate then
        ((s1.onTracker (Tracker.acceptPhased im)).issueDue order).boundaryAfterDrop order
      else s1.toothCountError candidate lost
    | .stopped => s1
  s2.onTracker (Tracker.estimate im candidate)

/-! ## Stall and cam edges (R8 to R10) -/

/-- R8: the tracker's fields after a stall; the engine cycle count is held. -/
def Tracker.stalled (tr : Tracker) : Tracker := { Tracker.powerOn with cycleCount := tr.cycleCount }

/-- R9: PHASED is entered at cycle angle `c`; the latest tooth's angle is restated as a cycle angle. -/
def Tracker.enterPhased (im : Image) (now : Tick) (c : Nat) (tr : Tracker) : Tracker :=
  { tr with sync := .phased, edgeAngle := some ((c + 7200 - tr.heldAdvance im now) % 7200), angle := some c,
            phase := some (phaseOf c), cycleCount := 0, warmUp := 0, camMiss := 0, camSeen := true,
            marks := im.entryMarks c }

end Sys2Proof.Machine
end

