-- ==== Sys2Proof/Machine/Engine.lean ====
section
/-! DEFINITION. Family: engine input commands (chapter 1): TOOTH_EDGE, STALL, CAM_EDGE, INTERPOLATED_MARK. -/

namespace Sys2Proof.Machine

/-- TOOTH_EDGE (R2 to R8): not acted on in LOADING and UNCONFIGURED. -/
def toothEdge (order : BoundaryOrder) (s : State) : State :=
  if s.node.state.configured then
    if s.tracker.sync = .stopped then s.onTracker (Tracker.startSeeking s.now) else s.takeTooth order
  else s

/-- STALL (R8, R12, R21): the watchdog, which runs in SEEKING, CRANK_LOCKED and PHASED, has run out. -/
def stall (s : State) : State :=
  if ranOut s.tracker.stallLeft then
    match s.tracker.sync with
    | .stopped => s
    | .phased => (s.onTracker Tracker.stalled).breakChain.lossEvent
    | _ => (s.onTracker Tracker.stalled).breakChain
  else s

/-- CAM_EDGE (R5, R6, R9, R10). -/
def camEdge (s : State) : State :=
  let im := s.params
  let a := s.tracker.angle.getD 0
  match s.tracker.sync with
  | .crankLocked =>
    if im.inCamWindow a then s.onTracker (Tracker.enterPhased im s.now a)
    else if im.inCamWindow (a + 3600) then s.onTracker (Tracker.enterPhased im s.now (a + 3600))
    else s
  | .phased =>
    if im.inCamWindow a then s.onTracker (fun tr => { tr with camSeen := true, camMiss := 0 }) else s.camMismatch
  | _ => s

/-- INTERPOLATED_MARK (R17): the marks that the interpolated angle has reached are issued. No segment boundary falls
between teeth (R15), so the order of a boundary's events does not arise here. -/
def interpolatedMark (s : State) : State :=
  if s.tracker.sync = .phased then s.issueDue .segmentEndFirst else s

/-- The meaning of TOOTH_EDGE. -/
def execToothEdge (t : Tick) (order : BoundaryOrder) (s : State) : Host.Outcome State Fault Refusal :=
  .next (toothEdge order (s.advance t)).settle

/-- The meaning of STALL. -/
def execStall (t : Tick) (s : State) : Host.Outcome State Fault Refusal := .next (stall (s.advance t)).settle

/-- The meaning of CAM_EDGE. -/
def execCamEdge (t : Tick) (s : State) : Host.Outcome State Fault Refusal := .next (camEdge (s.advance t)).settle

/-- The meaning of INTERPOLATED_MARK. -/
def execInterpolatedMark (t : Tick) (s : State) : Host.Outcome State Fault Refusal :=
  .next (interpolatedMark (s.advance t)).settle

end Sys2Proof.Machine
end

