-- ==== Sys2Proof/Machine/KnockInputs.lean ====
section
/-! DEFINITION. Family: knock channel commands (chapter 2): KNOCK_SAMPLE, BIAS_ABOVE_THRESHOLD, BIAS_BELOW_THRESHOLD,
QUALIFICATION_EXPIRY, ENVELOPE_EXCEEDS_SHOCK_PEAK. -/

namespace Sys2Proof.Machine

/-- QUALIFICATION_EXPIRY (R27, R28): the timer of an ENABLED channel has run out. -/
def qualificationExpiry (ch : Chan) (s : State) : State :=
  if (s.chan ch).state = .enabled ∧ ranOut (s.chan ch).qualification = true then
    (s.onChan ch Channel.disable).fault .sensorOpen
  else s

/-- The meaning of KNOCK_SAMPLE. -/
def execKnockSample (t : Tick) (ch : Chan) (magnitude : BitVec 11) (s : State) : Host.Outcome State Fault Refusal :=
  .next ((s.advance t).onChan ch (Channel.sample t magnitude.toNat)).settle

/-- The meaning of BIAS_ABOVE_THRESHOLD. -/
def execBiasAboveThreshold (t : Tick) (ch : Chan) (s : State) : Host.Outcome State Fault Refusal :=
  .next ((s.advance t).onChan ch Channel.levelRises).settle

/-- The meaning of BIAS_BELOW_THRESHOLD. -/
def execBiasBelowThreshold (t : Tick) (ch : Chan) (s : State) : Host.Outcome State Fault Refusal :=
  .next ((s.advance t).onChan ch Channel.levelFalls).settle

/-- The meaning of QUALIFICATION_EXPIRY. -/
def execQualificationExpiry (t : Tick) (ch : Chan) (s : State) : Host.Outcome State Fault Refusal :=
  .next (qualificationExpiry ch (s.advance t)).settle

/-- The meaning of ENVELOPE_EXCEEDS_SHOCK_PEAK. -/
def execEnvelopeExceedsShockPeak (t : Tick) (ch : Chan) (envelope : BitVec 16) (s : State) :
    Host.Outcome State Fault Refusal :=
  .next ((s.advance t).onChan ch (Channel.envelope envelope.toNat)).settle

end Sys2Proof.Machine
end

