-- ==== Sys2Proof/Machine/Receive.lean ====
section
/-! DEFINITION. Family: received frames (chapters 4, 6, 7 and 8): acquisition by good and failing frames, the receive checks,
and FRAME_REJECTED, OWN_STATION_FRAME, PEER_REPORT_RECEIVED, JOLT_RECEIVED, PHASE_RECEIVED, WITNESS_RECEIVED,
VERDICT_RECEIVED. -/

namespace Sys2Proof.Machine

/-! ## Bit-rate acquisition (R143, R144) -/

/-- R143: the next rate in the hunting order 500, 1000, 250, 125, 500. -/
def Rate.next : Rate → Rate
  | .k500 => .k1000 | .k1000 => .k250 | .k250 => .k125 | .k125 => .k500

/-- R143: HUNT on the next rate, the dwell restarted. -/
def Link.huntNext (l : Link) : Link :=
  { l with acq := some .hunt, rate := l.rate.map Rate.next, confirms := 0, dwell := some Config.dwellTicks }

/-- R143, R144: what a good frame does to acquisition. -/
def Link.goodFrame (l : Link) : Link :=
  match l.acq with
  | some .locked => { l with failures := 0 }
  | some .hunt => { l with acq := some .confirm, confirms := 0, rounds := 0, dwell := some Config.dwellTicks }
  | some .confirm =>
    if 3 ≤ l.confirms + 1 then { l with acq := some .locked, confirms := 0, dwell := none }
    else { l with confirms := l.confirms + 1, dwell := some Config.dwellTicks }
  | none => l

/-- R143, R144, R162: a good frame; a listen of JOINING starts when it brings LOCKED. -/
def State.goodFrame (s : State) : State := (s.onLink Link.goodFrame).startListen

/-- R144: RATE_LOST, and in ACQUIRE mode the return to HUNT, which stops a listen under way. -/
def State.loseRate (s : State) : State :=
  let s1 := (s.fault .rateLost).onLink (fun l => { l with failures := 0 })
  if s.link.mode = some .acquire then (s1.onLink (fun l => { l.huntNext with rounds := 0 })).stopListen else s1

/-- R143, R144: a failing frame. -/
def State.failingFrame (s : State) : State :=
  match s.link.acq with
  | some .locked =>
    if 8 ≤ s.link.failures + 1 then s.loseRate else s.onLink (fun l => { l with failures := l.failures + 1 })
  | some .confirm => s.onLink Link.huntNext
  | _ => s

/-! ## The end of a frame -/

/-- R136: a frame is taken whole by a receiver that is ASSEMBLING it, and by one that is IDLE after an interframe gap, for
which the frame's first cell is the header's start cell; and only while no frame of the node's own is under way. -/
def Link.takesFrame (l : Link) : Bool :=
  l.transmitter == .idle
    && (l.receiver == .assembling || (l.receiver == .idle && decide (Config.gapCells ≤ l.recessiveRun)))

/-- R136, R142: the cells of a frame that the receiver does not take. The line monitor counts them, and their first
dominant cell, read before the gap, sends an IDLE receiver to DISCARDING, where it takes no characters. -/
def Link.passFrame (cells : List Bool) (l : Link) : Link := { l.readCells cells with receiver := .discarding }

/-- R133, R136: the cells of a frame reach the node's receiver, which takes the frame or lets it pass. In LOADING nothing
is read. While the node's own frame is under way no other frame can end on the line, and only the time passes (DESIGN
CHOICE, log entry 19). -/
def State.receive (s : State) (cells : List Bool) (take : State → State) : State :=
  if s.node.state = .loading then s
  else if s.link.takesFrame then take s
  else if s.link.transmitter = .idle then s.onLink (Link.passFrame cells)
  else s

/-- R136: the cells of a frame read and the receiver left in a state. -/
def State.frameRead (s : State) (cells : List Bool) (r : Receiver) : State :=
  s.onLink (fun l => { l.readFrame cells with receiver := r })

/-- R137: a failure at check 1 or 2 is passed only while LOCKED, with the header's station and kind where it was taken. -/
def State.checkFault (s : State) (cls : FaultClass) (header : Option Byte) : State :=
  if s.link.acq = some .locked then s.fault cls (header.map headerStation) (header.map headerKind) none else s

/-- R137, R143, R144: a frame that the receiver took up and that does not pass, judged. The eighth failing frame in LOCKED
passes its CHECK or MALFORMED first and RATE_LOST after it; the rules give no order (DESIGN CHOICE, log entry 33). -/
def State.judgeTaken (s : State) (chars : List Byte) (ending : FrameEnd) : State :=
  let cells := endedCells chars ending
  match judgeFrame chars ending with
  | .truncated h => ((s.frameRead cells .discarding).checkFault .malformed h).failingFrame
  | .overlong h => (s.frameRead cells .discarding).fault .malformed (some (headerStation h)) (some (headerKind h)) none
  | .badCheck h => ((s.frameRead cells .idle).checkFault .check (some h)).failingFrame
  | .malformed h =>
    ((s.frameRead cells .idle).fault .malformed (some (headerStation h)) (some (headerKind h)) none).goodFrame
  | .valid => s

/-- FRAME_REJECTED (R136, R137, R143, R144). -/
def frameRejected (chars : List Byte) (ending : FrameEnd) (s : State) : State :=
  s.receive (endedCells chars ending) (fun s => s.judgeTaken chars ending)

/-- R138: a valid frame from a station, where the receiver takes it: a good frame; a clash when it bears the node's own
station; otherwise taken by the Peer Table for liveness, and then by the block of its kind. -/
def State.takeFrame (s : State) (k : Kind) (st : Station) (payload : List Byte) (act : State → State) : State :=
  let cells := frameCells (frameChars k st payload)
  s.receive cells (fun s =>
    let s1 := (s.frameRead cells .idle).goodFrame
    if st = s.station then s1.fault .clash (some st) (some k.code) none else act (s1.hearPeer st k))

/-- R65, R66: a WITNESS as the Record Table takes it. -/
def State.takeWitness (s : State) (st : Station) (cyl : Byte) (score : BitVec 16) (flags : Byte) : State :=
  if s.node.state.configured then
    if witnessInRange cyl score flags then
      s.placeWitness st cyl.toNat score.toNat (witnessWeight flags) (witnessLearning flags)
    else
      s.fault .malformed (some st) (some Kind.witness.code) (if isCyl cyl.toNat then some cyl.toNat else none)
  else s

/-- R115: the conflict rule says yield. -/
def Image.yieldsTo (im : Image) (own st : Station) (c : Nat) : Bool :=
  if im.owner.getD (c - 1) 255 = st.val then true
  else if im.owner.getD (c - 1) 255 = own.val then false
  else decide (st.val < own.val)

/-- R115: the conflict rule. -/
def State.resolveConflict (s : State) (st : Station) (c : Nat) : State :=
  let s1 := s.fault .ownershipConflict (some st) (some Kind.verdict.code) (some c)
  if s.params.yieldsTo s.station st c then s1.yieldCylinder c else s1

/-- R114: a VERDICT as the ownership logic takes it. -/
def State.takeVerdict (s : State) (st : Station) (c : Nat) : State :=
  if s.node.state.configured then
    if isCyl c then
      let s1 := s.onCyl c (fun e => { e with heard := true, silence := 0 })
      if (s.cyl c).role.judges then s1.resolveConflict st c else s1
    else s.fault .malformed (some st) (some Kind.verdict.code) none
  else s

/-! ## The meanings -/

/-- The meaning of FRAME_REJECTED. -/
def execFrameRejected (t : Tick) (chars : List Byte) (ending : FrameEnd) (s : State) :
    Host.Outcome State Fault Refusal :=
  .next (frameRejected chars ending (s.advance t)).settle

/-- The meaning of OWN_STATION_FRAME (R138). -/
def execOwnStationFrame (t : Tick) (kind : Kind) (payload : List Byte) (s : State) : Host.Outcome State Fault Refusal :=
  .next ((s.advance t).takeFrame kind s.station payload id).settle

/-- The meaning of PEER_REPORT_RECEIVED (R105): a TALLY, STATUS or LOG, whose payload is not read. -/
def execPeerReportReceived (t : Tick) (st : Station) (kind : PassiveKind) (payload : BitVec 64) (s : State) :
    Host.Outcome State Fault Refusal :=
  .next ((s.advance t).takeFrame kind.kind st (payloadBytes payload) id).settle

/-- The meaning of JOLT_RECEIVED (R129): the peak field is not used. -/
def execJoltReceived (t : Tick) (st : Station) (peak hold : BitVec 16) (s : State) : Host.Outcome State Fault Refusal :=
  .next ((s.advance t).takeFrame .jolt st (bytesOfWord peak ++ bytesOfWord hold)
    (fun s => s.takeJolt st hold.toNat)).settle

/-- The meaning of PHASE_RECEIVED (R122). -/
def execPhaseReceived (t : Tick) (st : Station) (cutMask flags : Byte) (s : State) : Host.Outcome State Fault Refusal :=
  .next ((s.advance t).takeFrame .phase st [cutMask, flags] (fun s => s.takePhase st (phaseContext cutMask flags))).settle

/-- The meaning of WITNESS_RECEIVED (R65, R66). -/
def execWitnessReceived (t : Tick) (st : Station) (cyl : Byte) (score : BitVec 16) (flags : Byte) (s : State) :
    Host.Outcome State Fault Refusal :=
  .next ((s.advance t).takeFrame .witness st (cyl :: bytesOfWord score ++ [flags])
    (fun s => s.takeWitness st cyl score flags)).settle

/-- The meaning of VERDICT_RECEIVED (R114): only the cylinder field is read. -/
def execVerdictReceived (t : Tick) (st : Station) (b0 b1 : Byte) (score loss : BitVec 16) (count : Byte) (s : State) :
    Host.Outcome State Fault Refusal :=
  .next ((s.advance t).takeFrame .verdict st (b0 :: b1 :: bytesOfWord score ++ bytesOfWord loss ++ [count])
    (fun s => s.takeVerdict st (verdictCyl b0))).settle

end Sys2Proof.Machine
end

