-- ==== Sys2Proof/Machine/Line.lean ====
section
/-! DEFINITION. Family: the line and the transmitter (chapter 8): INTERFRAME_GAP_END, STUCK_LINE, DOMINANT_CELL_BEFORE_GAP,
TRANSMISSION_BEGIN, ARBITRATION_LOST, TRANSMIT_CLASH, TRANSMISSION_END, DWELL_TIMER_EXPIRY. In LOADING the line is not
read. -/

namespace Sys2Proof.Machine

/-- INTERFRAME_GAP_END (R136, R142). -/
def Link.gapEnd (l : Link) : Link :=
  { l with recessiveRun := Config.gapCells, dominantRun := 0, inhibit := false,
           receiver := if l.receiver = .discarding then .idle else l.receiver }

/-- R142: the fields at a stuck line. -/
def Link.stick (l : Link) : Link :=
  { l with dominantRun := Config.stuckCells, recessiveRun := 0, inhibit := true, receiver := .discarding }

/-- STUCK_LINE (R142): the occurrence is passed once at each setting of the inhibit. -/
def stuckLine (s : State) : State :=
  if s.link.inhibit then s.onLink Link.stick else (s.onLink Link.stick).fault .stuckLine

/-- DOMINANT_CELL_BEFORE_GAP (R136): a dominant cell read in IDLE. Before the gap it belongs to no frame, and the receiver
becomes DISCARDING; after it, it is the start cell of another station's header, and the receiver becomes ASSEMBLING. R139's
sentence on a start cell read before the node's own gap has ended is read under R136 (DESIGN CHOICE, log entry 32). -/
def Link.dominantInIdle (l : Link) : Link :=
  if l.receiver = .idle then
    { l.readCell false with receiver := if l.recessiveRun < Config.gapCells then .discarding else .assembling }
  else l

/-- R133: the ticks of one cell at a rate. -/
def Rate.cellTicks : Rate → Nat
  | .k125 => 160 | .k250 => 80 | .k500 => 40 | .k1000 => 20

/-- R139: the transmitter may begin a frame. -/
def Link.mayBegin (l : Link) : Bool :=
  l.acq == some .locked && !l.inhibit && l.receiver == .idle && l.transmitter == .idle
    && decide (Config.gapCells ≤ l.recessiveRun)

/-- R139: the entry leaves the queue, is held as the entry under way, and the header's start cell is driven and read. The
command that ends the frame reads its cells from that start cell on, each once. -/
def Link.begin (e : TxEntry) (contents : List Byte) (l : Link) : Link :=
  { l.readFrame [false] with
    queue := l.queue.erase e,
    transmitter := .arbitrating { e with payload := contents } false (10 * ((l.rate.map Rate.cellTicks).getD 0)),
    receiver := .assembling }

/-- TRANSMISSION_BEGIN (R139): the first permitted entry; a STATUS takes its contents now. -/
def transmissionBegin (s : State) : State :=
  if s.link.mayBegin then
    match s.link.queue.find? (fun e => s.node.state.permits e.kind) with
    | some e => s.onLink (Link.begin e (if e.kind = .status then s.statusPayload else e.payload))
    | none => s
  else s

/-- The characters of the node's own frame. -/
def State.ownFrame (s : State) (e : TxEntry) : List Byte := frameChars e.kind s.station e.payload

/-- R140: the entry under way goes back with its original age, unless a removal event has taken it. A STATUS is sampled
again when its next transmission begins. -/
def State.reinsert (s : State) (e : TxEntry) : State :=
  let e1 := if e.kind = .status then { e with payload := [] } else e
  let r := putEntry e1 s.link.queue
  (s.overflowOf r.2).foldl State.occur (s.onLink (fun l => { l with queue := r.1 }))

/-- ARBITRATION_LOST (R140) at a cell of the header that the node drives recessive. The receiver, which is ASSEMBLING the
node's own frame, goes on with the winner's. -/
def arbitrationLost (cell : Nat) (s : State) : State :=
  match s.link.transmitter with
  | .arbitrating e removed _ =>
    if losesAt (s.ownFrame e) cell then
      let s1 := s.onLink (fun l => { l.readFrame (mismatchCells (s.ownFrame e) cell) with transmitter := .idle })
      if removed then s1 else s1.reinsert e
    else s
  | _ => s

/-- R141: at a cell that clashes the entry under way is discarded, the receiver discards, and CLASH is passed. -/
def State.clashAt (s : State) (e : TxEntry) (cell : Nat) : State :=
  if clashesAt (s.ownFrame e) cell then
    (s.onLink (fun l => { l.readFrame (mismatchCells (s.ownFrame e) cell) with
      transmitter := .idle, receiver := .discarding })).fault .clash (some s.station) (some e.kind.code) none
  else s

/-- TRANSMIT_CLASH (R141). -/
def transmitClash (cell : Nat) (s : State) : State :=
  match s.link.transmitter with
  | .arbitrating e _ _ => s.clashAt e cell
  | .sending e => s.clashAt e cell
  | .idle => s

/-- R136, R139, R144: the node's own frame sent to its end, which is a good frame and is not taken as input. The receiver
that assembled it becomes IDLE; one that is DISCARDING stays so until the gap. -/
def State.endOwnFrame (s : State) (e : TxEntry) : State :=
  (s.onLink (fun l => { l.readFrame (frameCells (s.ownFrame e)) with
    transmitter := .idle, receiver := if l.receiver = .assembling then .idle else l.receiver })).goodFrame

/-- TRANSMISSION_END (R139). -/
def transmissionEnd (s : State) : State :=
  match s.link.transmitter with
  | .arbitrating e _ _ => s.endOwnFrame e
  | .sending e => s.endOwnFrame e
  | .idle => s

/-- R136: a change of rate in HUNT drops a frame being assembled. -/
def Receiver.drop : Receiver → Receiver
  | .assembling => .discarding
  | r => r

/-- R143: the dwell runs out in HUNT: the next rate, or the fallback rate and LOCKED after ten rounds. A frame being
assembled is dropped (R136), in the tenth round also where the fallback rate is the rate it ran at (DESIGN CHOICE, log entry
31). -/
def Link.dwellInHunt (l : Link) : Link :=
  if l.rate = some .k125 then
    if 10 ≤ l.rounds + 1 then
      { l with rate := l.fallback, rounds := 0, acq := some .locked, dwell := none, receiver := l.receiver.drop }
    else { l.huntNext with rounds := l.rounds + 1, receiver := l.receiver.drop }
  else { l.huntNext with receiver := l.receiver.drop }

/-- DWELL_TIMER_EXPIRY (R143, R162): the dwell has run out. -/
def dwellTimerExpiry (s : State) : State :=
  if ranOut s.link.dwell then
    match s.link.acq with
    | some .hunt => (s.onLink Link.dwellInHunt).startListen
    | some .confirm => s.onLink Link.huntNext
    | _ => s
  else s

/-- Commands of the line are not acted on in LOADING, where the controller reads nothing (R133). -/
def State.onLine (s : State) (f : State → State) : State := if s.node.state = .loading then s else f s

/-! ## The meanings -/

/-- The meaning of INTERFRAME_GAP_END. -/
def execInterframeGapEnd (t : Tick) (s : State) : Host.Outcome State Fault Refusal :=
  .next ((s.advance t).onLine (State.onLink Link.gapEnd)).settle

/-- The meaning of STUCK_LINE. -/
def execStuckLine (t : Tick) (s : State) : Host.Outcome State Fault Refusal :=
  .next ((s.advance t).onLine stuckLine).settle

/-- The meaning of DOMINANT_CELL_BEFORE_GAP. -/
def execDominantCellBeforeGap (t : Tick) (s : State) : Host.Outcome State Fault Refusal :=
  .next ((s.advance t).onLine (State.onLink Link.dominantInIdle)).settle

/-- The meaning of TRANSMISSION_BEGIN. -/
def execTransmissionBegin (t : Tick) (s : State) : Host.Outcome State Fault Refusal :=
  .next ((s.advance t).onLine transmissionBegin).settle

/-- The meaning of ARBITRATION_LOST. -/
def execArbitrationLost (t : Tick) (cell : Nat) (s : State) : Host.Outcome State Fault Refusal :=
  .next ((s.advance t).onLine (arbitrationLost cell)).settle

/-- The meaning of TRANSMIT_CLASH. -/
def execTransmitClash (t : Tick) (cell : Nat) (s : State) : Host.Outcome State Fault Refusal :=
  .next ((s.advance t).onLine (transmitClash cell)).settle

/-- The meaning of TRANSMISSION_END. -/
def execTransmissionEnd (t : Tick) (s : State) : Host.Outcome State Fault Refusal :=
  .next ((s.advance t).onLine transmissionEnd).settle

/-- The meaning of DWELL_TIMER_EXPIRY. -/
def execDwellTimerExpiry (t : Tick) (s : State) : Host.Outcome State Fault Refusal :=
  .next ((s.advance t).onLine dwellTimerExpiry).settle

end Sys2Proof.Machine
end

