-- ==== Sys2Proof/Machine/Orders.lean ====
section
/-! DEFINITION. Family: ORDER frames (R163): the judgement of an order and the effects of SERVE, CLEAR COUNTS, RELEARN, CLEAR
FAULTS, HOLD, RESUME, RESTART and REPORT, and of an unknown code. -/

namespace Sys2Proof.Machine

/-- Order codes (R163). -/
inductive OrderCode where
  | serve | clearCounts | relearn | clearFaults | hold | resume | restart | report
  deriving DecidableEq, Repr

/-- The code byte of an order. -/
def OrderCode.code : OrderCode → Nat
  | .serve => 1 | .clearCounts => 2 | .relearn => 3 | .clearFaults => 4
  | .hold => 5 | .resume => 6 | .restart => 7 | .report => 8

/-- R163, step 3: the order that a code byte names. -/
def orderOfCode : Nat → Option OrderCode
  | 1 => some .serve | 2 => some .clearCounts | 3 => some .relearn | 4 => some .clearFaults
  | 5 => some .hold | 6 => some .resume | 7 => some .restart | 8 => some .report
  | _ => none

/-- R163: the node states in which an order is accepted. -/
def OrderCode.acceptedIn (o : OrderCode) (n : NodeState) : Bool :=
  match o with
  | .serve => n.configured
  | .clearCounts => n == .running || n == .hold
  | .relearn => n == .running || n == .hold
  | .clearFaults => n != .loading
  | .hold => n == .running
  | .resume => n == .hold
  | .restart => n.configured
  | .report => n != .loading

/-! ## Effects -/

/-- R156: SERVE clears the latch of a source in the set whose latest raise the sequence covers. -/
def SourceState.serve (seq : BitVec 8) (x : SourceState) : SourceState :=
  if (seq - x.latest).toNat < 128 then { x with latch := false } else x

/-- R156, R157: SERVE on the Alert Unit: latches cleared, and an ASSERTED line goes to HOLDOFF. -/
def AlertUnit.serve (seq : BitVec 8) (set : Byte) (holdOff : Nat) (a : AlertUnit) : AlertUnit :=
  let sources := (List.range 8).map (fun i =>
    let x := a.sources.getD i SourceState.powerOn
    if set.getLsbD i then x.serve seq else x)
  if a.line = .asserted then { a with sources := sources, line := .holdoff, holdOff := some holdOff }
  else { a with sources := sources }

/-- R155, R170: the configured hold-off in ticks: steps of 0.5 ms. -/
def Image.holdOffTicks (im : Image) : Nat := im.holdOff * (Config.ticksPerMs / 2)

/-- R153: the Fault Unit cleared; in UNCONFIGURED, CONFIG_INVALID keeps its status and count. Masks and severities stay. -/
def FaultUnit.clear (keepConfigInvalid : Bool) (f : FaultUnit) : FaultUnit :=
  { f with
    classes := (List.range 16).map (fun i =>
      let x := f.classes.getD i (ClassState.powerOn .advisory)
      if keepConfigInvalid && i == 4 then x else { x with status := false, count := 0 })
    first := none, overflow := false }

/-- R153: CLEAR FAULTS, which also takes a WITHDRAWN node to PROBING. -/
def State.clearFaults (s : State) : State :=
  let s1 := s.onFaults (FaultUnit.clear (s.node.state == .unconfigured))
  if s.node.state = .withdrawn then s1.enterProbing else s1

/-- R69, R88: RELEARN of the masked cylinders: references and learning counts, and the open records. -/
def State.relearn (s : State) (mask : Byte) : State :=
  (s.onMasked mask CylEntry.relearn).onOpenRecords (fun r => if maskHas mask r.cyl then r.relearn else r)

/-- R154: REPORT queues a first-fault LOG or a class LOG by its selector; a selector above 16 is MALFORMED. -/
def State.report (s : State) (st : Station) (selector : Nat) : State :=
  if selector = 0 then
    s.queueReport .log none (firstFaultLog s.faults.first s.faults.overflow FaultClass.index)
  else if selector ≤ 16 then
    s.queueReport .log none
      (classLog selector (s.faults.classes.getD (selector - 1) (ClassState.powerOn .advisory)))
  else s.fault .malformed (some st) (some Kind.order.code) none

/-- The effect of an accepted order (R163). -/
def State.actOn (s : State) (o : OrderCode) (st : Station) (a1 a2 : Byte) : State :=
  match o with
  | .serve => s.onAlert (AlertUnit.serve a1 a2 s.params.holdOffTicks)
  | .clearCounts => s.onMasked a1 CylEntry.clearCounts
  | .relearn => s.relearn a1
  | .clearFaults => s.clearFaults
  | .hold => s.enterHold
  | .resume => s.onNode (fun n => { n with state := .running })
  | .restart => s.restart
  | .report => s.report st a1.toNat

/-- R163, step 2: the source step passes; it is skipped in UNCONFIGURED. -/
def State.sourceAllowed (s : State) (st : Station) : Bool :=
  s.node.state == .unconfigured || s.params.orderMask.testBit st.val

/-- R163: an order judged in its four steps, the first that fails ending it. -/
def State.takeOrder (s : State) (st : Station) (target : Byte) (code : Nat) (a1 a2 : Byte) : State :=
  if targets s.station target then
    if s.sourceAllowed st then
      match orderOfCode code with
      | some o => if o.acceptedIn s.node.state then s.actOn o st a1 a2 else s
      | none => s.fault .malformed (some st) (some Kind.order.code) none
    else s.fault .refused (some st) (some Kind.order.code) none
  else s

/-- A valid ORDER frame, taken for liveness and then by Node Control. -/
def State.takeOrderFrame (s : State) (st : Station) (target code a1 a2 : Byte) : State :=
  s.takeFrame .order st [target, code, a1, a2] (fun s => s.takeOrder st target code.toNat a1 a2)

/-! ## The meanings -/

/-- The meaning of ORDER_SERVE (R156). -/
def execOrderServe (t : Tick) (st : Station) (target arg1 arg2 : Byte) (s : State) : Host.Outcome State Fault Refusal :=
  .next ((s.advance t).takeOrderFrame st target 1#8 arg1 arg2).settle

/-- The meaning of ORDER_CLEAR_COUNTS (R98). -/
def execOrderClearCounts (t : Tick) (st : Station) (target arg1 arg2 : Byte) (s : State) :
    Host.Outcome State Fault Refusal :=
  .next ((s.advance t).takeOrderFrame st target 2#8 arg1 arg2).settle

/-- The meaning of ORDER_RELEARN (R88). -/
def execOrderRelearn (t : Tick) (st : Station) (target arg1 arg2 : Byte) (s : State) :
    Host.Outcome State Fault Refusal :=
  .next ((s.advance t).takeOrderFrame st target 3#8 arg1 arg2).settle

/-- The meaning of ORDER_CLEAR_FAULTS (R153). -/
def execOrderClearFaults (t : Tick) (st : Station) (target arg1 arg2 : Byte) (s : State) :
    Host.Outcome State Fault Refusal :=
  .next ((s.advance t).takeOrderFrame st target 4#8 arg1 arg2).settle

/-- The meaning of ORDER_HOLD (R164). -/
def execOrderHold (t : Tick) (st : Station) (target arg1 arg2 : Byte) (s : State) : Host.Outcome State Fault Refusal :=
  .next ((s.advance t).takeOrderFrame st target 5#8 arg1 arg2).settle

/-- The meaning of ORDER_RESUME (R164). -/
def execOrderResume (t : Tick) (st : Station) (target arg1 arg2 : Byte) (s : State) : Host.Outcome State Fault Refusal :=
  .next ((s.advance t).takeOrderFrame st target 6#8 arg1 arg2).settle

/-- The meaning of ORDER_RESTART (R165). -/
def execOrderRestart (t : Tick) (st : Station) (target arg1 arg2 : Byte) (s : State) :
    Host.Outcome State Fault Refusal :=
  .next ((s.advance t).takeOrderFrame st target 7#8 arg1 arg2).settle

/-- The meaning of ORDER_REPORT (R154). -/
def execOrderReport (t : Tick) (st : Station) (target arg1 arg2 : Byte) (s : State) : Host.Outcome State Fault Refusal :=
  .next ((s.advance t).takeOrderFrame st target 8#8 arg1 arg2).settle

/-- The meaning of ORDER_UNKNOWN_CODE (R163). -/
def execOrderUnknownCode (t : Tick) (st : Station) (target code arg1 arg2 : Byte) (s : State) :
    Host.Outcome State Fault Refusal :=
  .next ((s.advance t).takeOrderFrame st target code arg1 arg2).settle

end Sys2Proof.Machine
end

