-- ==== Sys2Proof/Machine/Image.lean ====
section
/-! DEFINITION. The configuration image: its 256 bytes read as fields (R170), the check byte and the validity conditions
(R160). -/

namespace Sys2Proof.Machine

/-- Byte `i` of the image. -/
def imageByte (bs : List Byte) (i : Nat) : Nat := (bs.getD i 0#8).toNat

/-- The 16-bit field at bytes `i` and `i + 1`, high byte first. -/
def imageWord (bs : List Byte) (i : Nat) : Nat := imageByte bs i * 256 + imageByte bs (i + 1)

/-- `k` consecutive byte fields. -/
def imageBytes (bs : List Byte) (i k : Nat) : List Nat := (List.range k).map (fun j => imageByte bs (i + j))

/-- `k` consecutive 16-bit fields. -/
def imageWords (bs : List Byte) (i k : Nat) : List Nat := (List.range k).map (fun j => imageWord bs (i + 2 * j))

/-- R170: the fields of the image. -/
def parseImage (bs : List Byte) : Image :=
  { n := imageByte bs 0, firing := imageBytes bs 1 8, teeth := imageByte bs 9, gap := imageByte bs 10,
    gapOffset := imageWord bs 11, camStart := imageWord bs 13, camWidth := imageWord bs 15, sigma := imageWord bs 17,
    omega := imageWord bs 19, width := imageWord bs 21, allowance := imageWord bs 23, warmUp := imageByte bs 25,
    gainA := imageByte bs 26, bandA := imageByte bs 27, weightA := imageBytes bs 28 8,
    gainB := imageByte bs 36, bandB := imageByte bs 37, weightB := imageBytes bs 38 8,
    owner := imageBytes bs 46 8, deputy1 := imageBytes bs 54 8, deputy2 := imageBytes bs 62 8,
    witness := imageWords bs 70 8, mthr := imageWords bs 86 8, edges := imageWords bs 102 7,
    sLoad := imageBytes bs 116 4, antiLag := imageByte bs 120, kthr := imageWord bs 121, foreign := imageByte bs 123,
    shift := imageByte bs 124, learnLen := imageByte bs 125, blockLen := imageWord bs 126,
    rateLimit := imageWord bs 128, knockLimit := imageWord bs 130, clearCount := imageByte bs 132,
    shockThr := imageWord bs 133, shockHold := imageWord bs 135, kMiss := imageByte bs 137,
    rejoinLen := imageByte bs 138, silenceLen := imageByte bs 139, manager := imageByte bs 140,
    orderMask := imageWord bs 141, statusMs := imageWord bs 143, bitRate := imageByte bs 145,
    fallback := imageByte bs 146, alertMask := imageByte bs 147, holdOff := imageByte bs 148,
    faultMask := imageWord bs 149, sevSilent := imageByte bs 151, sevClash := imageByte bs 152 }

/-- A field lies within a range. -/
def within (lo hi x : Nat) : Bool := lo ≤ x && x ≤ hi

/-- R160, cylinder count. -/
def Image.countOk (im : Image) : Bool := [2, 3, 4, 5, 6, 8].contains im.n

/-- R160, firing order: positions 0 to n - 1 name each cylinder from 1 to n once. -/
def Image.firingOk (im : Image) : Bool :=
  (List.range im.n).all (fun c => (im.firing.take im.n).countP (· == c + 1) == 1)

/-- R1, R160, wheel. -/
def Image.wheelOk (im : Image) : Bool :=
  [12, 15, 16, 18, 20, 24, 30, 36, 40, 45, 48, 60].contains im.teeth && within 1 2 im.gap

/-- R160, boundaries on teeth. -/
def Image.boundariesOk (im : Image) : Bool :=
  (List.range im.n).all (fun k => (List.range im.realTeeth).any (fun i => im.toothAngle i == im.boundaryAngle k))

/-- R160, window. -/
def Image.windowOk (im : Image) : Bool := im.omega + im.width ≤ im.interval

/-- R160, deadline. -/
def Image.deadlineOk (im : Image) : Bool := im.deadlineOffset < 7200

/-- R160, band edges: each above the one before. -/
def Image.edgesOk (im : Image) : Bool :=
  (List.range 6).all (fun i => decide (im.edges.getD i 0 < im.edges.getD (i + 1) 0))

/-- R160, own station: in no cylinder's witness station set, for cylinders 1 to n. -/
def Image.ownStationOk (im : Image) (own : Station) : Bool :=
  (List.range im.n).all (fun i => !(im.witness.getD i 0).testBit own.val)

/-- R170, ranges of the engine's fields. -/
def Image.engineRangesOk (im : Image) : Bool :=
  within 0 3599 im.gapOffset && within 0 7199 im.camStart && within 1 3599 im.camWidth && within 0 1799 im.sigma
    && within 0 900 im.omega && within 50 600 im.width && within 0 1800 im.allowance && within 2 32 im.warmUp

/-- R170, ranges of the channels' fields. -/
def Image.channelRangesOk (im : Image) : Bool :=
  within 0 3 im.gainA && within 0 15 im.bandA && im.weightA.all (within 0 15)
    && within 0 3 im.gainB && within 0 15 im.bandB && im.weightB.all (within 0 15)

/-- R170, ranges of the ownership fields: FFh names no deputy. -/
def Image.ownershipRangesOk (im : Image) : Bool :=
  im.owner.all (within 0 15) && (im.deputy1 ++ im.deputy2).all (fun d => within 0 15 d || d == 255)
    && within 0 15 im.manager

/-- R170, ranges of the verdict and block fields. -/
def Image.verdictRangesOk (im : Image) : Bool :=
  im.mthr.all (within 0 32767) && im.sLoad.all (within 1 31) && within 16 63 im.antiLag && within 1 1023 im.kthr
    && within 17 63 im.foreign && within 2 7 im.shift && within 4 64 im.learnLen && within 16 1023 im.blockLen
    && within 1 1000 im.rateLimit && within 1 1023 im.knockLimit && within 1 15 im.clearCount

/-- R170, ranges of the shock, peer, link, alert and fault fields. -/
def Image.serviceRangesOk (im : Image) : Bool :=
  within 1 65535 im.shockThr && within 50 2000 im.shockHold && within 2 15 im.kMiss && within 1 8 im.rejoinLen
    && within 2 15 im.silenceLen && within 50 1000 im.statusMs && within 0 4 im.bitRate && within 1 4 im.fallback
    && within 1 100 im.holdOff && within 0 2 im.sevSilent && within 0 2 im.sevClash

/-- R160: every validity condition. -/
def Image.valid (im : Image) (own : Station) : Bool :=
  im.countOk && im.firingOk && im.wheelOk && im.boundariesOk && im.windowOk && im.deadlineOk && im.edgesOk
    && im.ownStationOk own && im.engineRangesOk && im.channelRangesOk && im.ownershipRangesOk && im.verdictRangesOk
    && im.serviceRangesOk

/-- R160: byte 255 equals the CRC-8 of bytes 0 to 254. -/
def imageCheckOk (bs : List Byte) : Bool := crc8 (bs.take 255) == bs.getD 255 0#8

/-- R160: the two steps by which a read is judged. A read clocks in 256 bytes. -/
def judgeRead (bs : List Byte) (own : Station) : Option Image :=
  if bs.length = 256 ∧ imageCheckOk bs = true ∧ (parseImage bs).valid own = true then some (parseImage bs) else none

end Sys2Proof.Machine
end

