-- ==== Sys2Proof/Machine/StartUp.lean ====
section
/-! DEFINITION. Family: start-up commands (chapter 10): RESET_N_RELEASE, CONFIG_READ_DONE, CONFIG_RETRY_TIMER, PROBE_END,
LISTEN_END, STATUS_TIMER_EXPIRY. -/

namespace Sys2Proof.Machine

/-- RESET_N_RELEASE (R160): the node as at power-on, the straps sampled, the first configuration read started. -/
def resetRelease (t : Tick) (straps : Station) (s : State) : State :=
  { State.reset with pending := s.pending, now := t, station := straps,
                     node := { NodeCtl.powerOn with port := .reading false } }

/-- CONFIG_READ_DONE (R160, R161). -/
def configReadDone (bytes : List Byte) (s : State) : State :=
  match s.node.port with
  | .reading second =>
    match judgeRead bytes s.station with
    | some im => s.acceptImage im
    | none =>
      if second then s.enterUnconfigured else s.onNode (fun n => { n with port := .waiting Config.retryTicks })
  | _ => s

/-- CONFIG_RETRY_TIMER (R160): the 10 ms have run out. -/
def configRetry (s : State) : State :=
  match s.node.port with
  | .waiting left => if left = 0 then s.onNode (fun n => { n with port := .reading true }) else s
  | _ => s

/-- R26: judge one channel at the end of the probe; a channel found open passes SENSOR_OPEN. -/
def State.judgeChannel (s : State) (ch : Chan) : State :=
  let s1 := s.onChan ch Channel.judgeProbe
  if (s1.chan ch).state = .disabled then s1.fault .sensorOpen else s1

/-- PROBE_END (R25, R26, R162): the 20 ms of the probe have run out, so no channel is judged early. -/
def probeEnd (s : State) : State :=
  if s.node.state = .probing ∧ ranOut s.node.probe = true then
    ((s.judgeChannel .a).judgeChannel .b).enterJoining
  else s

/-- LISTEN_END (R162). -/
def listenEnd (s : State) : State :=
  if s.node.state = .joining ∧ ranOut s.node.listen = true then s.enterRunning else s

/-- STATUS_TIMER_EXPIRY (R166). -/
def statusTimerExpiry (s : State) : State :=
  if ranOut s.node.statusTimer then
    s.queueStatus.onNode (fun n => { n with statusTimer := some (msTicks s.statusMs) })
  else s

/-- The meaning of RESET_N_RELEASE. -/
def execResetNRelease (t : Tick) (straps : Station) (s : State) : Host.Outcome State Fault Refusal :=
  .next (resetRelease t straps s)

/-- The meaning of CONFIG_READ_DONE. -/
def execConfigReadDone (t : Tick) (bytes : List Byte) (s : State) : Host.Outcome State Fault Refusal :=
  .next (configReadDone bytes (s.advance t)).settle

/-- The meaning of CONFIG_RETRY_TIMER. -/
def execConfigRetryTimer (t : Tick) (s : State) : Host.Outcome State Fault Refusal :=
  .next (configRetry (s.advance t)).settle

/-- The meaning of PROBE_END. -/
def execProbeEnd (t : Tick) (s : State) : Host.Outcome State Fault Refusal :=
  .next (probeEnd (s.advance t)).settle

/-- The meaning of LISTEN_END. -/
def execListenEnd (t : Tick) (s : State) : Host.Outcome State Fault Refusal :=
  .next (listenEnd (s.advance t)).settle

/-- The meaning of STATUS_TIMER_EXPIRY. -/
def execStatusTimerExpiry (t : Tick) (s : State) : Host.Outcome State Fault Refusal :=
  .next (statusTimerExpiry (s.advance t)).settle

end Sys2Proof.Machine
end

