-- ==== Sys2Proof/Machine/Timers.lean ====
section
/-! DEFINITION. Family: timers of the Peer Table, the Context Unit and the Alert Unit: PEER_TIMEOUT_TICK, SHOCK_HOLD_EXPIRY,
JOLT_GUARD_EXPIRY, HOLD_OFF_EXPIRY. -/

namespace Sys2Proof.Machine

/-- PEER_TIMEOUT_TICK (R106): each station tested, in the node states of R103. -/
def peerTimeoutTick (s : State) : State :=
  if s.node.state.configured then s.timeoutPeers else s

/-- SHOCK_HOLD_EXPIRY (R126, R130): a hold with no time remaining becomes INACTIVE with no cause; nothing is delivered. One
that an extension taken before has moved on stays ACTIVE. -/
def Context.holdExpires (c : Context) : Context := { c with hold := c.hold.filter (fun h => h.left != 0) }

/-- JOLT_GUARD_EXPIRY (R128): a guard that has run out becomes idle. -/
def Context.guardExpires (c : Context) : Context := { c with joltGuard := c.joltGuard.filter (fun left => left != 0) }

/-- HOLD_OFF_EXPIRY (R157). -/
def AlertUnit.holdOffExpires (a : AlertUnit) : AlertUnit :=
  if a.line = .holdoff ∧ ranOut a.holdOff = true then
    { a with line := if a.unmaskedLatched then .asserted else .released, holdOff := none }
  else a

/-- The meaning of PEER_TIMEOUT_TICK. -/
def execPeerTimeoutTick (t : Tick) (s : State) : Host.Outcome State Fault Refusal :=
  .next (peerTimeoutTick (s.advance t)).settle

/-- The meaning of SHOCK_HOLD_EXPIRY. -/
def execShockHoldExpiry (t : Tick) (s : State) : Host.Outcome State Fault Refusal :=
  .next ((s.advance t).onContext Context.holdExpires).settle

/-- The meaning of JOLT_GUARD_EXPIRY. -/
def execJoltGuardExpiry (t : Tick) (s : State) : Host.Outcome State Fault Refusal :=
  .next ((s.advance t).onContext Context.guardExpires).settle

/-- The meaning of HOLD_OFF_EXPIRY. -/
def execHoldOffExpiry (t : Tick) (s : State) : Host.Outcome State Fault Refusal :=
  .next ((s.advance t).onAlert AlertUnit.holdOffExpires).settle

end Sys2Proof.Machine
end

