-- ==== Sys2Proof/Machine/Dispatch.lean ====
section
/-! DEFINITION. One arm per command: a direct call of its meaning. -/

namespace Sys2Proof.Machine

def exec (i : Instr) (s : State) : Host.Outcome State Fault Refusal :=
  match i with
  | .resetNRelease t straps => Sys2Proof.Machine.execResetNRelease t straps s
  | .configReadDone t bytes => Sys2Proof.Machine.execConfigReadDone t bytes s
  | .configRetryTimer t => Sys2Proof.Machine.execConfigRetryTimer t s
  | .toothEdge t order => Sys2Proof.Machine.execToothEdge t order s
  | .stall t => Sys2Proof.Machine.execStall t s
  | .camEdge t => Sys2Proof.Machine.execCamEdge t s
  | .interpolatedMark t => Sys2Proof.Machine.execInterpolatedMark t s
  | .knockSample t ch magnitude => Sys2Proof.Machine.execKnockSample t ch magnitude s
  | .probeEnd t => Sys2Proof.Machine.execProbeEnd t s
  | .biasAboveThreshold t ch => Sys2Proof.Machine.execBiasAboveThreshold t ch s
  | .biasBelowThreshold t ch => Sys2Proof.Machine.execBiasBelowThreshold t ch s
  | .qualificationExpiry t ch => Sys2Proof.Machine.execQualificationExpiry t ch s
  | .frameRejected t chars ending => Sys2Proof.Machine.execFrameRejected t chars ending s
  | .ownStationFrame t kind payload => Sys2Proof.Machine.execOwnStationFrame t kind payload s
  | .peerReportReceived t st kind payload => Sys2Proof.Machine.execPeerReportReceived t st kind payload s
  | .joltReceived t st peak hold => Sys2Proof.Machine.execJoltReceived t st peak hold s
  | .phaseReceived t st cutMask flags => Sys2Proof.Machine.execPhaseReceived t st cutMask flags s
  | .witnessReceived t st cyl score flags => Sys2Proof.Machine.execWitnessReceived t st cyl score flags s
  | .verdictReceived t st b0 b1 score loss count => Sys2Proof.Machine.execVerdictReceived t st b0 b1 score loss count s
  | .orderServe t st target arg1 arg2 => Sys2Proof.Machine.execOrderServe t st target arg1 arg2 s
  | .orderClearCounts t st target arg1 arg2 => Sys2Proof.Machine.execOrderClearCounts t st target arg1 arg2 s
  | .orderRelearn t st target arg1 arg2 => Sys2Proof.Machine.execOrderRelearn t st target arg1 arg2 s
  | .orderClearFaults t st target arg1 arg2 => Sys2Proof.Machine.execOrderClearFaults t st target arg1 arg2 s
  | .orderHold t st target arg1 arg2 => Sys2Proof.Machine.execOrderHold t st target arg1 arg2 s
  | .orderResume t st target arg1 arg2 => Sys2Proof.Machine.execOrderResume t st target arg1 arg2 s
  | .orderRestart t st target arg1 arg2 => Sys2Proof.Machine.execOrderRestart t st target arg1 arg2 s
  | .orderReport t st target arg1 arg2 => Sys2Proof.Machine.execOrderReport t st target arg1 arg2 s
  | .orderUnknownCode t st target code arg1 arg2 => Sys2Proof.Machine.execOrderUnknownCode t st target code arg1 arg2 s
  | .interframeGapEnd t => Sys2Proof.Machine.execInterframeGapEnd t s
  | .stuckLine t => Sys2Proof.Machine.execStuckLine t s
  | .transmissionBegin t => Sys2Proof.Machine.execTransmissionBegin t s
  | .arbitrationLost t cell => Sys2Proof.Machine.execArbitrationLost t cell s
  | .transmitClash t cell => Sys2Proof.Machine.execTransmitClash t cell s
  | .transmissionEnd t => Sys2Proof.Machine.execTransmissionEnd t s
  | .dwellTimerExpiry t => Sys2Proof.Machine.execDwellTimerExpiry t s
  | .peerTimeoutTick t => Sys2Proof.Machine.execPeerTimeoutTick t s
  | .shockHoldExpiry t => Sys2Proof.Machine.execShockHoldExpiry t s
  | .joltGuardExpiry t => Sys2Proof.Machine.execJoltGuardExpiry t s
  | .holdOffExpiry t => Sys2Proof.Machine.execHoldOffExpiry t s
  | .listenEnd t => Sys2Proof.Machine.execListenEnd t s
  | .statusTimerExpiry t => Sys2Proof.Machine.execStatusTimerExpiry t s
  | .envelopeExceedsShockPeak t ch envelope => Sys2Proof.Machine.execEnvelopeExceedsShockPeak t ch envelope s
  | .dominantCellBeforeGap t => Sys2Proof.Machine.execDominantCellBeforeGap t s

end Sys2Proof.Machine
end

