-- ==== Sys2Proof/Safety.lean ====
section
/-! DEFINITION. What the claims speak of: the parts of the state that no hand-off of Signals.lean touches, what one
occurrence and one service change leave behind, and the invariants that every step keeps. -/

namespace Sys2Proof.Machine

/-! ## Frames -/

/-- The Link Controller without its queue. -/
def Link.bare (l : Link) : Link := { l with queue := [], nextAge := 0 }

/-- The state with everything blanked that queuing a report, passing an occurrence and raising a source may touch: the
queue with its ages, the Fault Unit, the Alert Unit and the withdrawal passed. Two states with the same body agree in
every other field. -/
def State.body (s : State) : State :=
  { s with link := s.link.bare, faults := FaultUnit.powerOn, alert := AlertUnit.powerOn,
           withdrawDue := false }

/-- `t` is `u` with the service level brought up to date (R152): `u` itself when the level is as it was, and otherwise
`u` with the new level and, after it, one raise of SERVICE_CHANGE. -/
def State.SettledTo (u t : State) : Prop :=
  t = if u.serviceOf = u.faults.service then u
      else ({ u with faults := { u.faults with service := u.serviceOf } } : State).raise .serviceChange

/-- The fault classes, in class order (R149). -/
def allClasses : List FaultClass :=
  [.check, .malformed, .refused, .queueOverflow, .configInvalid, .lateWitness, .peerSilent, .ownershipConflict,
   .clash, .stuckLine, .rateLost, .sensorOpen, .sensorClipped, .crankLost, .camMismatch, .contextStale]

/-- The alert sources, in source order (R155). -/
def allSources : List AlertSource :=
  [.misfireAlarm, .deadCylinder, .knockAlarm, .heavyKnock, .serviceChange, .firstFault, .peerSilent, .ownershipChange]

/-- R150, step 1: one class after `k` occurrences more. -/
def ClassState.counted (k : Nat) (x : ClassState) : ClassState :=
  { x with status := true, count := min (x.count + k) 255 }

/-- R150: between `f` and `f'` the occurrence `o` has been taken. Its class is counted and no other class is touched but
QUEUE_OVERFLOW, which the queuing of a LOG or a STATUS can bring. An unmasked one is captured whole by an EMPTY record,
with the service level before it, and sets the overflow flag of a FULL one. -/
def FaultUnit.Took (o : Occurrence) (f f' : FaultUnit) : Prop :=
  f'.cls o.cls = (f.cls o.cls).counted 1
    ∧ (∀ d ∈ allClasses, d ≠ o.cls → d ≠ .queueOverflow → f'.cls d = f.cls d)
    ∧ ((f.cls o.cls).mask = false → f.first = none → f'.first = some (o.captured f.service))
    ∧ ((f.cls o.cls).mask = false → ∀ x, f.first = some x → f'.first = some x ∧ f'.overflow = true)

/-! ## What several claims share -/

/-- The state after a valid frame of another station has been received: its cells read, a good frame for acquisition
(R143, R144), and the sender heard (R105). The block of its kind then acts on this state. -/
def State.heardFrame (s : State) (k : Kind) (st : Station) (payload : List Byte) : State :=
  (s.frameRead (frameCells (frameChars k st payload)) .idle).goodFrame.hearPeer st k

/-- The command that receives an order (R163). -/
def OrderCode.command (o : OrderCode) (t : Tick) (st : Station) (target arg1 arg2 : Byte) : Instr :=
  match o with
  | .serve => .orderServe t st target arg1 arg2
  | .clearCounts => .orderClearCounts t st target arg1 arg2
  | .relearn => .orderRelearn t st target arg1 arg2
  | .clearFaults => .orderClearFaults t st target arg1 arg2
  | .hold => .orderHold t st target arg1 arg2
  | .resume => .orderResume t st target arg1 arg2
  | .restart => .orderRestart t st target arg1 arg2
  | .report => .orderReport t st target arg1 arg2

/-- The payload of an order (R168). -/
def OrderCode.payload (o : OrderCode) (target arg1 arg2 : Byte) : List Byte := [target, byteOf o.code, arg1, arg2]

/-- A frame of station `st` that the node hands on: the node reads the line, its receiver takes the frame, and the station
is not its own (R133, R136, R138). -/
abbrev State.Hears (s : State) (st : Station) : Prop :=
  s.node.state ≠ .loading ∧ s.link.takesFrame = true ∧ st ≠ s.station

/-- The cells of the frame that a command reports to a node of station `own`; none for the commands that report no frame. -/
def reportedCells (own : Station) : Instr → Option (List Bool)
  | .frameRejected _ chars ending => some (endedCells chars ending)
  | .ownStationFrame _ kind payload => some (frameCells (frameChars kind own payload))
  | .peerReportReceived _ st kind payload => some (frameCells (frameChars kind.kind st (payloadBytes payload)))
  | .joltReceived _ st peak hold => some (frameCells (frameChars .jolt st (bytesOfWord peak ++ bytesOfWord hold)))
  | .phaseReceived _ st cutMask flags => some (frameCells (frameChars .phase st [cutMask, flags]))
  | .witnessReceived _ st cyl score flags =>
    some (frameCells (frameChars .witness st (cyl :: bytesOfWord score ++ [flags])))
  | .verdictReceived _ st b0 b1 score loss count =>
    some (frameCells (frameChars .verdict st (b0 :: b1 :: bytesOfWord score ++ bytesOfWord loss ++ [count])))
  | .orderServe _ st target arg1 arg2 => some (frameCells (frameChars .order st [target, 1#8, arg1, arg2]))
  | .orderClearCounts _ st target arg1 arg2 => some (frameCells (frameChars .order st [target, 2#8, arg1, arg2]))
  | .orderRelearn _ st target arg1 arg2 => some (frameCells (frameChars .order st [target, 3#8, arg1, arg2]))
  | .orderClearFaults _ st target arg1 arg2 => some (frameCells (frameChars .order st [target, 4#8, arg1, arg2]))
  | .orderHold _ st target arg1 arg2 => some (frameCells (frameChars .order st [target, 5#8, arg1, arg2]))
  | .orderResume _ st target arg1 arg2 => some (frameCells (frameChars .order st [target, 6#8, arg1, arg2]))
  | .orderRestart _ st target arg1 arg2 => some (frameCells (frameChars .order st [target, 7#8, arg1, arg2]))
  | .orderReport _ st target arg1 arg2 => some (frameCells (frameChars .order st [target, 8#8, arg1, arg2]))
  | .orderUnknownCode _ st target code arg1 arg2 => some (frameCells (frameChars .order st [target, code, arg1, arg2]))
  | .resetNRelease _ _ => none
  | .configReadDone _ _ => none
  | .configRetryTimer _ => none
  | .toothEdge _ _ => none
  | .stall _ => none
  | .camEdge _ => none
  | .interpolatedMark _ => none
  | .knockSample _ _ _ => none
  | .probeEnd _ => none
  | .biasAboveThreshold _ _ => none
  | .biasBelowThreshold _ _ => none
  | .qualificationExpiry _ _ => none
  | .interframeGapEnd _ => none
  | .stuckLine _ => none
  | .transmissionBegin _ => none
  | .arbitrationLost _ _ => none
  | .transmitClash _ _ => none
  | .transmissionEnd _ => none
  | .dwellTimerExpiry _ => none
  | .peerTimeoutTick _ => none
  | .shockHoldExpiry _ => none
  | .joltGuardExpiry _ => none
  | .holdOffExpiry _ => none
  | .listenEnd _ => none
  | .statusTimerExpiry _ => none
  | .envelopeExceedsShockPeak _ _ _ => none
  | .dominantCellBeforeGap _ => none

/-- The first two steps of R163 pass: the order names the node or every station, and its sender is permitted. -/
abbrev State.Commanded (s : State) (st : Station) (target : Byte) : Prop :=
  (target.toNat = s.station.val ∨ target.toNat = 255)
    ∧ (s.node.state = .unconfigured ∨ s.params.orderMask.testBit st.val = true)

/-- The marks `ms` are issued one after another from the pending list `l`, each replaced as R16 says, and nothing more is
due after them (R17). -/
def Image.issuesExactly (im : Image) : List PendingMark → List PendingMark → Bool
  | [], l => l.all (fun x => decide (0 < x.dist))
  | m :: ms, l => l.head? == some m && decide (m.dist ≤ 0) && im.issuesExactly ms (replaceMark im m l.tail)

/-- R15, R16: what the issue of a cycle mark or a firing mark places in the list: the mark itself a cycle later and, for a
firing mark, its window open, window close and deadline, each at its angle and its distance beyond the firing mark. -/
def Image.placedBy (im : Image) (m : PendingMark) : List PendingMark :=
  let later := fun (kind : MarkKind) (offset : Nat) =>
    ({ kind := kind, angle := (m.angle + offset) % 7200, pos := some (m.pos.getD 0), dist := m.dist + offset } : PendingMark)
  { m with dist := m.dist + 7200 } ::
    if m.kind = .firing then
      [later .windowOpen im.omega, later .windowClose (im.omega + im.width),
        later .deadline (max (im.sigma + 7200 / im.n) (im.omega + im.width) + im.allowance)]
    else []

/-- The tracker is PHASED and the marks due are exactly `ms`, in this order (R17). -/
abbrev State.Due (s : State) (ms : List PendingMark) : Prop :=
  s.tracker.sync = .phased ∧ s.params.issuesExactly ms s.tracker.marks = true

/-- A report of a kind, for a cylinder where the kind has one, waits in the queue. -/
def Link.Waits (l : Link) (k : Kind) (c : Option Nat) : Prop := ∃ e ∈ l.queue, e.kind = k ∧ e.cyl = c

/-- R146: the entry that a full queue gives up for `e`: the youngest of the largest kind number, which ranks below that of
`e`. -/
abbrev TxEntry.Displaces (e d : TxEntry) (queue : List TxEntry) : Prop :=
  d ∈ queue ∧ e.kind.code < d.kind.code
    ∧ ∀ x ∈ queue, x = d ∨ x.kind.code < d.kind.code ∨ (x.kind = d.kind ∧ x.age < d.age)

/-- The queue has room for a report of a kind that has one key for the node: a free place, or one of its kind. -/
abbrev Link.HasRoom (l : Link) (k : Kind) : Prop := l.queue.length < 12 ∨ ∃ e ∈ l.queue, e.kind = k ∧ e.cyl = none

/-! ## Invariants -/

/-- The open records, in slot order. -/
def State.openRecords (s : State) : List Record := s.records.filterMap id

/-- The order of the queue: a lower kind first, and within a kind nothing younger before something older (R145). -/
def TxEntry.notAfter (a b : TxEntry) : Bool :=
  a.kind.code < b.kind.code || (a.kind.code == b.kind.code && a.age ≤ b.age)

/-- The entry under way, where there is one (R139). -/
def Transmitter.entry : Transmitter → Option TxEntry
  | .idle => none
  | .arbitrating e _ _ => some e
  | .sending e => some e

/-- R145, R146: at most 12 entries, in queue order, no two with one coalescing key, and a new entry younger than every
entry queued or under way. -/
abbrev Link.QueueOk (l : Link) : Prop :=
  l.queue.length ≤ 12 ∧ l.queue.Pairwise (fun a b => a.notAfter b = true)
    ∧ l.queue.Pairwise (fun a b => a.sameKey b = false)
    ∧ (∀ e ∈ l.queue, e.age < l.nextAge) ∧ (∀ e ∈ l.transmitter.entry.toList, e.age < l.nextAge)

/-- R157, R158: the line is asserted only over a nonempty unmasked latched set, rests released over none where it follows
R157, is held RELEASED in LOADING, PROBING and JOINING, and the hold-off timer runs exactly in HOLDOFF. -/
abbrev State.AlertOk (s : State) : Prop :=
  s.alert.sources.length = 8
    ∧ (s.alert.line = .asserted → s.alert.unmaskedLatched = true)
    ∧ (s.node.state.drivesAlert = true → s.alert.line = .released → s.alert.unmaskedLatched = false)
    ∧ (s.node.state.drivesAlert = false → s.alert.line = .released)
    ∧ (s.alert.holdOff.isSome = true ↔ s.alert.line = .holdoff)

/-- The severity a class holds at power-on (R149). -/
def FaultClass.powerOnSeverity (c : FaultClass) : Severity := (FaultUnit.powerOn.cls c).severity

/-- R148, R149: sixteen classes, counts within 0 to 255, the fixed severities fixed, the mask of CONFIG_INVALID clear, and
no withdrawal left over from a command before. -/
abbrev State.FaultsOk (s : State) : Prop :=
  s.faults.classes.length = 16
    ∧ (∀ c ∈ allClasses, (s.faults.cls c).count ≤ 255)
    ∧ (∀ c ∈ allClasses, c ≠ .peerSilent → c ≠ .clash → (s.faults.cls c).severity = c.powerOnSeverity)
    ∧ (s.faults.cls .configInvalid).mask = false
    ∧ s.withdrawDue = false

/-- The order of the pending mark list: by distance, and by kind at equal distance (R16, R17). -/
def PendingMark.notAfter (a b : PendingMark) : Bool :=
  decide (a.dist < b.dist) || (decide (a.dist = b.dist) && decide (a.kind.rank ≤ b.kind.rank))

/-- R2, R11, R12, R14, R16: marks, phase, warm-up and angle stand as the sync state says, the list is in order, and the
tracker is STOPPED in LOADING and UNCONFIGURED. -/
abbrev State.TrackerOk (s : State) : Prop :=
  (s.tracker.sync ≠ .phased → s.tracker.marks = [] ∧ s.tracker.phase = none ∧ s.tracker.warmUp = 0)
    ∧ (s.tracker.sync = .stopped ∨ s.tracker.sync = .seeking →
        s.tracker.angle = none ∧ s.tracker.edgeAngle = none ∧ s.tracker.toothIndex = none)
    ∧ (s.tracker.sync = .crankLocked ∨ s.tracker.sync = .phased →
        s.tracker.angle.isSome = true ∧ s.tracker.edgeAngle.isSome = true ∧ s.tracker.toothIndex.isSome = true)
    ∧ (s.tracker.sync = .phased → s.tracker.phase.isSome = true)
    ∧ s.tracker.camMiss ≤ 1
    ∧ s.tracker.marks.Pairwise (fun a b => a.notAfter b = true)
    ∧ (s.node.state.configured = false → s.tracker.sync = .stopped)

/-- What holds of an open record: WAITING exactly when both events have been taken (R58), one entry a station and none of
the node's own (R66), and an expected set of ACTIVE stations (R61, R107). -/
abbrev State.RecordOk (s : State) (r : Record) : Prop :=
  (r.state = .waiting ↔ r.windowTaken = true ∧ r.segmentTaken = true)
    ∧ r.witnesses.Pairwise (fun a b => a.station ≠ b.station)
    ∧ (∀ w ∈ r.witnesses, w.station ≠ s.station)
    ∧ (∀ st ∈ r.expected, (s.peer st).state = .active)

/-- What holds of a channel: an integration runs only in RUNNING and PHASED, on an ENABLED channel (R29, R32). -/
abbrev State.IntegratorOk (s : State) (ch : Chan) : Prop :=
  (s.chan ch).integrator ≠ .idle →
    s.node.state = .running ∧ s.tracker.sync = .phased ∧ (s.chan ch).state = .enabled

/-- R59, R71, R160: records are open only in RUNNING, PHASED and warm; integrations run only there; the configuration port
works only in LOADING. -/
structure State.EngineOk (s : State) : Prop where
  tracker : s.TrackerOk
  port : s.node.port ≠ .idle → s.node.state = .loading
  slots : s.records.length = 8
  judging : ∀ r ∈ s.openRecords,
    s.node.state = .running ∧ s.tracker.sync = .phased ∧ s.tracker.warmUp = s.params.warmUp
  record : ∀ r ∈ s.openRecords, s.RecordOk r
  integratorA : s.IntegratorOk .a
  integratorB : s.IntegratorOk .b

/-- R82, R84, R85, R93: the bounds of a cylinder's entry. -/
abbrev CylEntry.BoundsOk (im : Image) (e : CylEntry) : Prop :=
  16 ≤ e.refA ∧ e.refA ≤ 1048560 ∧ 16 ≤ e.refB ∧ e.refB ≤ 1048560 ∧ e.learnA ≤ im.learnLen ∧ e.learnB ≤ im.learnLen
    ∧ e.misfireHistory.length ≤ 8 ∧ e.block.misfires ≤ e.block.assessed ∧ e.block.knocks ≤ e.block.assessed
    ∧ e.block.cycles ≤ im.blockLen ∧ e.silence ≤ 255 ∧ e.aborts ≤ 255

/-- The running sum of an integrator, 0 while it is IDLE. -/
def Integrator.sum : Integrator → Nat
  | .running _ _ _ sum _ _ => sum
  | .idle => 0

/-- R30: the running sum of an integrator is held at the limit. -/
abbrev Channel.SumOk (c : Channel) : Prop := c.integrator.sum ≤ 262143

/-- R62: the energies a record keeps. -/
abbrev Record.EnergiesOk (r : Record) : Prop :=
  (r.evidenceA.bind (·.energy)).getD 0 ≤ 65535 ∧ (r.evidenceB.bind (·.energy)).getD 0 ≤ 65535

/-- R30, R82, R84, R93: the Cylinder Table's numbers within their bounds, with what feeds them. The block length of a
configured node is not 0 (R170). -/
abbrev State.NumbersOk (s : State) : Prop :=
  s.cylinders.length = 8
    ∧ (s.node.state.configured = true → 1 ≤ s.params.blockLen)
    ∧ (∀ e ∈ s.cylinders, e.BoundsOk s.params)
    ∧ s.chanA.SumOk ∧ s.chanB.SumOk
    ∧ (∀ r ∈ s.openRecords, r.EnergiesOk)

/-- R64: no complete record stays open in WAITING. -/
abbrev State.NoneReady (s : State) : Prop := ∀ r ∈ s.openRecords, r.ready = false

end Sys2Proof.Machine
end

