-- ==== Sys2Proof/WellFormed.lean ====
section
/-! DEFINITION. Which terms of `Instr` stand for a command that the hardware can meet. The operands' types fix their widths;
what a type does not fix is checked here. `exec` is total on the other terms too. -/

namespace Sys2Proof

/-- A configuration read clocks in 256 bytes (R160). -/
def readLengthOk (bytes : List Byte) : Bool := bytes.length == 256

/-- A rejected frame fails one of the checks of R137. -/
def frameFails (chars : List Byte) (ending : FrameEnd) : Bool := Machine.judgeFrame chars ending != .valid

/-- A frame whose assembly ends before its start has no character: the first cell of a frame is its header's start cell. -/
def frameBegun (chars : List Byte) : Bool := !chars.isEmpty

/-- A valid frame holds its kind's payload length (R137, R167). -/
def payloadLengthOk (k : Kind) (payload : List Byte) : Bool := payload.length == k.payloadLen

/-- An unknown order code lies outside 1 to 8 (R163). -/
def codeUnknown (code : Byte) : Bool := code.toNat == 0 || 8 < code.toNat

/-- Arbitration is lost in a cell of the header that the node may drive recessive: its data cells 1 to 8 (R140) and its
stop cell 9 (R142; DEDUCED, log entry 27). -/
def headerCell (cell : Nat) : Bool := 1 ≤ cell && cell ≤ 9

/-- The longest frame the node sends has 11 characters, 110 cells (R135). -/
def frameCell (cell : Nat) : Bool := cell < 110

/-- The well-formed commands. -/
def WellFormed (i : Instr) : Bool :=
  match i with
  | .configReadDone _ bytes => readLengthOk bytes
  | .frameRejected _ chars ending => frameBegun chars && frameFails chars ending
  | .ownStationFrame _ kind payload => payloadLengthOk kind payload
  | .orderUnknownCode _ _ _ code _ _ => codeUnknown code
  | .arbitrationLost _ cell => headerCell cell
  | .transmitClash _ cell => frameCell cell
  | .resetNRelease _ _ => true
  | .configRetryTimer _ => true
  | .toothEdge _ _ => true
  | .stall _ => true
  | .camEdge _ => true
  | .interpolatedMark _ => true
  | .knockSample _ _ _ => true
  | .probeEnd _ => true
  | .biasAboveThreshold _ _ => true
  | .biasBelowThreshold _ _ => true
  | .qualificationExpiry _ _ => true
  | .peerReportReceived _ _ _ _ => true
  | .joltReceived _ _ _ _ => true
  | .phaseReceived _ _ _ _ => true
  | .witnessReceived _ _ _ _ _ => true
  | .verdictReceived _ _ _ _ _ _ _ => true
  | .orderServe _ _ _ _ _ => true
  | .orderClearCounts _ _ _ _ _ => true
  | .orderRelearn _ _ _ _ _ => true
  | .orderClearFaults _ _ _ _ _ => true
  | .orderHold _ _ _ _ _ => true
  | .orderResume _ _ _ _ _ => true
  | .orderRestart _ _ _ _ _ => true
  | .orderReport _ _ _ _ _ => true
  | .interframeGapEnd _ => true
  | .stuckLine _ => true
  | .transmissionBegin _ => true
  | .transmissionEnd _ => true
  | .dwellTimerExpiry _ => true
  | .peerTimeoutTick _ => true
  | .shockHoldExpiry _ => true
  | .joltGuardExpiry _ => true
  | .holdOffExpiry _ => true
  | .listenEnd _ => true
  | .statusTimerExpiry _ => true
  | .envelopeExceedsShockPeak _ _ _ => true
  | .dominantCellBeforeGap _ => true

end Sys2Proof
end

