-- ==== Sys2Proof/Certificates/Slice0/Obligations.lean ====
section
/-! DEFINITION. The statements for the provers. In each, `τ` is the instant at which a command is taken and `s.advance τ`
the state with the time up to it passed, which `PassageOfTime` describes; `s.SettledTo t`, `State.body` and
`FaultUnit.Took` are said in Safety.lean. -/

open Sys2Proof Sys2Proof.Machine

/-! ## The machine as a whole -/

/-- One step takes the command at the front of the queue and runs it with the queue's rest; on an empty queue the block
idles (DESIGN CHOICE, log entry 1). -/
def Obligations.StepRunsTheFrontCommand : Prop :=
  ∀ (s : State) (c : Instr) (rest : List Instr),
    (s.pending = c :: rest → step s = exec c { s with pending := rest }) ∧ (s.pending = [] → step s = .next s)

/-- Every command completes in every state, at its own instant, and touches neither the queue of commands nor, but at
power-on, the station number (R160: a RESTART does not sample the straps again). (Time passes only with commands, and
a command that its state cannot meet changes only the time: DESIGN CHOICE, log entries 1, 2 and 19.) -/
def Obligations.EveryCommandCompletes : Prop :=
  ∀ (c : Instr) (s : State), ∃ t, exec c s = .next t ∧ t.pending = s.pending ∧ t.now = c.instant
    ∧ ((∀ τ st, c ≠ .resetNRelease τ st) → t.station = s.station)

/-- R152, R155: after every command the service level is WITHDRAWN in WITHDRAWN and UNCONFIGURED, otherwise DEGRADED while
one of the five conditions holds, and otherwise FULL; and a command after which it is another has latched SERVICE_CHANGE. A
raise latches its source under the next number of the raise sequence, queues a STATUS, and asserts a released line over an
unmasked source. (An event ends with its command or with its issued mark: DEDUCED, log entry 6.) -/
def Obligations.ServiceLevelIsUpToDate : Prop :=
  (∀ (c : Instr) (s t : State), exec c s = .next t →
    let out := t.node.state = .withdrawn ∨ t.node.state = .unconfigured
    let degraded := (∃ ch, (t.chan ch).state = .disabled ∧ t.params.weighted ch = true)
      ∨ t.tracker.sync = .seeking ∨ t.tracker.sync = .crankLocked ∨ t.link.inhibit = true ∨ 4 < t.context.freshness
      ∨ ∃ k, (k = FaultClass.peerSilent ∨ k = .clash) ∧ (t.faults.cls k).status = true
          ∧ (t.faults.cls k).severity = .degrading
    (out → t.faults.service = .withdrawn) ∧ (¬out → degraded → t.faults.service = .degraded)
      ∧ (¬out → ¬degraded → t.faults.service = .full)
      ∧ ((∀ τ st, c ≠ .resetNRelease τ st) → s.alert.sources.length = 8 → t.faults.service ≠ s.faults.service →
          (t.alert.src .serviceChange).latch = true))
  ∧ (∀ (s : State) (x : AlertSource), s.alert.sources.length = 8 → s.link.HasRoom .status →
      let t := s.raise x
      let seq := s.alert.raiseSeq + 1
      t.alert.src x = { s.alert.src x with latch := true, latest := seq } ∧ t.alert.raiseSeq = seq
        ∧ (∀ y ∈ allSources, y ≠ x → t.alert.src y = s.alert.src y)
        ∧ t.link.Waits .status none ∧ t.faults = s.faults ∧ t.body = s.body
        ∧ (s.node.state.drivesAlert = true → (s.alert.src x).mask = false → s.alert.line = .released →
            t.alert.line = .asserted)
        ∧ (s.node.state.drivesAlert = false ∨ s.alert.line ≠ .released → t.alert.line = s.alert.line))

/-- R23, R54, R103, R148, R155: the image, the fault masks and severities and the alert mask change only when an image is
read or at power-on. -/
def Obligations.ParametersAreHeld : Prop :=
  ∀ (c : Instr) (s t : State), exec c s = .next t → (∀ τ bytes, c ≠ .configReadDone τ bytes) →
    (∀ τ st, c ≠ .resetNRelease τ st) →
    t.image = s.image
      ∧ (∀ k ∈ allClasses, (t.faults.cls k).mask = (s.faults.cls k).mask
          ∧ (t.faults.cls k).severity = (s.faults.cls k).severity)
      ∧ (∀ x ∈ allSources, (t.alert.src x).mask = (s.alert.src x).mask)

/-- R150: once captured, the first-fault record keeps its contents until CLEAR FAULTS or power-on. -/
def Obligations.FirstFaultIsKept : Prop :=
  ∀ (c : Instr) (s t : State) (f : FirstFault), WellFormed c = true → exec c s = .next t → s.faults.first = some f →
    (∀ τ st, c ≠ .resetNRelease τ st) → (∀ τ st target a1 a2, c ≠ .orderClearFaults τ st target a1 a2) →
    t.faults.first = some f

/-- R139: the transmitter begins only by TRANSMISSION_BEGIN, LOCKED, uninhibited, its receiver IDLE, after the interframe
gap, and the entry under way is then an entry of the queue whose kind the node state permits, with the contents it was queued
with unless it is a STATUS (whose contents `TransmissionTakesTheFirstPermitted` gives). -/
def Obligations.TransmissionBeginsOnlyWhenAllowed : Prop :=
  ∀ (c : Instr) (s t : State), exec c s = .next t → s.link.transmitter = .idle → t.link.transmitter ≠ .idle →
    (∃ τ, c = .transmissionBegin τ) ∧ s.link.acq = some .locked ∧ s.link.inhibit = false ∧ s.link.receiver = .idle
      ∧ 11 ≤ s.link.recessiveRun
      ∧ ∃ e ∈ s.link.queue, ∃ payload, t.link.transmitter.entry = some { e with payload := payload }
          ∧ (e.kind ≠ .status → payload = e.payload)
          ∧ (s.node.state = .running ∨ s.node.state = .hold
              ∨ ((s.node.state = .withdrawn ∨ s.node.state = .unconfigured) ∧ (e.kind = .status ∨ e.kind = .log)))

/-- Figure 10-1, R161, R162: the node state moves only along the figure's ways, RUNNING is entered only by the end of the
listen and by RESUME, HOLD only by HOLD, and UNCONFIGURED is left only at power-on. -/
def Obligations.NodeStateMovesByTheFigure : Prop :=
  ∀ (c : Instr) (s t : State), WellFormed c = true → exec c s = .next t → s.withdrawDue = false →
    (s.node.port ≠ .idle → s.node.state = .loading) → (∀ τ st, c ≠ .resetNRelease τ st) →
    t.node.state ≠ s.node.state →
    (s.node.state, t.node.state) ∈
        [ (NodeState.loading, NodeState.probing), (.loading, .unconfigured), (.probing, .joining), (.probing, .withdrawn),
          (.joining, .running), (.joining, .withdrawn), (.joining, .probing), (.running, .hold), (.running, .withdrawn),
          (.running, .probing), (.hold, .running), (.hold, .withdrawn), (.hold, .probing), (.withdrawn, .probing) ]
      ∧ (t.node.state = .running → (∃ τ, c = .listenEnd τ) ∨ ∃ τ st target a1 a2, c = .orderResume τ st target a1 a2)
      ∧ (t.node.state = .hold → ∃ τ st target a1 a2, c = .orderHold τ st target a1 a2)

/-! ## Invariants -/

/-- The invariants below hold right after reset. -/
def Obligations.ResetMeetsTheInvariants : Prop :=
  State.reset.EngineOk ∧ State.reset.NoneReady ∧ State.reset.NumbersOk ∧ State.reset.FaultsOk ∧ State.reset.AlertOk
    ∧ State.reset.link.QueueOk

/-- R145, R146: every step keeps the transmit queue in order, without two entries of one key, and at 12 entries at most. A
new report replaces the contents of a waiting one of its key, in its place; else it takes a free place; else a full queue
gives up the youngest entry of the largest kind number below it in rank, or the new report itself. A replaced VERDICT or
TALLY and an entry given up pass QUEUE_OVERFLOW. (Where that occurrence captures the first fault, whose LOG is a further
report, what is captured is stated, and not the whole queue.) -/
def Obligations.StepKeepsTheQueue : Prop :=
  (∀ s t : State, s.link.QueueOk → step s = .next t → t.link.QueueOk)
  ∧ (∀ (s : State) (k : Kind) (c : Option Nat) (payload : List Byte), s.FaultsOk → s.link.QueueOk →
      let e : TxEntry := { kind := k, cyl := c, payload := payload, age := s.link.nextAge }
      let t := s.queueReport k c payload
      let free := ∀ x ∈ s.link.queue, x.sameKey e = false
      let overflow := fun (k' : Kind) (c' : Option Nat) => ({
        cls := .queueOverflow, cycle := s.tracker.cycleCount, angle := s.tracker.faultAngle, station := none,
        kind := some k'.code, cyl := c' } : Occurrence)
      let masked := (s.faults.cls .queueOverflow).mask
      let full := 12 ≤ s.link.queue.length
      let quiet := s.faults.first.isSome = true ∨ masked = true
      t.body = s.body
        ∧ (∀ x ∈ s.link.queue, x.sameKey e = true →
            ((k ≠ .verdict ∧ k ≠ .tally) ∨ quiet →
              t.link.queue.Perm ({ x with payload := payload } :: s.link.queue.erase x))
            ∧ (k ≠ .verdict → k ≠ .tally → t.faults = s.faults)
            ∧ (k = .verdict ∨ k = .tally → quiet → FaultUnit.Took (overflow k c) s.faults t.faults)
            ∧ (k = .verdict ∨ k = .tally → ¬quiet → { x with payload := payload } ∈ t.link.queue
              ∧ t.faults.first = some ((overflow k c).captured s.faults.service)))
        ∧ (free → ¬full → t.link.queue.Perm (e :: s.link.queue) ∧ t.faults = s.faults)
        ∧ (∀ d, free → full → e.Displaces d s.link.queue → quiet →
            t.link.queue.Perm (e :: s.link.queue.erase d) ∧ FaultUnit.Took (overflow d.kind d.cyl) s.faults t.faults)
        ∧ (free → full → (∀ x ∈ s.link.queue, x.kind.code ≤ k.code) → quiet →
            t.link.queue = s.link.queue ∧ FaultUnit.Took (overflow k c) s.faults t.faults)
        ∧ (∀ d, free → full → e.Displaces d s.link.queue → ¬quiet →
            t.faults.first = some ((overflow d.kind d.cyl).captured s.faults.service))
        ∧ (free → full → (∀ x ∈ s.link.queue, x.kind.code ≤ k.code) → ¬quiet →
            t.faults.first = some ((overflow k c).captured s.faults.service)))

/-- R155, R157, R158: every step keeps the line as the unmasked latched set and the node state say. -/
def Obligations.StepKeepsTheAlertLine : Prop :=
  ∀ s t : State, s.AlertOk → step s = .next t → t.AlertOk

/-- R148, R149, R151: every step keeps the classes, their fixed severities and their counts, and leaves no withdrawal over;
a step that counts an unmasked occurrence of a WITHDRAWING class leaves the node out of PROBING, JOINING, RUNNING and HOLD,
and a withdrawal passed there takes it to WITHDRAWN. (The flag of a withdrawal passed is the model's own: DESIGN CHOICE, log entry
17; an event carries out the withdrawal passed in it at its end: DEDUCED, log entry 6; the status timer, of which the rules
say nothing at this entry, is left as it was, running or idle: DEDUCED, log entry 13.) -/
def Obligations.StepKeepsTheFaultUnit : Prop :=
  (∀ s t : State, s.FaultsOk → step s = .next t →
    t.FaultsOk
      ∧ ∀ k ∈ allClasses, (t.faults.cls k).severity = .withdrawing → (t.faults.cls k).mask = false →
          (s.faults.cls k).count < (t.faults.cls k).count →
          t.node.state ≠ .probing ∧ t.node.state ≠ .joining ∧ t.node.state ≠ .running ∧ t.node.state ≠ .hold)
  ∧ (∀ s : State, s.withdrawDue = true → { s with withdrawDue := false }.FaultsOk →
      s.node.state = .probing ∨ s.node.state = .joining ∨ s.node.state = .running ∨ s.node.state = .hold →
      let t := s.settle
      t.node = { s.node with state := .withdrawn, probe := none, listen := none } ∧ t.withdrawDue = false
        ∧ (∀ r ∈ t.records, r = none) ∧ (∀ ch, t.chan ch = { s.chan ch with integrator := .idle })
        ∧ (∀ e ∈ t.link.queue, e.kind = .status ∨ e.kind = .log)
        ∧ t.tracker = s.tracker ∧ t.peers = s.peers ∧ t.context = s.context ∧ t.estimator = s.estimator)

/-- R2, R12, R16, R29, R32, R57, R58, R59, R61, R66, R71, R107: every step keeps the tracker's fields as its sync state
says, and every open record and every integration within RUNNING, PHASED and, for a record, complete warm-up, with the
record's list and expected set in order. -/
def Obligations.StepKeepsTheEngine : Prop :=
  ∀ s t : State, s.EngineOk → step s = .next t → t.EngineOk

/-- R64: no step leaves a complete record open in WAITING. -/
def Obligations.StepLeavesNoCompleteRecordOpen : Prop :=
  ∀ s t : State, s.EngineOk → s.NoneReady → step s = .next t → t.NoneReady

/-- R30, R82, R84, R85, R93: every step keeps references between 16 and 1,048,560, learning counts up to Lc, misfires and
knocks of a block up to its assessed count, its cycles up to the block length, the silence and abort counters up to 255, and
the sums and energies that feed them in range. -/
def Obligations.StepKeepsTheNumbers : Prop :=
  ∀ s t : State, s.NumbersOk → step s = .next t → t.NumbersOk

/-! ## Passing time -/

/-- R14, R139 and the timers of the field tables: what the state is at the instant of a command, before the command acts.
In STOPPED and SEEKING the tracker has no angle and keeps none. Each expiry is a command of its own (DESIGN CHOICE, log
entries 1 and 2), so a timer rests at 0 until it is taken; and the level of a bias input is held as the time it has been
above the threshold, up to the probe's length (the model's representation: DESIGN CHOICE, log entry 3). -/
def Obligations.PassageOfTime : Prop :=
  ∀ (s : State) (τ : Tick),
    let d := (τ - s.now).toNat
    let im := s.params
    let tr := (s.advance τ).tracker
    (∀ u p i e, s.tracker.lastEdge = some u → s.tracker.perPitch = some p → s.tracker.toothIndex = some i →
        s.tracker.edgeAngle = some e →
      let pitch := 3600 / im.teeth
      let next := if i + 1 = im.teeth - im.gap then im.gap + 1 else 1
      let angle := e + min ((τ - u).toNat * pitch / p) (next * pitch - 1)
      (s.tracker.sync = .crankLocked →
          tr = { s.tracker with stallLeft := s.tracker.stallLeft.map (· - d), angle := some (angle % 3600) })
        ∧ (s.tracker.sync = .phased → ∀ was, s.tracker.angle = some was →
            tr = { s.tracker with
              stallLeft := s.tracker.stallLeft.map (· - d), angle := some (angle % 7200),
              phase := some (if angle % 7200 < 3600 then .first else .second),
              marks := s.tracker.marks.map
                (fun m => { m with dist := m.dist - ((angle % 7200 + 7200 - was) % 7200 : Nat) }) }))
      ∧ (s.tracker.sync = .stopped ∨ s.tracker.sync = .seeking →
          tr = { s.tracker with stallLeft := s.tracker.stallLeft.map (· - d) })
      ∧ (s.advance τ).context = { s.context with
          hold := s.context.hold.map (fun h => { h with left := h.left - d }),
          joltGuard := s.context.joltGuard.map (· - d) }
      ∧ (s.advance τ).alert = { s.alert with holdOff := s.alert.holdOff.map (· - d) }
      ∧ (s.advance τ).node = { s.node with
          port := match s.node.port with
            | .waiting left => .waiting (left - d)
            | p => p,
          probe := s.node.probe.map (· - d), listen := s.node.listen.map (· - d),
          statusTimer := s.node.statusTimer.map (· - d) }
      ∧ (∀ ch, (s.advance τ).chan ch = { s.chan ch with
          qualification := (s.chan ch).qualification.map (· - d),
          levelAbove := (s.chan ch).levelAbove.map (fun u => min (u + d) 400000) })
      ∧ (s.advance τ).link = { s.link with
          dwell := s.link.dwell.map (· - d),
          transmitter := match s.link.transmitter with
            | .arbitrating e removed left => if left ≤ d then .sending e else .arbitrating e removed (left - d)
            | tx => tx }
      ∧ (s.advance τ).now = τ
      ∧ (s.advance τ).records = s.records ∧ (s.advance τ).cylinders = s.cylinders ∧ (s.advance τ).peers = s.peers
      ∧ (s.advance τ).faults = s.faults ∧ (s.advance τ).estimator = s.estimator ∧ (s.advance τ).image = s.image
      ∧ (s.advance τ).station = s.station ∧ (s.advance τ).pending = s.pending
      ∧ (s.advance τ).markCounted = s.markCounted ∧ (s.advance τ).withdrawDue = s.withdrawDue

/-! ## Start-up (chapter 10) -/

/-- R149, R160 and the power-on columns of R2, R24, R41, R57, R82, R103, R121, R133, R148 and R155: RESET_N_RELEASE starts the
node as at power-on, with the straps sampled and the first configuration read under way. (The timebase starts at the
command's instant, and the level of an input pin, which is the world's, below the threshold: DESIGN CHOICE, log entries 5
and 3.) -/
def Obligations.ResetReleaseStartsAsAtPowerOn : Prop :=
  ∀ (s : State) (τ : Tick) (straps : Station), ∃ t, exec (.resetNRelease τ straps) s = .next t
    ∧ t.pending = s.pending ∧ t.now = τ ∧ t.station = straps ∧ t.image = none
    ∧ t.node = { state := .loading, port := .reading false, probe := none, listen := none, statusTimer := none }
    ∧ t.tracker = {
        sync := .stopped, lastEdge := none, periodPrev := none, periodCur := none, span := none,
        perPitch := none, refCount := none, toothIndex := none, edgeAngle := none, angle := none, phase := none,
        cycleCount := 0, warmUp := 0, camMiss := 0, camSeen := false, chain := none, marks := [], stallLeft := none }
    ∧ (∀ ch, t.chan ch = {
        state := .unprobed, biasOn := false, openFault := false, qualification := none,
        integrator := .idle, shockPeak := 0, levelAbove := none })
    ∧ t.estimator = { depth := 0, t0 := none, t1 := none, t2 := none }
    ∧ (∀ r ∈ t.records, r = none)
    ∧ (∀ c, t.cyl c = {
        role := .none, rank := none, silence := 0, heard := false, refA := 16, refB := 16, learnA := 0,
        learnB := 0, misfireHistory := [], knockHistory := none,
        block := { assessed := 0, misfires := 0, knocks := 0, suspects := 0, cycles := 0 }, counted := false,
        misfireAlarm := false, knockAlarm := false, dead := false, clearRun := 0, aborts := 0 })
    ∧ (∀ st, t.peer st = { state := .unknown, lastHeard := none, misses := 0, rejoinRun := 0, expectedFor := false })
    ∧ t.context = {
        current := { cutMask := 0, antiLag := false, loadBand := 0 }, pendingCtx := none, freshness := 5,
        hold := none, joltGuard := none }
    ∧ t.link = {
        mode := none, acq := none, rate := none, fallback := none, dwell := none, rounds := 0, confirms := 0,
        failures := 0, dominantRun := 0, recessiveRun := 0, inhibit := false, receiver := .idle, transmitter := .idle,
        queue := [], nextAge := 0 }
    ∧ (∀ k ∈ allClasses, t.faults.cls k = {
        status := false, count := 0, mask := false,
        severity :=
          if k = .configInvalid ∨ k = .clash then .withdrawing
          else if k = .stuckLine ∨ k = .sensorOpen ∨ k = .crankLost ∨ k = .camMismatch ∨ k = .contextStale then .degrading
          else .advisory })
    ∧ t.faults.first = none ∧ t.faults.overflow = false ∧ t.faults.service = .degraded
    ∧ (∀ x ∈ allSources, t.alert.src x = { latch := false, latest := 0, mask := false })
    ∧ t.alert.raiseSeq = 0 ∧ t.alert.line = .released ∧ t.alert.holdOff = none

/-- R160, R170: a read of 256 bytes is accepted exactly when its check byte is right and every validity condition holds. -/
def Obligations.ImageIsJudgedByItsConditions : Prop :=
  ∀ (bytes : List Byte) (own : Station), bytes.length = 256 →
    let b := imageByte bytes
    let w := imageWord bytes
    let span := 7200 / b 0
    judgeRead bytes own = some (parseImage bytes) ↔
      crc8 (bytes.take 255) = bytes.getD 255 0
      ∧ b 0 ∈ [2, 3, 4, 5, 6, 8]
      ∧ (∀ c, 1 ≤ c → c ≤ b 0 → ((List.range (b 0)).filter (fun k => b (1 + k) == c)).length = 1)
      ∧ b 9 ∈ [12, 15, 16, 18, 20, 24, 30, 36, 40, 45, 48, 60] ∧ b 10 ∈ [1, 2]
      ∧ (∀ k < b 0, ∃ i < b 9 - b 10, (w 11 + i * (3600 / b 9)) % 3600 = (w 17 + k * span) % 3600)
      ∧ w 19 + w 21 ≤ span ∧ max (w 17 + span) (w 19 + w 21) + w 23 < 7200
      ∧ (∀ i < 6, w (102 + 2 * i) < w (104 + 2 * i))
      ∧ (∀ i < b 0, (w (70 + 2 * i)).testBit own.val = false)
      ∧ w 11 ≤ 3599 ∧ w 13 ≤ 7199 ∧ (1 ≤ w 15 ∧ w 15 ≤ 3599) ∧ w 17 ≤ 1799 ∧ w 19 ≤ 900 ∧ (50 ≤ w 21 ∧ w 21 ≤ 600)
      ∧ w 23 ≤ 1800 ∧ (2 ≤ b 25 ∧ b 25 ≤ 32)
      ∧ b 26 ≤ 3 ∧ b 27 ≤ 15 ∧ (∀ i < 8, b (28 + i) ≤ 15) ∧ b 36 ≤ 3 ∧ b 37 ≤ 15 ∧ (∀ i < 8, b (38 + i) ≤ 15)
      ∧ (∀ i < 8, b (46 + i) ≤ 15) ∧ (∀ i < 16, b (54 + i) ≤ 15 ∨ b (54 + i) = 255) ∧ b 140 ≤ 15
      ∧ (∀ i < 8, w (86 + 2 * i) ≤ 32767) ∧ (∀ i < 4, 1 ≤ b (116 + i) ∧ b (116 + i) ≤ 31)
      ∧ (16 ≤ b 120 ∧ b 120 ≤ 63) ∧ (1 ≤ w 121 ∧ w 121 ≤ 1023) ∧ (17 ≤ b 123 ∧ b 123 ≤ 63)
      ∧ (2 ≤ b 124 ∧ b 124 ≤ 7) ∧ (4 ≤ b 125 ∧ b 125 ≤ 64) ∧ (16 ≤ w 126 ∧ w 126 ≤ 1023)
      ∧ (1 ≤ w 128 ∧ w 128 ≤ 1000) ∧ (1 ≤ w 130 ∧ w 130 ≤ 1023) ∧ (1 ≤ b 132 ∧ b 132 ≤ 15)
      ∧ 1 ≤ w 133 ∧ (50 ≤ w 135 ∧ w 135 ≤ 2000) ∧ (2 ≤ b 137 ∧ b 137 ≤ 15) ∧ (1 ≤ b 138 ∧ b 138 ≤ 8)
      ∧ (2 ≤ b 139 ∧ b 139 ≤ 15) ∧ (50 ≤ w 143 ∧ w 143 ≤ 1000) ∧ b 145 ≤ 4 ∧ (1 ≤ b 146 ∧ b 146 ≤ 4)
      ∧ (1 ≤ b 148 ∧ b 148 ≤ 100) ∧ b 151 ≤ 2 ∧ b 152 ≤ 2

/-- R24, R25, R83, R104, R133, R148, R149, R155, R160: the command of an accepted read takes the node to PROBING with
every block's parameters from the image. -/
def Obligations.AcceptedReadEntersProbing : Prop :=
  ∀ (s : State) (τ : Tick) (bytes : List Byte) (second : Bool) (im : Image), s.withdrawDue = false →
    s.node.port = .reading second → judgeRead bytes s.station = some im → s.link.queue = [] →
    let rate : Nat → Option Rate := fun
      | 1 => some .k125 | 2 => some .k250 | 3 => some .k500 | 4 => some .k1000 | _ => none
    let severity : Nat → Option Severity := fun
      | 0 => some .advisory | 1 => some .degrading | 2 => some .withdrawing | _ => none
    ∃ t, exec (.configReadDone τ bytes) s = .next t
      ∧ t.image = some im
      ∧ t.node = { state := .probing, port := .idle, probe := some 400000, listen := none, statusTimer := none }
      ∧ (∀ c ∈ allCylinders, ∃ role rank, t.cyl c = { CylEntry.powerOn with role := role, rank := rank }
          ∧ (role, rank) =
            if im.n < c then (Role.none, none)
            else if im.owner.getD (c - 1) 255 = s.station.val then (.owner, none)
            else if im.deputy1.getD (c - 1) 255 = s.station.val then (.deputyStandby, some 1)
            else if im.deputy2.getD (c - 1) 255 = s.station.val then (.deputyStandby, some 2)
            else if im.weightA.getD (c - 1) 0 ≠ 0 ∨ im.weightB.getD (c - 1) 0 ≠ 0 then (.witness, none)
            else (.none, none))
      ∧ (∀ st : Station, st ≠ s.station → ∃ f, t.peer st = { PeerEntry.powerOn with expectedFor := f }
          ∧ (f = true ↔ ∃ c ∈ allCylinders, c ≤ im.n
              ∧ (im.owner.getD (c - 1) 255 = s.station.val ∨ im.deputy1.getD (c - 1) 255 = s.station.val
                  ∨ im.deputy2.getD (c - 1) 255 = s.station.val)
              ∧ (im.witness.getD (c - 1) 0).testBit st.val = true))
      ∧ (∀ ch, (t.chan ch).state = .unprobed ∧ (t.chan ch).biasOn = true ∧ (t.chan ch).openFault = false
          ∧ (t.chan ch).qualification = none ∧ (t.chan ch).integrator = .idle ∧ (t.chan ch).shockPeak = 0)
      ∧ (im.bitRate = 0 → t.link.mode = some .acquire ∧ t.link.acq = some .hunt ∧ t.link.rate = some .k500
          ∧ t.link.fallback = rate im.fallback ∧ t.link.dwell = some 400000)
      ∧ (im.bitRate ≠ 0 → t.link.mode = some .fixed ∧ t.link.acq = some .locked
          ∧ t.link.rate = rate im.bitRate ∧ t.link.fallback = rate im.fallback ∧ t.link.dwell = none)
      ∧ t.link.rate.isSome = true ∧ t.link.fallback.isSome = true
      ∧ (∀ k ∈ allClasses, (t.faults.cls k).mask = (im.faultMask.testBit k.index && k != .configInvalid))
      ∧ some (t.faults.cls .peerSilent).severity = severity im.sevSilent
      ∧ some (t.faults.cls .clash).severity = severity im.sevClash
      ∧ (∀ x ∈ allSources, (t.alert.src x).mask = im.alertMask.testBit x.index)
      ∧ t.alert.line = .released
      ∧ t.tracker = (s.advance τ).tracker ∧ t.estimator = s.estimator ∧ t.records = s.records
      ∧ t.context = (s.advance τ).context ∧ t.faults.first = s.faults.first

/-- R160: a first read that fails raises nothing and starts the wait of 10 ms, and its end starts the second read; before
the 10 ms have run out, and where none is waited for, the command changes only the time. (An expiry is a command: DESIGN
CHOICE, log entry 2.) -/
def Obligations.FailedReadIsRepeatedOnce : Prop :=
  ∀ (s : State) (τ : Tick) (bytes : List Byte), s.withdrawDue = false →
    (s.node.port = .reading false → judgeRead bytes s.station = none →
      ∃ t, exec (.configReadDone τ bytes) s = .next t
        ∧ { s.advance τ with node := { (s.advance τ).node with port := .waiting 200000 } }.SettledTo t)
    ∧ ((s.advance τ).node.port = .waiting 0 →
      ∃ t, exec (.configRetryTimer τ) s = .next t
        ∧ { s.advance τ with node := { (s.advance τ).node with port := .reading true } }.SettledTo t)
    ∧ ((s.advance τ).node.port ≠ .waiting 0 →
      ∃ t, exec (.configRetryTimer τ) s = .next t ∧ (s.advance τ).SettledTo t)

/-- R133, R152, R158, R160, R161, R166: a second read that fails takes the node to UNCONFIGURED, with service level
WITHDRAWN, one CONFIG_INVALID captured with that level, both sources raised, and the line asserted. -/
def Obligations.SecondFailureUnconfigures : Prop :=
  ∀ (s : State) (τ : Tick) (bytes : List Byte), s.FaultsOk → s.AlertOk → s.node.state = .loading →
    s.node.port = .reading true → judgeRead bytes s.station = none → s.tracker = Tracker.powerOn →
    s.faults.first = none → s.faults.service = .degraded → s.link.queue = [] →
    (∀ x ∈ allSources, (s.alert.src x).mask = false) →
    ∃ t, exec (.configReadDone τ bytes) s = .next t
      ∧ t.node.state = .unconfigured ∧ t.node.port = .idle ∧ t.node.statusTimer = some 2000000
      ∧ t.link.mode = some .acquire ∧ t.link.acq = some .hunt ∧ t.link.rate = some .k500
      ∧ t.link.fallback = some .k500 ∧ t.link.dwell = some 400000
      ∧ t.faults.service = .withdrawn
      ∧ (t.faults.cls .configInvalid) = (s.faults.cls .configInvalid).counted 1
      ∧ t.faults.first = some {
          cls := .configInvalid, cycle := 0, angle := none, station := none, kind := none,
          cyl := none, service := .withdrawn }
      ∧ (t.alert.src .serviceChange).latch = true ∧ (t.alert.src .serviceChange).latest = s.alert.raiseSeq + 1
      ∧ (t.alert.src .firstFault).latch = true ∧ (t.alert.src .firstFault).latest = s.alert.raiseSeq + 2
      ∧ t.alert.line = .asserted
      ∧ t.link.Waits .status none ∧ t.link.Waits .log none
      ∧ t.image = s.image ∧ t.tracker = s.tracker ∧ t.cylinders = s.cylinders ∧ t.peers = s.peers
      ∧ t.context = (s.advance τ).context ∧ (∀ ch, (t.chan ch).state = (s.chan ch).state)

/-- R25, R26, R27, R36, R162: when the 20 ms of the probe have run out each channel is judged by whether its input has been
above the threshold for the last 10 ms, each channel found open passes SENSOR_OPEN, and the node enters JOINING, where the
listen starts at once when the link is LOCKED. With ticks left, and with no probe under way, nothing is judged. (An expiry
is a command, and the input's level is held as the time it has been above: DESIGN CHOICE, log entries 2 and 3.) -/
def Obligations.ProbeEndJudgesTheChannels : Prop :=
  ∀ (s : State) (τ : Tick), s.FaultsOk →
    let a := s.advance τ
    let isOpen := fun ch => match (a.chan ch).levelAbove with
      | some u => decide (200000 ≤ u)
      | none => false
    let found := (if isOpen .a then 1 else 0) + (if isOpen .b then 1 else 0)
    (s.node.state = .probing → a.node.probe = some 0 → ∃ t, exec (.probeEnd τ) s = .next t
      ∧ (∀ ch, isOpen ch = true → t.chan ch = { a.chan ch with
          state := .disabled, openFault := true, qualification := none })
      ∧ (∀ ch, isOpen ch = false → t.chan ch = { a.chan ch with
          state := .enabled, openFault := (a.chan ch).levelAbove.isSome,
          qualification := if (a.chan ch).levelAbove.isSome then some 20000 else none, shockPeak := 0 })
      ∧ t.node = { a.node with
          state := .joining, probe := none,
          listen := if a.link.acq = some .locked ∧ a.node.listen = none then some (2 * (s.params.statusMs * 20000))
            else a.node.listen }
      ∧ t.faults.cls .sensorOpen =
          (if found = 0 then s.faults.cls .sensorOpen else (s.faults.cls .sensorOpen).counted found)
      ∧ t.tracker = a.tracker ∧ t.estimator = s.estimator ∧ t.records = s.records ∧ t.cylinders = s.cylinders
      ∧ t.peers = s.peers ∧ t.context = a.context ∧ t.link.bare = a.link.bare)
    ∧ (s.node.state ≠ .probing ∨ a.node.probe ≠ some 0 → ∃ t, exec (.probeEnd τ) s = .next t ∧ a.SettledTo t)

/-- R158, R162, R166: the end of the listen enters RUNNING: a STATUS queued, the status timer started at the status period,
the alert line evaluated. Each time the status timer runs out a STATUS is queued, and the timer starts again at the full
period, which is 100 ms in UNCONFIGURED. With ticks left neither is taken. (An expiry is a command: DESIGN CHOICE, log entry
2.) -/
def Obligations.ListenEndAndStatusTimerQueueStatus : Prop :=
  ∀ (s : State) (τ : Tick), s.FaultsOk → s.link.HasRoom .status →
    let a := s.advance τ
    (s.AlertOk → s.node.state = .joining → a.node.listen = some 0 →
      ∃ t, exec (.listenEnd τ) s = .next t
        ∧ t.body = { a with node := { a.node with
            state := .running, listen := none, statusTimer := some (s.params.statusMs * 20000) } }.body
        ∧ t.link.Waits .status none
        ∧ (s.alert.unmaskedLatched = true → t.alert.line = .asserted))
    ∧ (s.node.state ≠ .joining ∨ a.node.listen ≠ some 0 → ∃ t, exec (.listenEnd τ) s = .next t ∧ a.SettledTo t)
    ∧ (a.node.statusTimer ≠ some 0 → ∃ t, exec (.statusTimerExpiry τ) s = .next t ∧ a.SettledTo t)
    ∧ (a.node.statusTimer = some 0 →
      ∃ t, exec (.statusTimerExpiry τ) s = .next t ∧ t.link.Waits .status none
        ∧ t.body = { a with node := { a.node with
            statusTimer := some ((if s.node.state = NodeState.unconfigured then 100 else s.params.statusMs) * 20000) } }.body)

/-! ## Engine inputs (chapters 1 and 3) -/

/-- R2, R3, R4, R5, R6, R8: in LOADING and UNCONFIGURED a tooth edge is not acted on. Elsewhere, in STOPPED a tooth edge starts
SEEKING, with the stall watchdog at its 200 ms limit; in SEEKING a tooth edge is measured, tested for the gap on the raw
periods, and acted on by the table of R6. (Two edges at one timestamp leave a raw period of 0, where R2's table begins at 1:
DEDUCED, log entry 21.) -/
def Obligations.SeekingBeginsAndCountsFromTheGap : Prop :=
  ∀ (s : State) (τ : Tick) (order : BoundaryOrder), s.FaultsOk →
    let im := s.params
    let a := s.advance τ
    let acts := s.node.state.configured = true
    (¬acts → ∃ t, exec (.toothEdge τ order) s = .next t ∧ a.SettledTo t)
    ∧ (acts → s.tracker.sync = .stopped → ∃ t, exec (.toothEdge τ order) s = .next t
      ∧ { a with tracker := { a.tracker with
          sync := .seeking, lastEdge := some τ, refCount := none, stallLeft := some 4000000 } }.SettledTo t)
    ∧ (∀ u, acts → s.tracker.sync = .seeking → s.tracker.lastEdge = some u →
      let period := (τ - u).toNat
      let candidate := match s.tracker.periodCur with
        | some p => decide ((2 * im.gap + 1) * p < 2 * period)
        | none => false
      let span := if candidate then im.gap + 1 else 1
      let per := max 1 (period / span)
      ∃ t, exec (.toothEdge τ order) s = .next t
        ∧ t.tracker.lastEdge = some τ ∧ t.tracker.periodPrev = s.tracker.periodCur ∧ t.tracker.periodCur = some period
        ∧ t.tracker.span = some span ∧ t.tracker.perPitch = some per
        ∧ t.tracker.stallLeft = some (min ((im.gap + 3) * per) 4000000)
        ∧ (s.tracker.refCount = none →
            t.tracker.sync = .seeking ∧ t.tracker.refCount = if candidate then some 0 else none)
        ∧ (∀ n, s.tracker.refCount = some n → n + 1 ≠ im.teeth - im.gap →
            t.tracker.sync = .seeking ∧ t.tracker.refCount = if candidate then some 0 else some (n + 1))
        ∧ (∀ n, s.tracker.refCount = some n → n + 1 = im.teeth - im.gap → candidate = false →
            t.tracker.sync = .seeking ∧ t.tracker.refCount = none)
        ∧ (∀ n, s.tracker.refCount = some n → n + 1 = im.teeth - im.gap → candidate = true →
            t.tracker.sync = .crankLocked ∧ t.tracker.refCount = none ∧ t.tracker.toothIndex = some 0
              ∧ t.tracker.edgeAngle = some im.gapOffset ∧ t.tracker.angle = some im.gapOffset)
        ∧ t.cylinders = s.cylinders ∧ t.peers = s.peers ∧ t.image = s.image ∧ t.node = a.node
        ∧ (t.tracker.sync = .seeking → t.body = { a with tracker := t.tracker }.body))

/-- R1, R3, R7, R8, R17: in CRANK_LOCKED and in PHASED a tooth edge that agrees with the tooth count is accepted as the next
tooth, or as tooth 0 at the end of the gap. In CRANK_LOCKED away from the boundary angles, and in PHASED where the advance
to the tooth's angle reaches no mark, it changes nothing else: in PHASED the angle steps by a pitch, or by the whole gap,
round the cycle, and the distance of every mark falls by the advance. Where the advance reaches marks, they are issued at
the edge: what follows is what INTERPOLATED_MARK at the edge's instant makes of the accepted state, so that the statements
about marks issued between teeth say what each does here. (The order that the command carries matters only to a boundary at
a shock, of which `LockedBoundaryMeasuresTheSegment` tells: DESIGN CHOICE, log entry 8. An edge whose own marks drop PHASED
at a boundary angle of CRANK_LOCKED is itself a boundary there, DEDUCED, log entry 9, and is left out. Two edges at one
timestamp leave a raw period of 0, where R2's table begins at 1: DEDUCED, log entry 21.) -/
def Obligations.AcceptedToothIsCounted : Prop :=
  ∀ (s : State) (τ u : Tick) (p i : Nat) (order : BoundaryOrder), s.withdrawDue = false →
    s.node.state.configured = true → s.tracker.lastEdge = some u →
    s.tracker.periodCur = some p → s.tracker.toothIndex = some i →
    let im := s.params
    let a := s.advance τ
    let period := (τ - u).toNat
    let pitch := 3600 / im.teeth
    let atGap := decide (i + 1 = im.teeth - im.gap)
    let index := if atGap then 0 else i + 1
    let angle := (im.gapOffset + index * pitch) % 3600
    let span := if atGap then im.gap + 1 else 1
    let per := max 1 (period / span)
    let measured := { a.tracker with
      lastEdge := some τ, periodPrev := some p, periodCur := some period, span := some span, perPitch := some per,
      toothIndex := some index, stallLeft := some (min ((im.gap + 3) * per) 4000000) }
    decide ((2 * im.gap + 1) * p < 2 * period) = atGap →
    (s.tracker.sync = .crankLocked → im.isLockedBoundary angle = false →
      ∃ t, exec (.toothEdge τ order) s = .next t
        ∧ { a with tracker := { measured with edgeAngle := some angle, angle := some angle } }.SettledTo t)
    ∧ (∀ e was, s.tracker.sync = .phased → s.tracker.edgeAngle = some e → a.tracker.angle = some was →
        let next := (e + span * pitch) % 7200
        let marks := a.tracker.marks.map
          (fun m => { m with dist := m.dist - ((next + 7200 - was) % 7200 : Nat) : PendingMark })
        let accepted := { a with tracker := { measured with
          edgeAngle := some next, angle := some next, phase := some (if next < 3600 then .first else .second),
          marks := marks } }
        let peakOf := fun x : Channel => if x.state = .enabled then x.shockPeak else 0
        ((∀ m ∈ marks, 0 < m.dist) → ∃ t, exec (.toothEdge τ order) s = .next t ∧ accepted.SettledTo t)
        ∧ (order = .segmentEndFirst ∨ (∀ m ∈ marks, m.dist ≤ 0 → m.kind ≠ .segment)
              ∨ max (peakOf s.chanA) (peakOf s.chanB) < im.shockThr →
            ∃ t, exec (.interpolatedMark τ) accepted = .next t
              ∧ (t.tracker.sync = .phased ∨ im.isLockedBoundary (next % 3600) = false →
                  exec (.toothEdge τ order) s = .next t)))

/-- R6, R19, R20, R36, R37, R42, R50, R63, R64, R126, R127, R128: a segment boundary. In CRANK_LOCKED, with an even
cylinder count, it is an accepted edge at a boundary angle, the edge that locks among them; in PHASED it is the edge at which
the boundary mark of a position is issued. It becomes the chain's timestamp, and, where the chain held one, measures the
segment just ended, held at 16,777,215 and raised to 1, into the period history. In PHASED the segment is that of the
position before, whose cylinder's open record takes the loss and the band, and closes where that makes it complete. The
larger shock peak of the ENABLED channels goes to the Context Unit and the peaks restart; one at the shock threshold or
above extends the hold, and queues a JOLT in RUNNING and HOLD while the guard is idle. (Where the onset and the close meet
at one boundary, the command carries their order: DESIGN CHOICE, log entry 8. Of the edges at which a boundary is issued
among other marks, `AcceptedToothIsCounted` tells.) -/
def Obligations.LockedBoundaryMeasuresTheSegment : Prop :=
  ∀ (s : State) (τ u : Tick) (p i : Nat) (order : BoundaryOrder), s.FaultsOk →
    s.node.state.configured = true → s.tracker.lastEdge = some u → s.tracker.periodCur = some p →
    let im := s.params
    let a := s.advance τ
    let pitch := 3600 / im.teeth
    let atGap := decide (i + 1 = im.teeth - im.gap)
    let index := if atGap then 0 else i + 1
    let angle := (im.gapOffset + index * pitch) % 3600
    let peakOf := fun x : Channel => if x.state = .enabled then x.shockPeak else 0
    let peak := max (peakOf s.chanA) (peakOf s.chanB)
    let shock := (s.chanA.state = .enabled ∨ s.chanB.state = .enabled) ∧ im.shockThr ≤ peak
    let onset := shock ∧ s.context.hold = none
    let jolts := shock ∧ (s.node.state = .running ∨ s.node.state = .hold) ∧ s.context.joltGuard = none
    let estimator := match s.tracker.chain with
      | some chain => ({
          depth := min (s.estimator.depth + 1) 3,
          t0 := some (max 1 (min (τ - chain).toNat 16777215)),
          t1 := s.estimator.t0, t2 := s.estimator.t1 } : Estimator)
      | none => s.estimator
    let marked := fun r : Record => if onset then { r with shock := true } else r
    let bounded := fun t : State => t.tracker.chain = some τ ∧ t.tracker.toothIndex = some index
      ∧ t.estimator = estimator
      ∧ (∀ ch, t.chan ch = if (s.chan ch).state = .enabled then { a.chan ch with shockPeak := 0 } else a.chan ch)
      ∧ (¬shock → t.context = a.context)
      ∧ (onset → t.context.hold = some { left := im.shockHold * 20000, cause := .ownShock })
      ∧ (∀ h, shock → a.context.hold = some h →
          t.context.hold = some (if h.left < im.shockHold * 20000 then
            { left := im.shockHold * 20000, cause := .ownShock } else h))
      ∧ (t.context.joltGuard = if jolts then some (im.shockHold * 10000) else a.context.joltGuard)
      ∧ (jolts → s.link.QueueOk → s.link.queue.length < 12 → ∃ e ∈ t.link.queue, e.kind = .jolt
          ∧ e.payload = bytes16 peak ++ bytes16 im.shockHold)
      ∧ t.image = s.image
    decide ((2 * im.gap + 1) * p < 2 * (τ - u).toNat) = atGap →
    ((s.tracker.sync = .crankLocked ∧ s.tracker.toothIndex = some i)
        ∨ (s.tracker.sync = .seeking ∧ s.tracker.refCount = some i ∧ atGap = true) →
      im.n % 2 = 0 → (∃ k < im.n / 2, (im.sigma + k * (7200 / im.n)) % 3600 = angle) →
      ∃ t, exec (.toothEdge τ order) s = .next t ∧ bounded t
        ∧ t.tracker.sync = .crankLocked ∧ (s.tracker.sync = .crankLocked → t.tracker.edgeAngle = some angle)
        ∧ t.records = s.records.map (Option.map marked) ∧ t.cylinders = s.cylinders ∧ t.peers = s.peers
        ∧ t.node = a.node)
    ∧ (∀ e was m k, s.tracker.sync = .phased → s.tracker.toothIndex = some i → s.tracker.edgeAngle = some e →
        a.tracker.angle = some was →
        let next := (e + (if atGap then im.gap + 1 else 1) * pitch) % 7200
        let marks := a.tracker.marks.map
          (fun m => { m with dist := m.dist - ((next + 7200 - was) % 7200 : Nat) : PendingMark })
        im.issuesExactly [m] marks = true → m.kind = .segment → m.pos = some k →
        (s.faults.cls .peerSilent).severity ≠ .withdrawing →
        let c := im.cylAt ((k + im.n - 1) % im.n)
        let segment := estimator.result im
        ∃ t, exec (.toothEdge τ order) s = .next t ∧ bounded t
          ∧ t.tracker.sync = .phased ∧ t.tracker.edgeAngle = some next ∧ t.tracker.angle = some next
          ∧ t.tracker.marks = insertMark { m with dist := m.dist + 7200 } marks.tail
          ∧ (s.tracker.chain = none → t.records = s.records.map (Option.map marked) ∧ t.cylinders = s.cylinders)
          ∧ ((∀ r ∈ s.openRecords, r.cyl ≠ c) → s.NoneReady →
              t.records = s.records.map (Option.map marked) ∧ t.cylinders = s.cylinders)
          ∧ (∀ r, s.tracker.chain.isSome = true → s.NoneReady → s.recordOf c = some r → r.segmentTaken = false →
              let taken := { r with segmentTaken := true, loss := segment.loss, band := segment.band : Record }
              let missing := ∃ st ∈ r.expected, ∀ w ∈ r.witnesses, w.station ≠ st
              (r.windowTaken = false → t.recordOf c = some (marked taken))
              ∧ (r.windowTaken = true → missing → t.recordOf c = some (marked { taken with state := .waiting }))
              ∧ (r.windowTaken = true → ¬missing → ∀ x ∈ t.openRecords, x.cyl ≠ c)))

/-- R3, R7, R8, R12, R21, R22, R32, R36, R43, R71: a tooth edge that disagrees with the tooth count passes CRANK_LOST and
takes the tracker to SEEKING, where an erring gap candidate is the new reference; the segment chain is broken. In PHASED the
occurrence carries the angle held before the edge, and no mark stays pending, no record open, no integration running. In
CRANK_LOCKED it carries no angle, and nothing else changes. (That the cam miss count and the cam seen flag, which R7 does
not name, are kept is the model's deduction: DEDUCED, log entry 14. Two edges at one timestamp leave a raw period of 0,
where R2's table begins at 1: DEDUCED, log entry 21.) -/
def Obligations.ToothCountErrorLosesThePhase : Prop :=
  ∀ (s : State) (τ u : Tick) (p i : Nat) (order : BoundaryOrder), s.FaultsOk → s.node.state.configured = true →
    s.tracker.sync = .phased ∨ s.tracker.sync = .crankLocked → s.tracker.lastEdge = some u →
    s.tracker.periodCur = some p → s.tracker.toothIndex = some i →
    let im := s.params
    let a := s.advance τ
    let phased := s.tracker.sync = .phased
    let period := (τ - u).toNat
    let candidate := decide ((2 * im.gap + 1) * p < 2 * period)
    let span := if candidate then im.gap + 1 else 1
    let per := max 1 (period / span)
    candidate ≠ decide (i + 1 = im.teeth - im.gap) →
    ∃ t, exec (.toothEdge τ order) s = .next t
      ∧ t.tracker = { a.tracker with
          sync := .seeking, lastEdge := some τ, periodPrev := some p, periodCur := some period, span := some span,
          perPitch := some per, refCount := if candidate then some 0 else none, toothIndex := none, edgeAngle := none,
          angle := none, phase := none, warmUp := if phased then 0 else s.tracker.warmUp, chain := none, marks := [],
          stallLeft := some (min ((im.gap + 3) * per) 4000000) }
      ∧ t.estimator = Estimator.empty
      ∧ FaultUnit.Took { cls := .crankLost, cycle := s.tracker.cycleCount,
                         angle := if phased then a.tracker.angle else none, station := none, kind := none,
                         cyl := none } s.faults t.faults
      ∧ (phased → (∀ r ∈ t.records, r = none)
          ∧ (∀ ch, t.chan ch = { a.chan ch with integrator := .idle, shockPeak := 0 })
          ∧ t.node = a.node ∧ t.peers = s.peers ∧ t.context = a.context ∧ t.link.bare = a.link.bare)
      ∧ (¬phased → t.body = { a with tracker := t.tracker, estimator := Estimator.empty }.body)

/-- R8, R12, R21, R32, R36, R43, R70, R71, R100: a stall takes the tracker to STOPPED with its fields cleared and the
cycle count held. Out of PHASED it aborts every open record, each counted once in its cylinder's entry, and abandons
the integrations; from SEEKING and CRANK_LOCKED it touches neither. Before the watchdog has run out there is no stall. (The
watchdog's expiry is a command: DESIGN CHOICE, log entry 2.) -/
def Obligations.StallStopsTheTracker : Prop :=
  ∀ (s : State) (τ : Tick), s.withdrawDue = false →
    let a := s.advance τ
    let stopped : Tracker := { Tracker.powerOn with cycleCount := s.tracker.cycleCount }
    (s.tracker.sync = .stopped ∨ a.tracker.stallLeft ≠ some 0 → ∃ t, exec (.stall τ) s = .next t ∧ a.SettledTo t)
    ∧ (s.tracker.sync = .seeking ∨ s.tracker.sync = .crankLocked → a.tracker.stallLeft = some 0 →
        ∃ t, exec (.stall τ) s = .next t
        ∧ { a with tracker := stopped, estimator := Estimator.empty }.SettledTo t)
    ∧ (s.tracker.sync = .phased → a.tracker.stallLeft = some 0 → ∃ t, exec (.stall τ) s = .next t
        ∧ ∃ cylinders, { a with
            tracker := stopped, estimator := Estimator.empty, records := s.records.map (fun _ => none),
            chanA := { a.chanA with integrator := .idle, shockPeak := 0 },
            chanB := { a.chanB with integrator := .idle, shockPeak := 0 }, cylinders := cylinders }.SettledTo t
          ∧ (s.cylinders.length = 8 → s.openRecords.Pairwise (fun r r' => r.cyl ≠ r'.cyl) →
              (∀ r ∈ s.openRecords, r.cyl ∈ allCylinders) →
              ∀ c ∈ allCylinders, t.cyl c = if s.openRecords.any (fun r => r.cyl == c) then
                { s.cyl c with aborts := min ((s.cyl c).aborts + 1) 255, counted := false } else s.cyl c))

/-- R5, R6, R9, R15, R16: in STOPPED and in SEEKING a cam edge is not acted on. In CRANK_LOCKED a cam edge whose interpolated
angle lies inside the cam window, in the one revolution or the other, enters PHASED there, every standing mark placed ahead:
the cycle mark, the cam-window end, and the firing mark and the segment boundary of every position; any other cam edge is
not acted on. -/
def Obligations.CamEdgeFindsThePhase : Prop :=
  ∀ (s : State) (τ : Tick) (angle : Nat), s.withdrawDue = false →
    let im := s.params
    let a := s.advance τ
    let locked := s.tracker.sync = .crankLocked ∧ a.tracker.angle = some angle
    let inside := fun x => decide ((x + 7200 - im.camStart) % 7200 < im.camWidth)
    let standing : List (MarkKind × Nat × Option Nat) :=
      [(.cycle, 0, none), (.camWindowEnd, (im.camStart + im.camWidth) % 7200, none)]
        ++ (List.range im.n).map (fun k => (.firing, k * (7200 / im.n), some k))
        ++ (List.range im.n).map (fun k => (.segment, (k * (7200 / im.n) + im.sigma) % 7200, some k))
    let phasedAt := fun c => ∃ t marks, exec (.camEdge τ) s = .next t
      ∧ { a with tracker := { a.tracker with
          sync := .phased, angle := some c, phase := some (if c < 3600 then .first else .second),
          edgeAngle := some ((c + 7200 - a.tracker.heldAdvance im τ) % 7200), cycleCount := 0, warmUp := 0,
          camMiss := 0, camSeen := true, marks := marks } }.SettledTo t
      ∧ marks.Pairwise (fun m m' => m.notAfter m' = true)
      ∧ marks.Perm (standing.map (fun m => {
          kind := m.1, angle := m.2.1, pos := m.2.2,
          dist := if (m.2.1 + 7200 - c) % 7200 = 0 then 7200 else ((m.2.1 + 7200 - c) % 7200 : Nat) }))
    (s.tracker.sync = .stopped ∨ s.tracker.sync = .seeking → ∃ t, exec (.camEdge τ) s = .next t ∧ a.SettledTo t)
      ∧ (locked → inside angle = true → phasedAt angle)
      ∧ (locked → inside angle = false → inside (angle + 3600) = true → phasedAt (angle + 3600))
      ∧ (locked → inside angle = false → inside (angle + 3600) = false →
          ∃ t, exec (.camEdge τ) s = .next t ∧ a.SettledTo t)

/-- R10, R12, R21, R22: in PHASED a cam edge inside the window sets the seen flag and clears the miss count; outside it
passes CAM_MISMATCH and drops the tracker to CRANK_LOCKED, the tooth count kept, the chain broken only for an odd cylinder
count, no record left open. -/
def Obligations.CamEdgeAgreesOrDropsThePhase : Prop :=
  ∀ (s : State) (τ : Tick) (angle : Nat), s.FaultsOk → s.tracker.sync = .phased →
    (s.advance τ).tracker.angle = some angle →
    let im := s.params
    let a := s.advance τ
    let inside := decide ((angle + 7200 - im.camStart) % 7200 < im.camWidth)
    (inside = true → ∃ t, exec (.camEdge τ) s = .next t
      ∧ { a with tracker := { a.tracker with camSeen := true, camMiss := 0 } }.SettledTo t)
    ∧ (inside = false → ∃ t, exec (.camEdge τ) s = .next t
      ∧ t.tracker = { a.tracker with
          sync := .crankLocked, edgeAngle := a.tracker.edgeAngle.map (· % 3600), angle := some (angle % 3600),
          phase := none, warmUp := 0, camMiss := 0, camSeen := false, marks := [],
          chain := if im.n % 2 = 1 then none else s.tracker.chain }
      ∧ t.estimator = (if im.n % 2 = 1 then Estimator.empty else s.estimator)
      ∧ (∀ r ∈ t.records, r = none) ∧ (∀ ch, t.chan ch = { a.chan ch with integrator := .idle, shockPeak := 0 })
      ∧ FaultUnit.Took { cls := .camMismatch, cycle := s.tracker.cycleCount, angle := some angle, station := none,
                         kind := none, cyl := none } s.faults t.faults
      ∧ t.node = a.node ∧ t.peers = s.peers ∧ t.context = a.context ∧ t.link.bare = a.link.bare)

/-! ## Marks issued between teeth (R17) -/

/-- R11, R12, R17: INTERPOLATED_MARK with nothing due, or out of PHASED, changes nothing; a cam-window end finds the
window's cam edge, tolerates a first miss, and is placed again a cycle later; a second miss drops the phase. (A mark
is issued at the instant of the command: DESIGN CHOICE, log entries 1 and 2.) -/
def Obligations.CamWindowEndJudgesTheWindow : Prop :=
  ∀ (s : State) (τ : Tick), s.FaultsOk →
    let a := s.advance τ
    (s.tracker.sync ≠ .phased ∨ a.Due [] → ∃ t, exec (.interpolatedMark τ) s = .next t ∧ a.SettledTo t)
    ∧ (∀ m, a.Due [m] → m.kind = .camWindowEnd → s.tracker.camSeen = true ∨ s.tracker.camMiss = 0 →
        ∃ t, exec (.interpolatedMark τ) s = .next t
          ∧ { a with tracker := { a.tracker with
              camSeen := false, camMiss := if s.tracker.camSeen then 0 else 1,
              marks := insertMark { m with dist := m.dist + 7200 } a.tracker.marks.tail } }.SettledTo t)
    ∧ (∀ m, a.Due [m] → m.kind = .camWindowEnd → s.tracker.camSeen = false → s.tracker.camMiss = 1 →
        ∃ t, exec (.interpolatedMark τ) s = .next t
          ∧ t.tracker.sync = .crankLocked ∧ t.tracker.camMiss = 0 ∧ t.tracker.marks = [] ∧ t.tracker.phase = none
          ∧ t.tracker.warmUp = 0 ∧ t.tracker.toothIndex = s.tracker.toothIndex
          ∧ (∀ r ∈ t.records, r = none)
          ∧ FaultUnit.Took { cls := .camMismatch, cycle := s.tracker.cycleCount, angle := a.tracker.angle,
                             station := none, kind := none, cyl := none } s.faults t.faults)

/-- R13, R15, R16, R92, R123, R124: a cycle mark, with the firing mark that may follow it in the same pass, increments the cycle
count and the warm-up, swaps a pending context into use or lets the freshness count grow, and passes CONTEXT_STALE
when the count passes 4. The marks it issues are placed again a cycle later, and the firing mark places its window open,
window close and deadline. Out of RUNNING it leaves the Cylinder Table and the records as they were. (The Context Unit
takes the mark first: DEDUCED, log entry 20; the flag for the latest cycle mark is the model's: DESIGN CHOICE, log entry
16.) -/
def Obligations.CycleMarkSwapsTheContext : Prop :=
  ∀ (s : State) (τ : Tick) (m : PendingMark) (fs : List PendingMark), s.FaultsOk → (s.advance τ).Due (m :: fs) →
    m.kind = .cycle → fs.length ≤ 1 → (∀ f ∈ fs, f.kind = .firing) →
    let a := s.advance τ
    ∃ t, exec (.interpolatedMark τ) s = .next t
      ∧ t.tracker = { a.tracker with
          cycleCount := s.tracker.cycleCount + 1,
          warmUp := if s.tracker.warmUp < s.params.warmUp then s.tracker.warmUp + 1 else s.tracker.warmUp,
          marks := t.tracker.marks }
      ∧ t.tracker.marks.Perm (fs.foldl List.erase a.tracker.marks.tail ++ (m :: fs).flatMap s.params.placedBy)
      ∧ (s.TrackerOk → t.tracker.marks.Pairwise (fun x y => x.notAfter y = true))
      ∧ (∀ ctx, s.context.pendingCtx = some ctx →
          t.context = { a.context with current := ctx, pendingCtx := none, freshness := 0 })
      ∧ (s.context.pendingCtx = none → t.context = { a.context with freshness := min (s.context.freshness + 1) 255 })
      ∧ (s.context.pendingCtx = none → s.context.freshness = 4 →
          FaultUnit.Took { cls := .contextStale, cycle := s.tracker.cycleCount + 1, angle := a.tracker.angle,
                           station := none, kind := none, cyl := none } s.faults t.faults)
      ∧ (s.node.state ≠ .running → t.cylinders = s.cylinders ∧ t.records = s.records ∧ t.markCounted = false)
      ∧ (s.node.state = .running → t.markCounted = true)
      ∧ t.peers = s.peers ∧ t.node = a.node ∧ t.estimator = s.estimator ∧ t.chanA = a.chanA ∧ t.chanB = a.chanB

/-- R92, R99, R117, R118: a cycle mark taken in RUNNING counts a standby deputy's silence where no VERDICT was heard, takes
the cylinder over when the count reaches D times the rank, clears every heard flag, and counts a cycle of each judged
cylinder's block, after ending a block that has all its cycles. (What the end of a block does, `BlockEndJudgesTheAlarms`
states; the firing mark that may follow the cycle mark sets at most the counted firing flag.) -/
def Obligations.CycleMarkCountsSilenceAndBlocks : Prop :=
  ∀ (s : State) (τ : Tick) (m : PendingMark) (fs : List PendingMark), s.FaultsOk → s.AlertOk →
    s.cylinders.length = 8 → (s.advance τ).Due (m :: fs) → m.kind = .cycle → fs.length ≤ 1 →
    (∀ f ∈ fs, f.kind = .firing) → s.node.state = .running → 0 < s.params.blockLen →
    ∃ t, exec (.interpolatedMark τ) s = .next t
      ∧ ∀ c ∈ allCylinders,
        let e := s.cyl c
        let silence := if e.role = .deputyStandby ∧ e.heard = false then min (e.silence + 1) 255 else e.silence
        let due := e.role = .deputyStandby ∧ ∃ k, e.rank = some k ∧ silence = s.params.silenceLen * k
        (due → t.cyl c = { e with
            role := .deputyActive, silence := silence, heard := false,
            block := { assessed := 0, misfires := 0, knocks := 0, suspects := 0, cycles := 1 },
            counted := (t.cyl c).counted }
          ∧ (t.alert.src .ownershipChange).latch = true)
        ∧ (¬due → e.role.judges = true → e.block.cycles ≠ s.params.blockLen → t.cyl c = { e with
            silence := silence, heard := false, block := { e.block with cycles := e.block.cycles + 1 },
            counted := (t.cyl c).counted })
        ∧ (¬due → e.role.judges = true → e.block.cycles = s.params.blockLen → t.cyl c = { (s.endBlock c).cyl c with
            silence := silence, heard := false,
            block := { assessed := 0, misfires := 0, knocks := 0, suspects := 0, cycles := 1 },
            counted := (t.cyl c).counted })
        ∧ (¬due → e.role.judges = false → t.cyl c = { e with silence := silence, heard := false })

/-- R15, R16, R59, R60, R61, R93, R113: a firing mark removes the unsent WITNESS of its cylinder and, in RUNNING, PHASED and
warm, for a judged cylinder, opens a record in the lowest free slot with the context, the shock and the ACTIVE
witnesses of that moment; otherwise it opens none. The mark is placed again a cycle later, and its window open, window close
and deadline at ω, ω plus the window's width, and D beyond it. (The flag for the latest cycle mark is the model's: DESIGN
CHOICE, log entry 16.) -/
def Obligations.FiringMarkOpensARecord : Prop :=
  ∀ (s : State) (τ : Tick) (m : PendingMark) (k slot : Nat), s.FaultsOk → (s.advance τ).Due [m] →
    m.kind = .firing → m.pos = some k →
    let im := s.params
    let a := s.advance τ
    let c := im.cylAt k
    let stale := decide (4 < s.context.freshness)
    let D := max (im.sigma + 7200 / im.n) (im.omega + im.width) + im.allowance
    let opens := s.node.state = .running ∧ s.tracker.warmUp = im.warmUp
      ∧ ((s.cyl c).role = .owner ∨ (s.cyl c).role = .deputyActive)
    ∃ t, exec (.interpolatedMark τ) s = .next t
      ∧ (∀ e ∈ t.link.queue, ¬(e.kind = .witness ∧ e.cyl = some c))
      ∧ (¬opens → t.records = s.records ∧ t.cylinders = s.cylinders)
      ∧ (opens → s.records[slot]? = some none → (∀ i < slot, ∃ r, s.records[i]? = some (some r)) →
          t.records = s.records.set slot (some {
            slot := slot, cyl := c, pos := k, state := .gathering, windowTaken := false, segmentTaken := false,
            evidenceA := none, evidenceB := none, ownA := none, ownB := none, learning := false, loss := none,
            band := 0, witnesses := [],
            expected := (im.witnessSet c).filter (fun st => (s.peer st).state == .active),
            cut := !stale && s.context.current.cutMask.getLsbD (c - 1),
            antiLag := !stale && s.context.current.antiLag,
            loadBand := if stale then none else some s.context.current.loadBand,
            stale := stale, shock := s.context.hold.isSome, deputy := (s.cyl c).role == .deputyActive })
          ∧ (1 ≤ c → c ≤ s.cylinders.length → t.cyl c = { s.cyl c with
              counted := decide (1 ≤ (s.cyl c).block.cycles) && s.markCounted }))
      ∧ t.tracker = { a.tracker with marks := t.tracker.marks }
      ∧ t.tracker.marks.Perm (a.tracker.marks.tail ++
          [{ m with dist := m.dist + 7200 },
           { kind := .windowOpen, angle := (m.angle + im.omega) % 7200, pos := some k, dist := m.dist + im.omega },
           { kind := .windowClose, angle := (m.angle + (im.omega + im.width)) % 7200, pos := some k,
             dist := m.dist + (im.omega + im.width : Nat) },
           { kind := .deadline, angle := (m.angle + D) % 7200, pos := some k, dist := m.dist + D }])
      ∧ (s.TrackerOk → t.tracker.marks.Pairwise (fun x y => x.notAfter y = true))
      ∧ t.peers = s.peers ∧ t.context = a.context ∧ t.estimator = s.estimator ∧ t.node = a.node

/-- R29: a window open mark starts an integration on each ENABLED channel in RUNNING, and none otherwise. (Its open
timestamp is the instant of the command that issues the mark: DESIGN CHOICE, log entries 1 and 2.) -/
def Obligations.WindowOpenStartsIntegration : Prop :=
  ∀ (s : State) (τ : Tick) (m : PendingMark) (k : Nat), s.FaultsOk → (s.advance τ).Due [m] →
    m.kind = .windowOpen → m.pos = some k →
    let a := s.advance τ
    let opened := fun x : Channel => if s.node.state = .running ∧ x.state = .enabled then
      { x with integrator := .running k (s.params.cylAt k) τ 0 0 false } else x
    ∃ t, exec (.interpolatedMark τ) s = .next t
      ∧ { a with
          chanA := opened a.chanA, chanB := opened a.chanB,
          tracker := { a.tracker with marks := a.tracker.marks.tail } }.SettledTo t

/-- R31 to R35, R62, R85, R87, R111, R112: a window close mark in RUNNING forms both channels' results and leaves the
integrators IDLE, a clip on a weighted channel passing SENSOR_CLIPPED. For a judged cylinder the open record takes the
results and, where the segment end has been taken, waits for its missing witnesses or closes; without an open record, or
with one whose window has been taken, the results are discarded. Otherwise the WITNESS is queued and the references move;
none is queued for a judged cylinder, before warm-up is complete, or where no channel counts. Out of RUNNING nothing is
formed. -/
def Obligations.WindowCloseFormsTheResult : Prop :=
  ∀ (s : State) (τ : Tick) (m : PendingMark) (k : Nat), s.FaultsOk → s.link.QueueOk → (s.advance τ).Due [m] →
    m.kind = .windowClose → m.pos = some k →
    let im := s.params
    let a := s.advance τ
    let c := im.cylAt k
    let weight := fun ch => match ch with
      | Chan.a => im.weightA.getD (c - 1) 0
      | .b => im.weightB.getD (c - 1) 0
    let ref : Chan → Nat := fun ch => match ch with
      | Chan.a => (s.cyl c).refA
      | .b => (s.cyl c).refB
    let count := fun ch => match ch with
      | Chan.a => (s.cyl c).learnA
      | .b => (s.cyl c).learnB
    let learning := fun ch => decide (count ch < im.learnLen)
    let sampled := fun ch => match (s.chan ch).state, (s.chan ch).integrator with
      | .enabled, .running pos _ _ sum n clipped =>
        if pos = k ∧ (s.chan ch).openFault = false ∧ 16 ≤ n then some (sum, clipped) else none
      | _, _ => none
    let energy : Chan → Option Nat := fun ch => match sampled ch with
      | some (sum, false) => some (sum / 4)
      | _ => none
    let ratio : Chan → Option Nat := fun ch => (energy ch).map (fun e => min 1023 (e * 256 / ref ch))
    let clips := fun ch => ∃ sum, sampled ch = some (sum, true) ∧ weight ch ≠ 0
    let counts := fun ch => decide (weight ch ≠ 0) && (energy ch).isSome
    let own := fun ch => if counts ch && !learning ch then
      (ratio ch).map (fun q => { weight := weight ch, ratio := q : Contribution }) else none
    let judged := (s.cyl c).role = .owner ∨ (s.cyl c).role = .deputyActive
    let warm := s.tracker.warmUp = im.warmUp
    let total := (if counts .a then weight .a else 0) + (if counts .b then weight .b else 0)
    let score := ((if counts .a then weight .a * (ratio .a).getD 0 else 0)
      + (if counts .b then weight .b * (ratio .b).getD 0 else 0)) / total
    let moved : Chan → Nat → Nat := fun ch e => if count ch = 0 then max 16 (e * 16)
      else max 16 ((ref ch : Int) + ((e * 16 : Nat) - (ref ch : Int)).tdiv
        (if count ch < im.learnLen then 2 else 2 ^ im.shift)).toNat
    let moves := fun ch => counts ch && (learning ch || decide (score < im.kthr))
    let newRef := fun ch => if moves ch then ((energy ch).map (moved ch)).getD 0 else ref ch
    let newCount := fun ch => if moves ch then min (count ch + 1) im.learnLen else count ch
    (s.node.state ≠ .running → ∃ t, exec (.interpolatedMark τ) s = .next t
      ∧ { a with tracker := { a.tracker with marks := a.tracker.marks.tail } }.SettledTo t)
    ∧ (s.node.state = .running → ∃ t, exec (.interpolatedMark τ) s = .next t
      ∧ (∀ ch, t.chan ch = { a.chan ch with integrator := .idle })
      ∧ (clips .a → clips .b → t.faults.cls .sensorClipped = (s.faults.cls .sensorClipped).counted 2)
      ∧ (clips .a → ¬clips .b → t.faults.cls .sensorClipped = (s.faults.cls .sensorClipped).counted 1)
      ∧ (¬clips .a → clips .b → t.faults.cls .sensorClipped = (s.faults.cls .sensorClipped).counted 1)
      ∧ (¬clips .a → ¬clips .b → t.faults.cls .sensorClipped = s.faults.cls .sensorClipped)
      ∧ (∀ r, judged → s.NoneReady → s.recordOf c = some r → r.windowTaken = false →
          let taken := { r with
            windowTaken := true,
            evidenceA := some { energy := energy .a, weight := weight .a, learning := learning .a },
            evidenceB := some { energy := energy .b, weight := weight .b, learning := learning .b },
            ownA := own .a, ownB := own .b,
            learning := r.learning || (counts .a && learning .a) || (counts .b && learning .b) : Record }
          let missing := ∃ st ∈ r.expected, ∀ w ∈ r.witnesses, w.station ≠ st
          (r.segmentTaken = false → t.recordOf c = some taken ∧ t.cylinders = s.cylinders ∧ t.peers = s.peers)
          ∧ (r.segmentTaken = true → missing → t.recordOf c = some { taken with state := .waiting }
              ∧ t.cylinders = s.cylinders ∧ t.peers = s.peers)
          ∧ (r.segmentTaken = true → ¬missing → ∀ x ∈ t.openRecords, x.cyl ≠ c))
      ∧ (judged → s.NoneReady → (∀ r, s.recordOf c = some r → r.windowTaken = true) →
          t.records = s.records ∧ t.cylinders = s.cylinders ∧ t.peers = s.peers)
      ∧ (judged ∨ ¬warm ∨ total = 0 → ∀ e ∈ t.link.queue, e.kind = .witness → e ∈ s.link.queue)
      ∧ (¬judged → t.records = s.records ∧ t.peers = s.peers)
      ∧ (¬judged → warm → 1 ≤ total → total ≤ 30 → s.link.queue.length ≤ 9 →
          ∃ e ∈ t.link.queue, e.kind = .witness ∧ e.cyl = some c
            ∧ e.payload = [byteOf c] ++ bytes16 score
              ++ [byteOf ((if (counts .a && learning .a) || (counts .b && learning .b) then 128 else 0) + total)])
      ∧ (¬judged → warm → s.context.hold = none → s.cylinders.length = 8 → c ∈ allCylinders →
          t.cyl c = { s.cyl c with
            refA := newRef .a, refB := newRef .b, learnA := newCount .a, learnB := newCount .b })
      ∧ (¬judged → ¬warm ∨ s.context.hold ≠ none → t.cylinders = s.cylinders))

/-- R58, R64, R67, R70, R73 to R80, R86, R93, R107 to R109, R151: at its deadline mark a record closes with whatever it holds:
its VERDICT, with the parts the tables give, goes into the queue; the verdict is folded into its cylinder's entry (as
`FoldKeepsTheHistories` says); KNOCK HEAVY raises HEAVY_KNOCK; the witnesses are accounted, a miss or an absence silencing a
station; and its slot is free. A deadline mark whose position has no open record changes nothing. (The hand-offs are
stated where the close brings no further close: no other record open, or none complete and no station silenced. The closes
that a silencing brings follow, each an event of its own; so where an unmasked PEER_SILENT withdraws a RUNNING node, the
withdrawal of this close comes first, and aborts the records still open before any of them closes: DEDUCED, log entry 7.) -/
def Obligations.DeadlineClosesTheRecord : Prop :=
  ∀ (s : State) (τ : Tick) (m : PendingMark) (k : Nat), s.FaultsOk → s.link.QueueOk → (s.advance τ).Due [m] →
    m.kind = .deadline → m.pos = some k →
    let im := s.params
    let a := s.advance τ
    ((∀ r ∈ s.openRecords, r.pos ≠ k) → ∃ t, exec (.interpolatedMark τ) s = .next t
      ∧ { a with tracker := { a.tracker with marks := a.tracker.marks.tail } }.SettledTo t)
    ∧ (∀ r, s.findRecord (fun x => x.pos == k) = some r →
        let listed := fun st : Station => ∃ w ∈ r.witnesses, w.station = st
        let silenced := fun st : Station => ¬listed st
          ∧ ((st ∈ r.expected ∧ (s.peer st).state = .active ∧ im.kMiss ≤ (s.peer st).misses + 1)
            ∨ (st ∉ r.expected ∧ (im.witness.getD (r.cyl - 1) 0).testBit st.val = true ∧ (s.peer st).state = .rejoining))
        let accounted := fun st : Station =>
          let p := s.peer st
          if silenced st then { p with state := .silent, misses := 0, rejoinRun := 0 }
          else if listed st then
            if p.state = .active then { p with misses := 0 }
            else if p.state = .rejoining ∧ im.rejoinLen ≤ p.rejoinRun + 1 then
              { p with state := .active, misses := 0, rejoinRun := 0 }
            else if p.state = .rejoining then { p with rejoinRun := p.rejoinRun + 1 } else p
          else if st ∈ r.expected ∧ p.state = .active then { p with misses := min (p.misses + 1) 15 } else p
        let alone := (s.NoneReady ∧ ∀ st, ¬silenced st) ∨ ∀ x ∈ s.openRecords, x.cyl = r.cyl
        let withdraws := (s.faults.cls .peerSilent).severity = .withdrawing ∧ (s.faults.cls .peerSilent).mask = false
        ((∃ st, silenced st) → withdraws → s.node.state = .running →
          ∃ t, exec (.interpolatedMark τ) s = .next t
            ∧ t.node = { a.node with state := .withdrawn, probe := none, listen := none }
            ∧ (∀ x ∈ t.records, x = none) ∧ (∀ ch, t.chan ch = { a.chan ch with integrator := .idle })
            ∧ (∀ x ∈ t.link.queue, x.kind = .status ∨ x.kind = .log)
            ∧ (s.peers.length = 16 → ∀ st, t.peer st = accounted st)
            ∧ (s.cylinders.length = 8 → s.openRecords.Pairwise (fun x y => x.cyl ≠ y.cyl) →
                ∀ x ∈ s.openRecords, x.cyl ∈ allCylinders → x.cyl ≠ r.cyl →
                  t.cyl x.cyl = { s.cyl x.cyl with
                    aborts := min ((s.cyl x.cyl).aborts + 1) 255, counted := false }))
        ∧ (¬withdraws ∨ (s.NoneReady ∧ ∀ st, ¬silenced st) →
          s.link.queue.length < 12 ∨ s.link.Waits .verdict (some r.cyl) →
          ∃ t e mis kno, exec (.interpolatedMark τ) s = .next t
            ∧ (∀ x ∈ t.openRecords, x.cyl ≠ r.cyl)
            ∧ e ∈ t.link.queue ∧ e.kind = .verdict ∧ e.cyl = some r.cyl
            ∧ (let score := combinedScore r.usable
               let thr := im.threshold r.band r.loadBand r.antiLag
               let missing := ∃ st ∈ r.expected, ∀ w ∈ r.witnesses, w.station ≠ st
               e.payload = [byteOf (bitAt 7 r.deputy + bitAt 6 r.stale + bitAt 5 (decide missing) + r.cyl % 16),
                   byteOf (MisfirePart.code mis * 16 + KnockPart.code kno)]
                 ++ bytes16 score
                 ++ bytes16 (match r.loss with | some l => (BitVec.ofInt 16 l).toNat | none => 0x8000)
                 ++ [byteOf r.witnesses.length]
               ∧ (r.cut = true → mis = .intended)
               ∧ (r.cut = false → r.loss = none ∨ r.shock = true → mis = .unassessed)
               ∧ (∀ l, r.cut = false → r.loss = some l → r.shock = false →
                   mis = if (thr : Int) ≤ l then (if r.stale then .suspect else .misfire) else .fired)
               ∧ (mis = .intended ∨ mis = .misfire ∨ mis = .suspect → kno = .none)
               ∧ (mis = .fired ∨ mis = .unassessed → kno =
                   if r.learning then .learning
                   else if r.antiLag ∨ r.shock ∨ r.usable = [] then .unassessed
                   else if foreignTest im.foreign r.usable then .foreign
                   else if 2 * im.kthr ≤ score then .heavy else if im.kthr ≤ score then .light else .quiet))
            ∧ (∀ st, silenced st → ∀ x ∈ t.openRecords, st ∉ x.expected)
            ∧ (alone → s.peers.length = 16 → s.alert.sources.length = 8 →
                t.cylinders = (s.foldVerdict r.cyl { misfire := mis, knock := kno, score := combinedScore r.usable }
                  r.evidenceA r.evidenceB).cylinders
                ∧ (kno = .heavy → (t.alert.src .heavyKnock).latch = true)
                ∧ (kno ≠ .heavy → t.alert.src .heavyKnock = s.alert.src .heavyKnock)
                ∧ (∀ st, t.peer st = accounted st)
                ∧ (t.faults.cls .peerSilent).count
                    = min ((s.faults.cls .peerSilent).count + (allStations.filter (fun st => decide (silenced st))).length) 255
                ∧ (∀ st, silenced st → (s.peer st).state = .active → (s.peer st).expectedFor = true →
                    (t.alert.src .peerSilent).latch = true)
                ∧ t.records = s.records.map (fun o => o.filter (fun x => x.cyl != r.cyl)))
            ∧ t.tracker = { a.tracker with marks := a.tracker.marks.tail } ∧ t.node = a.node ∧ t.context = a.context
            ∧ t.estimator = s.estimator ∧ t.chanA = a.chanA ∧ t.chanB = a.chanB ∧ t.image = s.image))

/-! ## What the blocks compute (chapters 3 to 5) -/

/-- R44 to R49: the segment result of a history: no loss with a short history, in a transient, or outside 400 to 10,000 rpm,
the expected period and the loss by exact integer arithmetic otherwise, and the band by the number of edges reached. -/
def Obligations.SegmentResultFollowsTheHistory : Prop :=
  ∀ (im : Image) (depth t0 t1 t2 : Nat), 0 < im.n → 1 ≤ t0 → 1 ≤ t1 → 1 ≤ t2 →
    let res := ({ depth := depth, t0 := some t0, t1 := some t1, t2 := some t2 } : Estimator).result im
    let rpm := 2400000000 / (im.n * t1)
    let transient := t2 < (if t1 ≤ t2 then t2 - t1 else t1 - t2) * 16
    let expected : Int := 2 * (t1 : Int) - t2
    res.band = (im.edges.filter (fun e => decide (e ≤ rpm))).length
    ∧ (im.edges.length = 7 → res.band ≤ 7)
    ∧ (depth ≠ 3 ∨ transient ∨ rpm < 400 ∨ 10000 < rpm → res.loss = none)
    ∧ (depth = 3 → ¬transient → 400 ≤ rpm → rpm ≤ 10000 →
        1 ≤ expected ∧ 14 * (t1 : Int) ≤ 15 * expected ∧ 17 * expected ≤ 18 * (t1 : Int)
          ∧ ∃ l, res.loss = some l ∧ -4095 ≤ l ∧ l ≤ 32767
              ∧ l = min 32767 ((((t0 : Int) - expected) * 4096).tdiv expected)
              ∧ ((t0 : Int) = expected → l = 0) ∧ (l = 32767 ↔ 9 * expected * 4096 ≤ (t0 : Int) * 4096 + expected))
    ∧ ({ depth := 0, t0 := none, t1 := none, t2 := none } : Estimator).result im = { loss := none, band := 0 }
    ∧ ({ depth := 1, t0 := some t0, t1 := none, t2 := none } : Estimator).result im = { loss := none, band := 0 }
    ∧ ({ depth := 2, t0 := some t0, t1 := some t1, t2 := none } : Estimator).result im = { loss := none, band := res.band }

/-- R52. The misfire threshold, its limits, and what a stale record is judged against. -/
def Obligations.ThresholdScalesTheConfiguredLoss : Prop :=
  ∀ (s : State) (im : Image) (r : Record) (slot k c : Nat),
    let base := im.mthr.getD r.band 0
    let load := match r.loadBand with
      | some b => im.sLoad.getD b 0
      | none => 16
    let factor := if r.antiLag then im.antiLag else 16
    let thr := im.threshold r.band r.loadBand r.antiLag
    thr = min (base * load * factor / 256) 32767
    ∧ (load = 16 → factor = 16 → base ≤ 32767 → thr = base)
    ∧ (base ≤ 32767 → load ≤ 31 → factor ≤ 63 → base * load * factor ≤ 63993951)
    ∧ (∀ l, r.cut = false → r.shock = false → r.loss = some l →
        (base = 0 → 0 ≤ l → thr = 0 ∧ r.misfirePart im ≠ .fired)
          ∧ (l ≤ 32767 → thr = 32767 → r.misfirePart im ≠ .fired → l = 32767)
          ∧ (r.misfirePart im = .fired ↔ l < (thr : Int)))
    ∧ (s.context.stale = true → (s.newRecord slot k c).loadBand = none ∧ (s.newRecord slot k c).antiLag = false)
    ∧ (s.context.stale = false → (s.newRecord slot k c).loadBand = some s.context.current.loadBand)
    ∧ (im.mthr.getD r.band 0 ≤ 32767 → im.threshold r.band none false = base)

/-- R76, R77. The combined score is the weighted mean of the usable contributions, and each close reports it. The foreign
test compares the near contribution, of the smallest ratio among those of the largest weight, with the far one, of the
largest ratio among those of the smallest weight, and fails where there are not two weights to compare. -/
def Obligations.CombinedScoreIsTheWeightedMean : Prop :=
  ∀ (s : State) (r : Record),
    let heard := r.witnesses.filter (fun w => !w.learning)
    let cs := r.ownA.toList ++ r.ownB.toList ++ heard.map (fun w => { weight := w.weight, ratio := w.score : Contribution })
    let weights := (cs.map (fun c => c.weight)).sum
    let products := (cs.map (fun c => c.weight * c.ratio)).sum
    let score := (r.verdict s.params).score
    r.usable = cs
    ∧ (cs = [] → score = 0) ∧ (cs ≠ [] → score = products / weights)
    ∧ (∀ factor, cs.length < 2 → foreignTest factor cs = false)
    ∧ (∀ factor, ∀ near ∈ cs, ∀ far ∈ cs, (∀ x ∈ cs, far.weight ≤ x.weight ∧ x.weight ≤ near.weight) →
        (∀ x ∈ cs, x.weight = near.weight → near.ratio ≤ x.ratio) →
        (∀ x ∈ cs, x.weight = far.weight → x.ratio ≤ far.ratio) →
        foreignTest factor cs = decide (far.weight ≠ near.weight ∧ near.ratio * factor ≤ far.ratio * 16))
    ∧ ((∀ x ∈ r.ownA.toList ++ r.ownB.toList, 1 ≤ x.weight ∧ x.weight ≤ 15 ∧ x.ratio ≤ 1023) →
        (∀ w ∈ r.witnesses, 1 ≤ w.weight ∧ w.weight ≤ 30 ∧ w.score ≤ 1023) → r.witnesses.length ≤ 15 →
        weights ≤ 480 ∧ products ≤ 491040 ∧ score ≤ 1023
          ∧ (∀ hi, (∀ x ∈ cs, x.ratio ≤ hi) → score ≤ hi) ∧ (∀ lo, cs ≠ [] → (∀ x ∈ cs, lo ≤ x.ratio) → lo ≤ score))
    ∧ (s.link.QueueOk → s.link.queue.length < 12 ∨ s.link.Waits .verdict (some r.cyl) →
        ∃ e ∈ (s.closeRecord r).link.queue, e.kind = .verdict ∧ e.cyl = some r.cyl
          ∧ (e.payload.drop 2).take 2 = bytes16 score)

/-- R85, R86, R90, R91, R93. The fold of a verdict moves the misfire history with the dead flag, and the knock history, which
each TALLY reports through its knocking flag; it counts in the block where the firing was counted, and clears that flag; and
a QUIET or LEARNING knock part updates the reference of each channel whose weight is not 0 and whose energy is present. It
changes nothing else. -/
def Obligations.FoldKeepsTheHistories : Prop :=
  ∀ (s : State) (c : Nat) (v : Verdict) (evA evB : Option Evidence), c ∈ allCylinders → s.cylinders.length = 8 →
    let t := s.foldVerdict c v evA evB
    let e := s.cyl c
    let e' := t.cyl c
    let misfires := (e'.misfireHistory.filter (fun x => x == FireEntry.misfire)).length
    (v.misfire = .fired → e'.misfireHistory = (FireEntry.fired :: e.misfireHistory).take 8)
    ∧ (v.misfire = .misfire → e'.misfireHistory = (FireEntry.misfire :: e.misfireHistory).take 8)
    ∧ (v.misfire = .fired ∨ v.misfire = .misfire →
        (e'.misfireHistory.length = 8 ∧ 6 ≤ misfires → e'.dead = true)
          ∧ (misfires ≤ 1 → e'.dead = false)
          ∧ (¬(e'.misfireHistory.length = 8 ∧ 6 ≤ misfires) → ¬misfires ≤ 1 → e'.dead = e.dead))
    ∧ (v.misfire = .intended ∨ v.misfire = .suspect ∨ v.misfire = .unassessed →
        e'.misfireHistory = e.misfireHistory ∧ e'.dead = e.dead)
    ∧ (e.dead = false → e'.dead = true → t = { s with cylinders := t.cylinders }.raise .deadCylinder)
    ∧ (¬(e.dead = false ∧ e'.dead = true) → t = { s with cylinders := t.cylinders })
    ∧ (v.knock = .quiet → e'.knockHistory = some .quiet)
    ∧ (v.knock = .light ∨ v.knock = .heavy → e'.knockHistory = some .knock)
    ∧ (v.knock = .foreign ∨ v.knock = .learning ∨ v.knock = .unassessed ∨ v.knock = .none →
        e'.knockHistory = e.knockHistory)
    ∧ (∀ im, ((e'.tallyReport im c).getD 7 0).getLsbD 6 = decide (e'.knockHistory = some .knock))
    ∧ e'.counted = false
    ∧ (let b := e.block
       let knocks := v.knock = .light ∨ v.knock = .heavy
       e'.block = if e.counted = false then b
         else if v.misfire = .fired then
           { b with assessed := b.assessed + 1, knocks := if knocks then b.knocks + 1 else b.knocks }
         else if v.misfire = .misfire then { b with assessed := b.assessed + 1, misfires := b.misfires + 1 }
         else if v.misfire = .suspect then { b with suspects := b.suspects + 1 } else b)
    ∧ (let im := s.params
       let energy := fun ev : Option Evidence => if v.knock = .quiet ∨ v.knock = .learning then
         ev.bind (fun x => if x.weight = 0 then none else x.energy) else none
       let moved := fun (ref count energy : Nat) => if count = 0 then max 16 (energy * 16)
         else max 16 ((ref : Int) + ((energy * 16 : Nat) - (ref : Int)).tdiv
           (if count < im.learnLen then 2 else 2 ^ im.shift)).toNat
       (e'.refA, e'.learnA) = (match energy evA with
         | some x => (moved e.refA e.learnA x, min (e.learnA + 1) im.learnLen)
         | none => (e.refA, e.learnA))
       ∧ (e'.refB, e'.learnB) = (match energy evB with
         | some x => (moved e.refB e.learnB x, min (e.learnB + 1) im.learnLen)
         | none => (e.refB, e.learnB)))
    ∧ e' = { e with
        misfireHistory := e'.misfireHistory, dead := e'.dead, knockHistory := e'.knockHistory, block := e'.block,
        counted := false, refA := e'.refA, refB := e'.refB, learnA := e'.learnA, learnB := e'.learnB }
    ∧ (∀ c' ∈ allCylinders, c' ≠ c → t.cyl c' = s.cyl c')

/-- R92, R94, R95, R96. A block end judges the two alarms, queues a TALLY of the ended block with the alarms as judged, and
clears the counters and the counted firing flag; it changes nothing else of the Cylinder Table. -/
def Obligations.BlockEndJudgesTheAlarms : Prop :=
  ∀ (s : State) (c : Nat), c ∈ allCylinders → s.cylinders.length = 8 → s.alert.sources.length = 8 →
    let im := s.params
    let t := s.endBlock c
    let e := s.cyl c
    let e' := t.cyl c
    let b := e.block
    let thin := b.assessed < im.blockLen / 4
    let rate := b.misfires * 1000 / b.assessed
    let run := e.clearRun + 1
    (thin → e'.misfireAlarm = e.misfireAlarm ∧ e'.clearRun = e.clearRun ∧ e'.knockAlarm = e.knockAlarm)
    ∧ (¬thin → im.rateLimit ≤ rate → e'.misfireAlarm = true ∧ e'.clearRun = 0)
    ∧ (¬thin → ¬im.rateLimit ≤ rate → rate < im.rateLimit / 2 →
        (im.clearCount ≤ run → e'.misfireAlarm = false ∧ e'.clearRun = 0)
          ∧ (¬im.clearCount ≤ run → e'.misfireAlarm = e.misfireAlarm ∧ e'.clearRun = run))
    ∧ (¬thin → ¬im.rateLimit ≤ rate → ¬rate < im.rateLimit / 2 → e'.misfireAlarm = e.misfireAlarm ∧ e'.clearRun = 0)
    ∧ (¬thin → im.knockLimit ≤ b.knocks → e'.knockAlarm = true)
    ∧ (¬thin → ¬im.knockLimit ≤ b.knocks → b.knocks < im.knockLimit / 2 → e'.knockAlarm = false)
    ∧ (¬thin → ¬im.knockLimit ≤ b.knocks → ¬b.knocks < im.knockLimit / 2 → e'.knockAlarm = e.knockAlarm)
    ∧ (let misfireRaise := e.misfireAlarm = false ∧ e'.misfireAlarm = true
       let knockRaise := e.knockAlarm = false ∧ e'.knockAlarm = true
       (misfireRaise → (t.alert.src .misfireAlarm).latch = true
           ∧ (t.alert.src .misfireAlarm).latest = s.alert.raiseSeq + 1)
       ∧ (knockRaise → (t.alert.src .knockAlarm).latch = true)
       ∧ (¬misfireRaise → t.alert.src .misfireAlarm = s.alert.src .misfireAlarm)
       ∧ (¬knockRaise → t.alert.src .knockAlarm = s.alert.src .knockAlarm)
       ∧ (misfireRaise → knockRaise →
           let ahead := ((t.alert.src .knockAlarm).latest - (t.alert.src .misfireAlarm).latest).toNat
           1 ≤ ahead ∧ ahead ≤ 2))
    ∧ (16 ≤ im.blockLen → b.assessed = 0 → thin)
    ∧ (im.rateLimit = 1 → e.misfireAlarm = true → e'.misfireAlarm = true)
    ∧ (im.knockLimit = 1 → e.knockAlarm = true → e'.knockAlarm = true)
    ∧ e' = { e with
        misfireAlarm := e'.misfireAlarm, knockAlarm := e'.knockAlarm, clearRun := e'.clearRun, counted := false,
        block := { assessed := 0, misfires := 0, knocks := 0, suspects := 0, cycles := 0 } }
    ∧ (∀ c' ∈ allCylinders, c' ≠ c → t.cyl c' = s.cyl c')
    ∧ (s.link.QueueOk → s.link.queue.length < 12 ∨ s.link.Waits .tally (some c) →
        ∃ x ∈ t.link.queue, x.kind = .tally ∧ x.cyl = some c
          ∧ x.payload = [byteOf c] ++ bytes16 b.assessed ++ bytes16 b.misfires ++ bytes16 b.knocks
            ++ [byteOf ((if e'.misfireAlarm then 1 else 0) + (if e'.knockAlarm then 2 else 0) + (if e.dead then 4 else 0)
                + (if thin then 8 else 0) + (if 1 ≤ b.suspects then 16 else 0) + (if 1 ≤ e.aborts then 32 else 0)
                + (if e.knockHistory = some .knock then 64 else 0))])

/-! ## Knock channel inputs (chapter 2) -/

/-- R27, R28, R30, R36: a sample of a running integration is summed and counted, clipped at 262,143; an envelope above the
peak of an ENABLED channel becomes the peak; the input's level sets and clears the open-fault flag of an ENABLED channel
with its timer, but that a fall after the timer has run out clears neither; and the timer's end, not before, disables the
channel with one SENSOR_OPEN. (An expiry is a command, the input's level moves in every channel state, and a fall at the
very tick of the timer's end comes after it: DESIGN CHOICE, log entries 2, 3 and 30.) -/
def Obligations.KnockInputsMoveOneChannel : Prop :=
  ∀ (s : State) (τ : Tick) (ch : Chan) (magnitude : BitVec 11) (envelope : BitVec 16), s.FaultsOk →
    let a := s.advance τ
    let c := a.chan ch
    ((c.integrator = .idle → ∃ t, exec (.knockSample τ ch magnitude) s = .next t ∧ a.SettledTo t)
      ∧ (∀ pos cyl opened sum n clipped, c.integrator = .running pos cyl opened sum n clipped →
          (opened = τ → ∃ t, exec (.knockSample τ ch magnitude) s = .next t ∧ a.SettledTo t)
          ∧ (opened ≠ τ → ∃ t, exec (.knockSample τ ch magnitude) s = .next t
              ∧ (a.onChan ch (fun x => { x with
                  integrator := .running pos cyl opened
                    (if clipped then sum else min (sum + magnitude.toNat) 262143) (n + 1)
                    (clipped || decide (262143 < sum + magnitude.toNat)) })).SettledTo t)))
    ∧ (∃ t, exec (.envelopeExceedsShockPeak τ ch envelope) s = .next t
        ∧ (a.onChan ch (fun x => { x with
            shockPeak := if c.state = .enabled then max c.shockPeak envelope.toNat else c.shockPeak })).SettledTo t)
    ∧ (∃ t, exec (.biasAboveThreshold τ ch) s = .next t
        ∧ (a.onChan ch (fun x => { x with
            levelAbove := some (c.levelAbove.getD 0),
            openFault := if c.state = .enabled then true else c.openFault,
            qualification := if c.state = .enabled ∧ c.openFault = false then some 20000 else c.qualification })).SettledTo t)
    ∧ (∃ t, exec (.biasBelowThreshold τ ch) s = .next t
        ∧ (a.onChan ch (fun x => { x with
            levelAbove := none,
            openFault := if c.state = .enabled ∧ c.qualification ≠ some 0 then false else c.openFault,
            qualification := if c.state = .enabled ∧ c.qualification ≠ some 0 then none else c.qualification })).SettledTo t)
    ∧ (c.state = .enabled → c.qualification = some 0 → ∃ t, exec (.qualificationExpiry τ ch) s = .next t
        ∧ t.body = (a.onChan ch (fun x => { x with
            state := .disabled, openFault := true, qualification := none, integrator := .idle, shockPeak := 0 })).body
        ∧ FaultUnit.Took { cls := .sensorOpen, cycle := s.tracker.cycleCount, angle := a.tracker.faultAngle,
                           station := none, kind := none, cyl := none } s.faults t.faults)
    ∧ (c.state ≠ .enabled ∨ c.qualification ≠ some 0 → ∃ t, exec (.qualificationExpiry τ ch) s = .next t ∧ a.SettledTo t)

/-! ## Received frames (chapters 4, 6, 7 and 8) -/

/-- R136, R137, R143, R144: a rejected frame that the receiver took up is judged by its first failing check. A failure of
check 1 or 2 is passed only in LOCKED and counts as a failing frame, of which eight lose the rate; a failure of check 3 is
always passed, and is a good frame unless its length ended it. A frame is truncated by a missing start cell after its header
or a later character, or by a dominant stop cell; the occurrence carries the header's station and kind unless it was the
header's own stop cell. (The frame's characters and ending come with the command: DESIGN CHOICE, log entry 11; an ending
that the characters contradict is judged truncated: DESIGN CHOICE, log entry 19.) -/
def Obligations.RejectedFrameIsJudged : Prop :=
  ∀ (s : State) (τ : Tick) (header len : Byte) (rest : List Byte), s.FaultsOk → s.node.state ≠ .loading →
    s.link.takesFrame = true →
    let a := s.advance τ
    let chars := header :: len :: rest
    let passed := fun cls => ({
      cls := cls, cycle := s.tracker.cycleCount, angle := a.tracker.faultAngle,
      station := some (Fin.ofNat 16 header.toNat), kind := some (header.toNat / 16), cyl := none } : Occurrence)
    let whole := len.toNat ≤ 8 ∧ rest.length = len.toNat + 1
    let checks := crc8 (chars.dropLast) = rest.getLastD 0
    let known := ∃ k, kindOfCode (header.toNat / 16) = some k ∧ len.toNat = k.payloadLen
    (∀ ending, 8 < len.toNat → (ending = .stopCellDominant → rest ≠ []) →
      ∃ t, exec (.frameRejected τ chars ending) s = .next t
        ∧ FaultUnit.Took (passed .malformed) s.faults t.faults
        ∧ t.link.receiver = .discarding ∧ t.link.acq = s.link.acq ∧ t.link.failures = s.link.failures
        ∧ t.link.confirms = s.link.confirms ∧ t.link.dwell = a.link.dwell)
    ∧ (whole → ¬checks → s.link.acq = some .locked → s.link.failures < 7 →
        ∃ t, exec (.frameRejected τ chars .complete) s = .next t
          ∧ FaultUnit.Took (passed .check) s.faults t.faults
          ∧ t.link.receiver = .idle ∧ t.link.acq = some .locked ∧ t.link.failures = s.link.failures + 1
          ∧ t.link.rate = s.link.rate ∧ t.node = a.node)
    ∧ (whole → ¬checks → s.link.acq = some .locked → s.link.failures = 7 →
        ∃ t, exec (.frameRejected τ chars .complete) s = .next t
          ∧ t.faults.cls .check = (s.faults.cls .check).counted 1
          ∧ t.faults.cls .rateLost = (s.faults.cls .rateLost).counted 1
          ∧ t.link.receiver = .idle ∧ t.link.failures = 0
          ∧ (s.link.mode = some .acquire → t.link.acq = some .hunt ∧ t.link.rate = s.link.rate.map Rate.next
              ∧ t.link.rounds = 0 ∧ t.link.dwell = some 400000 ∧ t.node = { a.node with listen := none })
          ∧ (s.link.mode ≠ some .acquire → t.link.acq = some .locked ∧ t.link.rate = s.link.rate ∧ t.node = a.node))
    ∧ (whole → ¬checks → s.link.acq = some .confirm →
        ∃ t, exec (.frameRejected τ chars .complete) s = .next t
          ∧ t.faults.cls .check = s.faults.cls .check
          ∧ t.link.receiver = .idle ∧ t.link.acq = some .hunt ∧ t.link.rate = s.link.rate.map Rate.next
          ∧ t.link.confirms = 0 ∧ t.link.rounds = s.link.rounds ∧ t.link.dwell = some 400000)
    ∧ (whole → ¬checks → s.link.acq = some .hunt →
        ∃ t, exec (.frameRejected τ chars .complete) s = .next t
          ∧ (a.frameRead (endedCells chars .complete) .idle).SettledTo t)
    ∧ (∀ x ∈ [(chars, FrameEnd.startCellMissing, true), (chars, .stopCellDominant, true),
          ([header], .startCellMissing, true), ([header], .stopCellDominant, false)],
        len.toNat ≤ 8 ∨ x.1 = [header] ∨ (rest = [] ∧ x.2.1 = .stopCellDominant) →
        (s.link.acq = some .locked → s.link.failures < 7 → ∃ t, exec (.frameRejected τ x.1 x.2.1) s = .next t
          ∧ FaultUnit.Took (if x.2.2 then passed .malformed else { passed .malformed with station := none, kind := none })
              s.faults t.faults
          ∧ t.link.receiver = .discarding ∧ t.link.failures = s.link.failures + 1 ∧ t.link.acq = some .locked)
        ∧ (s.link.acq = some .hunt → ∃ t, exec (.frameRejected τ x.1 x.2.1) s = .next t
          ∧ (a.frameRead (endedCells x.1 x.2.1) .discarding).SettledTo t)
        ∧ (s.link.acq = some .confirm → ∃ t, exec (.frameRejected τ x.1 x.2.1) s = .next t
          ∧ t.faults.cls .malformed = s.faults.cls .malformed
          ∧ t.link.receiver = .discarding ∧ t.link.acq = some .hunt ∧ t.link.rate = s.link.rate.map Rate.next
          ∧ t.link.confirms = 0 ∧ t.link.rounds = s.link.rounds ∧ t.link.dwell = some 400000)
        ∧ (s.link.acq = some .locked → s.link.failures = 7 → ∃ t, exec (.frameRejected τ x.1 x.2.1) s = .next t
          ∧ t.faults.cls .malformed = (s.faults.cls .malformed).counted 1
          ∧ t.faults.cls .rateLost = (s.faults.cls .rateLost).counted 1
          ∧ t.link.receiver = .discarding ∧ t.link.failures = 0
          ∧ (s.link.mode = some .acquire → t.link.acq = some .hunt ∧ t.link.rate = s.link.rate.map Rate.next
              ∧ t.link.rounds = 0 ∧ t.link.dwell = some 400000 ∧ t.node = { a.node with listen := none })
          ∧ (s.link.mode ≠ some .acquire → t.link.acq = some .locked ∧ t.link.rate = s.link.rate ∧ t.node = a.node)))
    ∧ (whole → checks → ¬known → s.link.acq = some .locked →
        ∃ t, exec (.frameRejected τ chars .complete) s = .next t
          ∧ FaultUnit.Took (passed .malformed) s.faults t.faults
          ∧ t.link.receiver = .idle ∧ t.link.acq = some .locked ∧ t.link.failures = 0 ∧ t.link.rate = s.link.rate
          ∧ t.peers = s.peers)
    ∧ (whole → checks → ¬known → s.link.acq = some .hunt →
        ∃ t, exec (.frameRejected τ chars .complete) s = .next t
          ∧ FaultUnit.Took (passed .malformed) s.faults t.faults
          ∧ t.link.receiver = .idle ∧ t.link.acq = some .confirm ∧ t.link.confirms = 0 ∧ t.link.rounds = 0
          ∧ t.link.rate = s.link.rate ∧ t.link.dwell = some 400000 ∧ t.peers = s.peers)
    ∧ (whole → checks → ¬known → s.link.acq = some .confirm →
        ∃ t, exec (.frameRejected τ chars .complete) s = .next t
          ∧ FaultUnit.Took (passed .malformed) s.faults t.faults ∧ t.link.receiver = .idle
          ∧ (3 ≤ s.link.confirms + 1 → t.link.acq = some .locked ∧ t.link.confirms = 0 ∧ t.link.dwell = none)
          ∧ (s.link.confirms + 1 < 3 → t.link.acq = some .confirm ∧ t.link.confirms = s.link.confirms + 1
              ∧ t.link.dwell = some 400000))

/-- R105, R133, R136, R138, R142, R144, R151, R167: a valid frame with the node's own station number is a CLASH and goes to
no block, and a withdrawing one takes a RUNNING node to WITHDRAWN; one of another station is a good frame that the Peer
Table takes for liveness, and a TALLY, STATUS or LOG does nothing else. A frame is taken by a receiver that is ASSEMBLING it
or is IDLE after the gap; one that is DISCARDING, or IDLE before the gap, takes no frame of any kind: its cells are counted
and it is then DISCARDING. In LOADING no frame is read, and while the node's own frame is under way none is taken. (The
sender is heard before the block of the frame's kind acts, DEDUCED, log entry 10; the frame's cells are read as a whole,
DESIGN CHOICE, log entry 11; a frame command that its state cannot meet changes only the time, DESIGN CHOICE, log entry
19; a frame that starts before the node's own gap has ended is not taken, DESIGN CHOICE, log entry 32.) -/
def Obligations.ValidFrameIsAClashOrIsHeard : Prop :=
  ∀ (s : State) (τ : Tick) (st : Station) (k : Kind) (pk : PassiveKind) (own : List Byte) (payload : BitVec 64),
    s.FaultsOk →
    let a := s.advance τ
    let taken := s.link.transmitter = .idle
      ∧ (s.link.receiver = .assembling ∨ (s.link.receiver = .idle ∧ 11 ≤ s.link.recessiveRun))
    let clashed := (a.frameRead (frameCells (frameChars k s.station own)) .idle).goodFrame
    (s.link.takesFrame = true ↔ taken)
    ∧ (s.node.state ≠ .loading → taken → ∃ t, exec (.ownStationFrame τ k own) s = .next t
      ∧ FaultUnit.Took { cls := .clash, cycle := s.tracker.cycleCount, angle := a.tracker.faultAngle,
                         station := some s.station, kind := some k.code, cyl := none } s.faults t.faults
      ∧ t.peers = s.peers ∧ t.context = a.context ∧ t.tracker = a.tracker ∧ t.estimator = s.estimator
      ∧ ((s.faults.cls .clash).severity ≠ .withdrawing ∨ (s.faults.cls .clash).mask = true → t.body = clashed.body)
      ∧ ((s.faults.cls .clash).severity = .withdrawing → (s.faults.cls .clash).mask = false →
          s.node.state = .running → t.node = { clashed.node with state := .withdrawn, probe := none, listen := none }
            ∧ (∀ r ∈ t.records, r = none) ∧ (∀ ch, t.chan ch = { a.chan ch with integrator := .idle })
            ∧ (∀ e ∈ t.link.queue, e.kind = .status ∨ e.kind = .log)))
    ∧ (s.Hears st → ∃ t, exec (.peerReportReceived τ st pk payload) s = .next t
        ∧ (a.heardFrame pk.kind st (payloadBytes payload)).SettledTo t
        ∧ t.link.receiver = .idle ∧ (s.link.acq = some .locked → t.link.failures = 0 ∧ t.link.acq = some .locked)
        ∧ (∀ st', st' ≠ st → t.peer st' = s.peer st')
        ∧ (s.node.state = .unconfigured → t.peers = s.peers)
        ∧ (s.node.state.configured = true → s.peers.length = 16 →
            let p := s.peer st
            t.peer st = match p.state with
              | .unknown => { p with lastHeard := some τ, state := .active, misses := 0 }
              | .active => { p with lastHeard := some τ }
              | .silent => { p with lastHeard := some τ, state := .rejoining, rejoinRun := 0 }
              | .rejoining =>
                if pk = .status ∧ p.expectedFor = false then
                  { p with lastHeard := some τ, state := .active, misses := 0, rejoinRun := 0 }
                else { p with lastHeard := some τ }))
    ∧ (∀ (c : Instr) (cells : List Bool), c.instant = τ → reportedCells s.station c = some cells → ¬taken →
        s.node.state ≠ .loading → s.link.transmitter = .idle → ∃ t, exec c s = .next t
          ∧ { a with link := { a.link.readCells cells with receiver := .discarding } }.SettledTo t)
    ∧ (∀ (c : Instr) (cells : List Bool), c.instant = τ → reportedCells s.station c = some cells →
        s.node.state = .loading ∨ s.link.transmitter ≠ .idle → ∃ t, exec c s = .next t ∧ a.SettledTo t)

/-- R122, R126, R129: a PHASE of the engine manager becomes the pending context, and any other changes nothing in the
Context Unit. A JOLT whose hold is not 0 extends the shock hold by its hold, held at 2000 ms, and the onset marks
every open record. (The sender is heard before the block of the frame's kind acts, DEDUCED, log entry 10, and the
frame's cells are read as a whole, DESIGN CHOICE, log entry 11.) -/
def Obligations.ContextUnitTakesPhaseAndJolt : Prop :=
  ∀ (s : State) (τ : Tick) (st : Station) (cutMask flags : Byte) (peak hold : BitVec 16), s.withdrawDue = false →
    s.Hears st →
    let a := s.advance τ
    let hp := a.heardFrame .phase st [cutMask, flags]
    let hj := a.heardFrame .jolt st (bytesOfWord peak ++ bytesOfWord hold)
    let d := min hold.toNat 2000 * 20000
    let extended := { hj with context := { hj.context with hold := some { left := d, cause := .station st } } }
    (s.node.state.configured = true → s.params.manager = st.val → ∃ t, exec (.phaseReceived τ st cutMask flags) s = .next t
        ∧ { hp with context := { hp.context with
            pendingCtx := some {
              cutMask := cutMask, antiLag := flags.getLsbD 7, loadBand := flags.toNat % 4 } } }.SettledTo t)
    ∧ (s.node.state.configured = false ∨ s.params.manager ≠ st.val →
        ∃ t, exec (.phaseReceived τ st cutMask flags) s = .next t ∧ hp.SettledTo t)
    ∧ (s.node.state.configured = false ∨ hold = 0 → ∃ t, exec (.joltReceived τ st peak hold) s = .next t ∧ hj.SettledTo t)
    ∧ (s.node.state.configured = true → hold ≠ 0 → a.context.hold = none →
        ∃ t, exec (.joltReceived τ st peak hold) s = .next t
          ∧ { extended with records := s.records.map (Option.map (fun r : Record => { r with shock := true })) }.SettledTo t)
    ∧ (∀ x, s.node.state.configured = true → hold ≠ 0 → a.context.hold = some x →
        ∃ t, exec (.joltReceived τ st peak hold) s = .next t ∧ (if x.left < d then extended else hj).SettledTo t)

/-- R64, R65, R66, R110, R167: a WITNESS out of range is MALFORMED; one that is not to be judged is passed over; one
that finds no record, or a record whose window is not taken, is late; one from a station already in the list is
MALFORMED; any other is appended, and closes the record when it makes it complete. (The sender is heard before the
block of the frame's kind acts, DEDUCED, log entry 10, and the frame's cells are read as a whole, DESIGN CHOICE, log
entry 11.) -/
def Obligations.WitnessIsPlaced : Prop :=
  ∀ (s : State) (τ : Tick) (st : Station) (cyl : Byte) (score : BitVec 16) (flags : Byte), s.FaultsOk → s.Hears st →
    let a := s.advance τ
    let c := cyl.toNat
    let weight := flags.toNat % 32
    let h := a.heardFrame .witness st (cyl :: bytesOfWord score ++ [flags])
    let inRange := (1 ≤ c ∧ c ≤ 8) ∧ score.toNat ≤ 1023 ∧ 1 ≤ weight ∧ weight ≤ 30
    let judged := s.node.state = .running ∧ s.tracker.sync = .phased ∧ s.tracker.warmUp = s.params.warmUp
      ∧ ((s.cyl c).role = .owner ∨ (s.cyl c).role = .deputyActive)
    let passed := fun cls cyl => ({
      cls := cls, cycle := s.tracker.cycleCount, angle := a.tracker.faultAngle, station := some st, kind := some 3,
      cyl := cyl } : Occurrence)
    let entry : WitnessEntry := { station := st, score := score.toNat, weight := weight, learning := flags.getLsbD 7 }
    (s.node.state = .unconfigured ∨ (inRange ∧ ¬judged) →
      ∃ t, exec (.witnessReceived τ st cyl score flags) s = .next t ∧ h.SettledTo t)
    ∧ (s.node.state.configured = true → ¬inRange → ∃ t, exec (.witnessReceived τ st cyl score flags) s = .next t
        ∧ FaultUnit.Took (passed .malformed (if 1 ≤ c ∧ c ≤ 8 then some c else none)) s.faults t.faults
        ∧ t.body = h.body)
    ∧ (inRange → judged → (∀ r, s.recordOf c = some r → r.windowTaken = false) →
        ∃ t, exec (.witnessReceived τ st cyl score flags) s = .next t
          ∧ FaultUnit.Took (passed .lateWitness (some c)) s.faults t.faults
          ∧ t.records = s.records ∧ t.cylinders = s.cylinders
          ∧ (s.peers.length = 16 → t.peer st = { h.peer st with
              rejoinRun := if (h.peer st).state = .rejoining then 0 else (h.peer st).rejoinRun }))
    ∧ (∀ r, inRange → judged → s.recordOf c = some r → r.windowTaken = true →
        ((∃ w ∈ r.witnesses, w.station = st) → ∃ t, exec (.witnessReceived τ st cyl score flags) s = .next t
          ∧ FaultUnit.Took (passed .malformed (some c)) s.faults t.faults ∧ t.body = h.body)
        ∧ ((∀ w ∈ r.witnesses, w.station ≠ st) → s.NoneReady →
            let covered := ∀ x ∈ r.expected, x = st ∨ ∃ w ∈ r.witnesses, w.station = x
            (r.state = .gathering ∨ ¬covered → ∃ t, exec (.witnessReceived τ st cyl score flags) s = .next t
              ∧ t.recordOf c = some { r with witnesses := r.witnesses ++ [entry] }
              ∧ t.cylinders = s.cylinders ∧ t.peers = h.peers)
            ∧ (r.state = .waiting → covered → ∃ t, exec (.witnessReceived τ st cyl score flags) s = .next t
                ∧ t.recordOf c = none)))

/-- R72, R99, R114, R115, R116: a VERDICT for a cylinder sets its heard flag and its silence counter to 0. For a
cylinder the node judges it passes OWNERSHIP_CONFLICT, and yields the cylinder to its configured owner, or to a lower
station where the node is not the owner. (The sender is heard before the block of the frame's kind acts, DEDUCED, log
entry 10, and the frame's cells are read as a whole, DESIGN CHOICE, log entry 11.) -/
def Obligations.VerdictIsHeardAndResolved : Prop :=
  ∀ (s : State) (τ : Tick) (st : Station) (b0 b1 : Byte) (score loss : BitVec 16) (count : Byte), s.FaultsOk →
    s.Hears st →
    let im := s.params
    let a := s.advance τ
    let c := b0.toNat % 16
    let e := s.cyl c
    let h := a.heardFrame .verdict st (b0 :: b1 :: bytesOfWord score ++ bytesOfWord loss ++ [count])
    let heard := { h with cylinders := h.cylinders.modify (c - 1) (fun x => { x with heard := true, silence := 0 }) }
    let owner := im.owner.getD (c - 1) 255
    let judged := e.role = .owner ∨ e.role = .deputyActive
    let yields := owner = st.val ∨ (owner ≠ s.station.val ∧ st.val < s.station.val)
    let conflict : Occurrence := {
      cls := .ownershipConflict, cycle := s.tracker.cycleCount, angle := a.tracker.faultAngle, station := some st,
      kind := some 4, cyl := some c }
    (s.node.state = .unconfigured → ∃ t, exec (.verdictReceived τ st b0 b1 score loss count) s = .next t ∧ h.SettledTo t)
    ∧ (s.node.state.configured = true → c = 0 ∨ 8 < c →
        ∃ t, exec (.verdictReceived τ st b0 b1 score loss count) s = .next t ∧ t.body = h.body
          ∧ FaultUnit.Took { conflict with cls := .malformed, cyl := none } s.faults t.faults)
    ∧ (s.node.state.configured = true → 1 ≤ c → c ≤ 8 → ¬judged →
        ∃ t, exec (.verdictReceived τ st b0 b1 score loss count) s = .next t ∧ heard.SettledTo t)
    ∧ (s.node.state.configured = true → 1 ≤ c → c ≤ 8 → judged → ¬yields →
        ∃ t, exec (.verdictReceived τ st b0 b1 score loss count) s = .next t ∧ t.body = heard.body
          ∧ FaultUnit.Took conflict s.faults t.faults)
    ∧ (s.node.state.configured = true → 1 ≤ c → c ≤ 8 → judged → yields → s.cylinders.length = 8 →
        s.alert.sources.length = 8 →
        ∃ t, exec (.verdictReceived τ st b0 b1 score loss count) s = .next t
          ∧ FaultUnit.Took conflict s.faults t.faults
          ∧ t.recordOf c = none
          ∧ t.cyl c = { e with
              heard := true, silence := 0, role := .deputyStandby,
              block := { assessed := 0, misfires := 0, knocks := 0, suspects := 0, cycles := 0 }, counted := false,
              misfireAlarm := false, knockAlarm := false, dead := false, clearRun := 0,
              aborts := if (s.recordOf c).isSome then min (e.aborts + 1) 255 else e.aborts }
          ∧ (∀ c' ∈ allCylinders, c' ≠ c → t.cyl c' = s.cyl c')
          ∧ (∀ x ∈ t.link.queue, ¬(x.kind = .verdict ∧ x.cyl = some c))
          ∧ (t.alert.src .ownershipChange).latch = true
          ∧ t.peers = h.peers ∧ t.node = h.node ∧ t.tracker = a.tracker ∧ t.context = a.context)

/-! ## Orders (chapters 5, 9 and 10) -/

/-- R163: an order that names another station is ignored; one from a station outside the order-source mask is REFUSED;
an unknown code is MALFORMED; and one not accepted in the node state is ignored. The frame is taken for liveness
first. (The sender is heard before the block of the frame's kind acts, DEDUCED, log entry 10, and the frame's cells
are read as a whole, DESIGN CHOICE, log entry 11.) -/
def Obligations.OrdersAreJudgedInFourSteps : Prop :=
  ∀ (s : State) (τ : Tick) (st : Station) (o : OrderCode) (target code a1 a2 : Byte), s.FaultsOk → s.Hears st →
    let a := s.advance τ
    let n := s.node.state
    let named := target.toNat = s.station.val ∨ target.toNat = 255
    let permitted := n = .unconfigured ∨ s.params.orderMask.testBit st.val = true
    let accepted := match o with
      | .serve => n ≠ .unconfigured
      | .clearCounts => n = .running ∨ n = .hold
      | .relearn => n = .running ∨ n = .hold
      | .clearFaults => True
      | .hold => n = .running
      | .resume => n = .hold
      | .restart => n ≠ .unconfigured
      | .report => True
    let h := a.heardFrame .order st (o.payload target a1 a2)
    let h' := a.heardFrame .order st [target, code, a1, a2]
    let passed := fun cls => ({
      cls := cls, cycle := s.tracker.cycleCount, angle := a.tracker.faultAngle, station := some st, kind := some 5,
      cyl := none } : Occurrence)
    (¬named ∨ (permitted ∧ ¬accepted) → ∃ t, exec (o.command τ st target a1 a2) s = .next t ∧ h.SettledTo t)
    ∧ (named → ¬permitted → ∃ t, exec (o.command τ st target a1 a2) s = .next t ∧ t.body = h.body
        ∧ FaultUnit.Took (passed .refused) s.faults t.faults)
    ∧ (named → permitted → code.toNat = 0 ∨ 8 < code.toNat →
        ∃ t, exec (.orderUnknownCode τ st target code a1 a2) s = .next t ∧ t.body = h'.body
          ∧ FaultUnit.Took (passed .malformed) s.faults t.faults)
    ∧ (named → ¬permitted → ∃ t, exec (.orderUnknownCode τ st target code a1 a2) s = .next t ∧ t.body = h'.body
        ∧ FaultUnit.Took (passed .refused) s.faults t.faults)
    ∧ (¬named → ∃ t, exec (.orderUnknownCode τ st target code a1 a2) s = .next t ∧ h'.SettledTo t)

/-- R156, R157: SERVE clears the latch of each source in its set whose latest raise its sequence covers, and sends an
ASSERTED line to HOLDOFF with the timer at the configured hold-off; it moves nothing else of the Alert Unit. (The
sender is heard before the block of the frame's kind acts, DEDUCED, log entry 10, and the frame's cells are read as a
whole, DESIGN CHOICE, log entry 11.) -/
def Obligations.ServeClearsWhatItsSequenceCovers : Prop :=
  ∀ (s : State) (τ : Tick) (st : Station) (target seq set : Byte), s.withdrawDue = false → s.Hears st →
    s.Commanded st target → s.node.state.configured = true →
    let a := s.advance τ
    ∃ t served, exec (.orderServe τ st target seq set) s = .next t
      ∧ { a.heardFrame .order st (OrderCode.serve.payload target seq set) with alert := served }.SettledTo t
      ∧ (∀ x ∈ allSources, served.src x = { a.alert.src x with
          latch := (a.alert.src x).latch
            && !(set.getLsbD x.index && decide ((seq - (a.alert.src x).latest).toNat < 128)) })
      ∧ served.raiseSeq = s.alert.raiseSeq
      ∧ (s.alert.line = .asserted → served.line = .holdoff ∧ served.holdOff = some (s.params.holdOff * 10000))
      ∧ (s.alert.line ≠ .asserted → served.line = s.alert.line ∧ served.holdOff = a.alert.holdOff)

/-- R69, R88, R98: CLEAR COUNTS returns the statistics of the masked cylinders to their power-on values; RELEARN their
references and learning counts, and marks their open records whose window has been taken. (The sender is heard before
the block of the frame's kind acts, DEDUCED, log entry 10, and the frame's cells are read as a whole, DESIGN CHOICE,
log entry 11.) -/
def Obligations.ClearCountsAndRelearnActOnTheMask : Prop :=
  ∀ (s : State) (τ : Tick) (st : Station) (target mask a2 : Byte), s.withdrawDue = false → s.Hears st →
    s.Commanded st target → s.node.state = .running ∨ s.node.state = .hold → s.cylinders.length = 8 →
    let a := s.advance τ
    let hc := a.heardFrame .order st (OrderCode.clearCounts.payload target mask a2)
    let hr := a.heardFrame .order st (OrderCode.relearn.payload target mask a2)
    (∃ t cs, exec (.orderClearCounts τ st target mask a2) s = .next t ∧ { hc with cylinders := cs }.SettledTo t
      ∧ ∀ c ∈ allCylinders, t.cyl c = if mask.getLsbD (c - 1) then { s.cyl c with
          block := { assessed := 0, misfires := 0, knocks := 0, suspects := 0, cycles := 0 }, counted := false,
          misfireHistory := [], knockHistory := none, misfireAlarm := false, knockAlarm := false, dead := false,
          clearRun := 0 } else s.cyl c)
    ∧ (∃ t cs, exec (.orderRelearn τ st target mask a2) s = .next t
      ∧ { hr with
          cylinders := cs,
          records := s.records.map (Option.map (fun r : Record =>
            if mask.getLsbD (r.cyl - 1) && r.windowTaken then
              { r with learning := true, ownA := none, ownB := none } else r)) }.SettledTo t
      ∧ ∀ c ∈ allCylinders, t.cyl c = if mask.getLsbD (c - 1) then { s.cyl c with
          refA := 16, refB := 16, learnA := 0, learnB := 0 } else s.cyl c)

/-- R24, R25, R153, R158, R166: CLEAR FAULTS clears every class's status and count, but those of CONFIG_INVALID in
UNCONFIGURED, and empties the first-fault record; masks and severities stay. From WITHDRAWN it also enters PROBING.
(The sender is heard before the block of the frame's kind acts, DEDUCED, log entry 10, and the frame's cells are read
as a whole, DESIGN CHOICE, log entry 11.) -/
def Obligations.ClearFaultsClears : Prop :=
  ∀ (s : State) (τ : Tick) (st : Station) (target a1 a2 : Byte), s.FaultsOk → s.Hears st → s.Commanded st target →
    s.link.HasRoom .status →
    let h := (s.advance τ).heardFrame .order st (OrderCode.clearFaults.payload target a1 a2)
    ∃ t, exec (.orderClearFaults τ st target a1 a2) s = .next t
      ∧ (∀ k ∈ allClasses, t.faults.cls k =
          if s.node.state = NodeState.unconfigured ∧ k = .configInvalid then s.faults.cls k
          else { s.faults.cls k with status := false, count := 0 })
      ∧ t.faults.first = none ∧ t.faults.overflow = false
      ∧ (s.node.state ≠ .withdrawn → t.body = h.body)
      ∧ (s.node.state = .withdrawn →
          t.node = { h.node with state := .probing, probe := some 400000, listen := none, statusTimer := none }
          ∧ (∀ ch, t.chan ch = { h.chan ch with
              state := .unprobed, biasOn := true, openFault := false, qualification := none, integrator := .idle,
              shockPeak := 0 })
          ∧ t.alert.line = .released ∧ t.alert.holdOff = none
          ∧ t.cylinders = s.cylinders ∧ t.peers = h.peers ∧ t.context = h.context ∧ t.tracker = h.tracker
          ∧ t.records = s.records ∧ t.estimator = s.estimator ∧ t.link.bare = h.link.bare)

/-- R32, R71, R100, R147, R164: HOLD takes RUNNING to HOLD: every open record aborted, integrations abandoned, every
queued WITNESS, VERDICT and TALLY removed and no JOLT or LOG, the tracker, the period history, the Peer Table and the
Context Unit kept. RESUME takes HOLD back to RUNNING and clears nothing. (The sender is heard before the block of the
frame's kind acts, DEDUCED, log entry 10, and the frame's cells are read as a whole, DESIGN CHOICE, log entry 11.) -/
def Obligations.HoldAndResumeMoveTheNode : Prop :=
  ∀ (s : State) (τ : Tick) (st : Station) (target a1 a2 : Byte), s.FaultsOk → s.Hears st → s.Commanded st target →
    let hh := (s.advance τ).heardFrame .order st (OrderCode.hold.payload target a1 a2)
    let hr := (s.advance τ).heardFrame .order st (OrderCode.resume.payload target a1 a2)
    (s.node.state = .running → s.link.HasRoom .status → ∃ t, exec (.orderHold τ st target a1 a2) s = .next t
      ∧ t.node = { hh.node with state := .hold } ∧ (∀ r ∈ t.records, r = none)
      ∧ (∀ ch, t.chan ch = { hh.chan ch with integrator := .idle })
      ∧ (∀ e ∈ t.link.queue, e.kind ≠ .witness ∧ e.kind ≠ .verdict ∧ e.kind ≠ .tally)
      ∧ (∀ e ∈ s.link.queue, e.kind = .jolt ∨ e.kind = .log → e ∈ t.link.queue)
      ∧ (s.cylinders.length = 8 → s.openRecords.Pairwise (fun r r' => r.cyl ≠ r'.cyl) →
          (∀ r ∈ s.openRecords, r.cyl ∈ allCylinders) →
          ∀ c ∈ allCylinders, t.cyl c = if s.openRecords.any (fun r => r.cyl == c) then
            { s.cyl c with aborts := min ((s.cyl c).aborts + 1) 255, counted := false } else s.cyl c)
      ∧ t.tracker = hh.tracker ∧ t.estimator = s.estimator ∧ t.peers = hh.peers ∧ t.context = hh.context
      ∧ t.image = s.image ∧ t.link.acq = hh.link.acq ∧ t.link.receiver = hh.link.receiver)
    ∧ (s.node.state = .hold → ∃ t, exec (.orderResume τ st target a1 a2) s = .next t
      ∧ { hr with node := { hr.node with state := .running } }.SettledTo t)

/-- R2, R24, R41, R82, R103, R121, R133, R155, R158, R165: RESTART enters PROBING with every block at its RESTART values and
a queue that holds at most the STATUS of the service level's change; the image, the station, every field of the link but its
queue, the faults and the alert latches are kept. (The sender is heard before the block of the frame's kind acts, DEDUCED,
log entry 10, and the frame's cells are read as a whole, DESIGN CHOICE, log entry 11.) -/
def Obligations.RestartReturnsTheBlocks : Prop :=
  ∀ (s : State) (τ : Tick) (st : Station) (target a1 a2 : Byte), s.FaultsOk → s.Hears st → s.Commanded st target →
    s.node.state.configured = true →
    let im := s.params
    let h := (s.advance τ).heardFrame .order st (OrderCode.restart.payload target a1 a2)
    ∃ t, exec (.orderRestart τ st target a1 a2) s = .next t
      ∧ t.node = { h.node with state := .probing, probe := some 400000, listen := none, statusTimer := none }
      ∧ t.tracker = {
          sync := .stopped, lastEdge := none, periodPrev := none, periodCur := none, span := none,
          perPitch := none, refCount := none, toothIndex := none, edgeAngle := none, angle := none, phase := none,
          cycleCount := 0, warmUp := 0, camMiss := 0, camSeen := false, chain := none, marks := [], stallLeft := none }
      ∧ t.estimator = { depth := 0, t0 := none, t1 := none, t2 := none }
      ∧ (∀ r ∈ t.records, r = none)
      ∧ (∀ ch, t.chan ch = { h.chan ch with
          state := .unprobed, biasOn := true, openFault := false, qualification := none, integrator := .idle,
          shockPeak := 0 })
      ∧ (∀ c ∈ allCylinders, t.cyl c = { CylEntry.powerOn with
          role := (im.roleOf s.station c).1, rank := (im.roleOf s.station c).2 })
      ∧ (∀ x : Station, x ≠ s.station → t.peer x = { PeerEntry.powerOn with expectedFor := im.expectedFor s.station x })
      ∧ t.context = {
          current := { cutMask := 0, antiLag := false, loadBand := 0 }, pendingCtx := none, freshness := 5,
          hold := none, joltGuard := none }
      ∧ (∀ e ∈ t.link.queue, e.kind = .status)
      ∧ t.link.acq = h.link.acq ∧ t.link.rate = h.link.rate ∧ t.link.inhibit = h.link.inhibit
      ∧ t.link.dwell = h.link.dwell ∧ t.link.recessiveRun = h.link.recessiveRun ∧ t.link.bare = h.link.bare
      ∧ t.alert.line = .released ∧ t.alert.holdOff = none
      ∧ (∀ x ∈ allSources, x ≠ .serviceChange → t.alert.src x = s.alert.src x)
      ∧ (∀ k ∈ allClasses, t.faults.cls k = s.faults.cls k)
      ∧ t.faults.first = s.faults.first ∧ t.faults.overflow = s.faults.overflow
      ∧ t.image = s.image ∧ t.station = s.station

/-- R154, R169: REPORT queues a LOG with the first-fault record for selector 0, and with class selector - 1 for
selectors 1 to 16; a selector above 16 is MALFORMED. (The sender is heard before the block of the frame's kind acts,
DEDUCED, log entry 10; the frame's cells are read as a whole, DESIGN CHOICE, log entry 11; the nibble of an absent station
or kind, and of the class while the record is EMPTY, is sent as 0, DESIGN CHOICE, log entry 29.) -/
def Obligations.ReportQueuesTheLog : Prop :=
  ∀ (s : State) (τ : Tick) (st : Station) (target selector a2 : Byte), s.FaultsOk → s.link.QueueOk → s.Hears st →
    s.Commanded st target → s.link.queue.length < 11 →
    let a := s.advance τ
    let h := a.heardFrame .order st (OrderCode.report.payload target selector a2)
    let queues := fun payload : List Byte => ∃ t, exec (.orderReport τ st target selector a2) s = .next t
      ∧ t.body = h.body ∧ t.faults.cls .malformed = s.faults.cls .malformed
      ∧ ∃ e ∈ t.link.queue, e.kind = .log ∧ e.payload = payload
    (∀ f, selector = 0 → s.faults.first = some f → queues
        ([0#8, byteOf (128 + (if s.faults.overflow then 64 else 0) + f.cls.index)] ++ bytes16 f.cycle.toNat
          ++ bytes16 (f.angle.getD 0xFFFF)
          ++ [byteOf ((match f.station with | some x => x.val | none => 0) * 16 + f.kind.getD 0),
              byteOf ((if f.station = none then 128 else 0) + (if f.kind = none then 64 else 0)
                + f.service.code * 16 + f.cyl.getD 0)]))
    ∧ (selector = 0 → s.faults.first = none → queues (List.replicate 8 0#8))
    ∧ (∀ k ∈ allClasses, selector.toNat = k.index + 1 →
        let x := s.faults.cls k
        queues [selector, byteOf k.index,
          byteOf ((if x.status then 128 else 0) + (if x.mask then 64 else 0) + x.severity.code), byteOf x.count,
          0, 0, 0, 0])
    ∧ (16 < selector.toNat → ∃ t, exec (.orderReport τ st target selector a2) s = .next t ∧ t.body = h.body
        ∧ FaultUnit.Took { cls := .malformed, cycle := s.tracker.cycleCount, angle := a.tracker.faultAngle,
                           station := some st, kind := some 5, cyl := none } s.faults t.faults)

/-! ## The line and the transmitter (chapter 8) -/

/-- R133, R136, R142: the end of a gap clears the inhibit and frees a discarding receiver; a dominant cell read in IDLE
sends the receiver to DISCARDING before the gap, and after it is the start cell of a header, which the receiver begins to
assemble; a dominant run of 13 cells sets the inhibit, with one STUCK_LINE at each setting. In LOADING the line is not read,
and no command of the line or the transmitter does anything. (The runs follow the cells of commands: DESIGN CHOICE, log
entries 11 and 19; a start cell of another station before the node's own gap has ended, which R139 names, is no start by
R136: DESIGN CHOICE, log entry 32; a stuck line taken while the inhibit is set: DEDUCED, log entry 18.) -/
def Obligations.LineMonitorCountsTheRuns : Prop :=
  ∀ (s : State) (τ : Tick) (cell : Nat), s.FaultsOk →
    let a := s.advance τ
    let l := a.link
    let stuck := { l with dominantRun := 13, recessiveRun := 0, inhibit := true, receiver := Receiver.discarding }
    (s.node.state ≠ .loading →
      (∃ t, exec (.interframeGapEnd τ) s = .next t
        ∧ { a with link := { l with
            recessiveRun := 11, dominantRun := 0, inhibit := false,
            receiver := if l.receiver = Receiver.discarding then .idle else l.receiver } }.SettledTo t)
      ∧ (l.receiver = .idle → ∃ t, exec (.dominantCellBeforeGap τ) s = .next t
        ∧ { a with link := { l with
            dominantRun := min (l.dominantRun + 1) 13, recessiveRun := 0,
            receiver := if l.recessiveRun < 11 then Receiver.discarding else .assembling } }.SettledTo t)
      ∧ (l.receiver ≠ .idle → ∃ t, exec (.dominantCellBeforeGap τ) s = .next t ∧ a.SettledTo t)
      ∧ (s.link.inhibit = false → ∃ t, exec (.stuckLine τ) s = .next t ∧ t.body = { a with link := stuck }.body
          ∧ FaultUnit.Took { cls := .stuckLine, cycle := s.tracker.cycleCount, angle := a.tracker.faultAngle,
                             station := none, kind := none, cyl := none } s.faults t.faults)
      ∧ (s.link.inhibit = true → ∃ t, exec (.stuckLine τ) s = .next t ∧ { a with link := stuck }.SettledTo t))
    ∧ (s.node.state = .loading →
        ∀ c ∈ [Instr.interframeGapEnd τ, .dominantCellBeforeGap τ, .stuckLine τ, .transmissionBegin τ,
            .arbitrationLost τ cell, .transmitClash τ cell, .transmissionEnd τ, .dwellTimerExpiry τ],
          ∃ t, exec c s = .next t ∧ a.SettledTo t)

/-- R139, R144, R166, R169: the transmission of the first permitted entry takes it from the queue, a STATUS with
contents sampled then and any other kind with those it was queued with. A frame sent to its end leaves the transmitter
and the receiver that assembled it IDLE, is a good frame, and is not taken as input. (The cells of a frame are read at its
end, and an end is taken in ARBITRATING too: DESIGN CHOICE, log entries 11 and 19.) -/
def Obligations.TransmissionTakesTheFirstPermitted : Prop :=
  ∀ (s : State) (τ : Tick) (before after : List TxEntry) (e : TxEntry), s.withdrawDue = false → s.node.state ≠ .loading →
    let a := s.advance τ
    let n := s.node.state
    let permitted := fun k : Kind => n = .running ∨ n = .hold
      ∨ ((n = .withdrawn ∨ n = .unconfigured) ∧ (k = .status ∨ k = .log))
    let ready := s.link.acq = some .locked ∧ s.link.inhibit = false ∧ s.link.receiver = .idle
      ∧ a.link.transmitter = .idle ∧ 11 ≤ s.link.recessiveRun
    let cell := match s.link.rate with
      | some .k125 => 160 | some .k250 => 80 | some .k500 => 40 | some .k1000 => 20 | none => 0
    (ready → s.link.queue = before ++ e :: after → (∀ x ∈ before, ¬permitted x.kind) → permitted e.kind →
      ∃ t payload, exec (.transmissionBegin τ) s = .next t
        ∧ { a with link := { a.link with
            queue := before ++ after, dominantRun := 1, recessiveRun := 0,
            receiver := .assembling,
            transmitter := .arbitrating { e with payload := payload } false (10 * cell) } }.SettledTo t
        ∧ (e.kind ≠ .status → payload = e.payload)
        ∧ (e.kind = .status → payload.length = 8
            ∧ (payload.getD 0 0).toNat = n.code * 32 + s.faults.service.code * 8 + s.tracker.sync.code * 2
                + (if 4 < s.context.freshness then 1 else 0)
            ∧ (payload.getD 1 0).toNat = 2 * 64 + (match s.context.hold with
                | none => 0
                | some h => match h.cause with
                  | .ownShock => 32
                  | .station st => 32 + 16 + st.val)
            ∧ payload.getD 2 0 = s.alert.raiseSeq
            ∧ (s.alert.sources.length = 8 →
                ∀ x ∈ allSources, (payload.getD 3 0).getLsbD x.index = (s.alert.src x).latch)
            ∧ (s.faults.classes.length = 16 → ∀ k ∈ allClasses,
                (payload.getD (5 - k.index / 8) 0).getLsbD (k.index % 8) = (s.faults.cls k).status)
            ∧ (∀ c ∈ allCylinders, (payload.getD 6 0).getLsbD (c - 1)
                = decide ((s.cyl c).role = .owner ∨ (s.cyl c).role = .deputyActive))
            ∧ (payload.getD 7 0).toNat = (match s.faults.first with | some f => 128 + f.cls.index | none => 0)
                + (if s.faults.overflow then 64 else 0)))
    ∧ (¬ready ∨ (∀ x ∈ s.link.queue, ¬permitted x.kind) →
        ∃ t, exec (.transmissionBegin τ) s = .next t ∧ a.SettledTo t)
    ∧ (a.link.transmitter.entry = some e → ∃ t, exec (.transmissionEnd τ) s = .next t
        ∧ t.link.transmitter = .idle
        ∧ t.link.receiver = (if s.link.receiver = .assembling then .idle else s.link.receiver)
        ∧ t.link.dominantRun = 0 ∧ 1 ≤ t.link.recessiveRun ∧ t.link.recessiveRun ≤ 9
        ∧ (s.link.acq = some .locked → t.link.failures = 0 ∧ t.link.acq = some .locked)
        ∧ (s.node.state ≠ .joining → t.node = a.node)
        ∧ t.peers = s.peers ∧ t.context = a.context ∧ t.cylinders = s.cylinders ∧ t.records = s.records)
    ∧ (a.link.transmitter = .idle → ∃ t, exec (.transmissionEnd τ) s = .next t ∧ a.SettledTo t)

/-- R140, R141, R142, R145, R146: arbitration is lost at a cell of the header that the node drives recessive. The entry goes
back at its age, under the newer contents where one of its key was queued meanwhile, with QUEUE_OVERFLOW for a VERDICT or a
TALLY, and by the rule of a full queue where there is no place; a removal event that took it discards it. The receiver stays
as it was. A mismatch at a cell driven dominant, and from the length character on at any cell of the frame, is a clash:
the entry is discarded, with CLASH, and the receiver is DISCARDING. Both leave the transmitter IDLE, and the runs as the
cells up to there leave them, each read once. At any other cell nothing happens. (The command carries the cell: DESIGN
CHOICE, log entry 11; one that its state cannot meet changes only the time: log entry 19; the header's stop cell counts with
its data cells: DEDUCED, log entry 27. What the queue then holds is stated, for a QUEUE_OVERFLOW, where that occurrence
captures no first fault and no change of the service level follows, since a capture and a change each queue a further
report.) -/
def Obligations.LostArbitrationReinsertsAndClashDiscards : Prop :=
  ∀ (s : State) (τ : Tick) (cell : Nat) (e : TxEntry) (left : Nat), s.FaultsOk → s.node.state ≠ .loading →
    let a := s.advance τ
    let frame := frameCells (frameChars e.kind s.station e.payload)
    let driven := frame.getD cell false
    let lost := cell < 10 ∧ driven = true
    let clash := cell < frame.length ∧ (driven = false ∨ 10 ≤ cell)
    let before := frame.take cell
    let runOf := fun level : Bool => (before.reverse.takeWhile (fun c => c == level)).length
    let runs := if driven then { a.link with recessiveRun := 0, dominantRun := runOf false + 1 : Link }
      else if cell = 0 then { a.link with recessiveRun := 11, dominantRun := 0 }
      else { a.link with recessiveRun := runOf true + 1, dominantRun := 0 }
    let back := if e.kind = .status then { e with payload := [] } else e
    let quiet := (s.faults.first.isSome = true ∨ (s.faults.cls .queueOverflow).mask = true)
      ∧ s.serviceOf = s.faults.service
    let overflow := fun x : TxEntry => ({
      cls := .queueOverflow, cycle := s.tracker.cycleCount, angle := a.tracker.faultAngle, station := none,
      kind := some x.kind.code, cyl := x.cyl } : Occurrence)
    let free := ∀ x ∈ s.link.queue, x.sameKey e = false
    (a.link.transmitter = .arbitrating e true left → lost → ∃ t, exec (.arbitrationLost τ cell) s = .next t
      ∧ { a with link := { runs with transmitter := .idle } }.SettledTo t)
    ∧ (a.link.transmitter = .arbitrating e false left → lost → free → s.link.queue.length < 12 →
        ∃ t queue, exec (.arbitrationLost τ cell) s = .next t ∧ queue.Perm (back :: s.link.queue)
          ∧ { a with link := { runs with transmitter := .idle, queue := queue } }.SettledTo t)
    ∧ (∀ y, a.link.transmitter = .arbitrating e false left → lost → s.link.QueueOk → y ∈ s.link.queue →
        y.sameKey e = true → e.age < y.age →
        (e.kind ≠ .verdict → e.kind ≠ .tally → ∃ t queue, exec (.arbitrationLost τ cell) s = .next t
          ∧ { a with link := { runs with transmitter := .idle, queue := queue } }.SettledTo t
          ∧ queue.Perm ({ e with payload := y.payload } :: s.link.queue.erase y))
        ∧ (e.kind = .verdict ∨ e.kind = .tally → quiet → ∃ t, exec (.arbitrationLost τ cell) s = .next t
          ∧ t.body = { a with link := { runs with transmitter := .idle } }.body
          ∧ t.link.queue.Perm ({ e with payload := y.payload } :: s.link.queue.erase y)
          ∧ FaultUnit.Took (overflow e) s.faults t.faults))
    ∧ (a.link.transmitter = .arbitrating e false left → lost → s.link.QueueOk → free → s.link.queue.length = 12 → quiet →
        (∀ d, e.Displaces d s.link.queue → ∃ t, exec (.arbitrationLost τ cell) s = .next t
          ∧ t.body = { a with link := { runs with transmitter := .idle } }.body
          ∧ t.link.queue.Perm (back :: s.link.queue.erase d) ∧ FaultUnit.Took (overflow d) s.faults t.faults)
        ∧ ((∀ x ∈ s.link.queue, x.kind.code ≤ e.kind.code) → ∃ t, exec (.arbitrationLost τ cell) s = .next t
          ∧ t.body = { a with link := { runs with transmitter := .idle } }.body
          ∧ t.link.queue = s.link.queue ∧ FaultUnit.Took (overflow e) s.faults t.faults))
    ∧ (¬lost → a.link.transmitter.entry = some e →
        ∃ t, exec (.arbitrationLost τ cell) s = .next t ∧ a.SettledTo t)
    ∧ ((∀ e' removed left', a.link.transmitter ≠ .arbitrating e' removed left') →
        ∃ t, exec (.arbitrationLost τ cell) s = .next t ∧ a.SettledTo t)
    ∧ (a.link.transmitter.entry = some e → clash → ∃ t, exec (.transmitClash τ cell) s = .next t
        ∧ FaultUnit.Took { cls := .clash, cycle := s.tracker.cycleCount, angle := a.tracker.faultAngle,
                           station := some s.station, kind := some e.kind.code, cyl := none } s.faults t.faults
        ∧ t.link.transmitter = .idle ∧ t.link.receiver = .discarding
        ∧ t.link.recessiveRun = runs.recessiveRun ∧ t.link.dominantRun = runs.dominantRun
        ∧ ((s.faults.cls .clash).severity ≠ .withdrawing ∨ (s.faults.cls .clash).mask = true →
            t.body = { a with link := { runs with
            transmitter := .idle, receiver := .discarding } }.body)
        ∧ ((s.faults.cls .clash).severity = .withdrawing → (s.faults.cls .clash).mask = false →
            s.node.state = .running ∨ s.node.state = .hold → t.node.state = .withdrawn ∧ (∀ r ∈ t.records, r = none)))
    ∧ (a.link.transmitter.entry = some e → ¬clash → ∃ t, exec (.transmitClash τ cell) s = .next t ∧ a.SettledTo t)
    ∧ (a.link.transmitter = .idle → ∃ t, exec (.transmitClash τ cell) s = .next t ∧ a.SettledTo t)

/-- R136, R143, R162: in HUNT the dwell's end goes to the next rate, dropping a frame under way, and after ten rounds to the
fallback rate and LOCKED, where a node in JOINING begins to listen; in CONFIRM it acts as a failing frame. With ticks left
it does nothing. (An expiry is a command: DESIGN CHOICE, log entry 2; a rate change from CONFIRM drops no frame: DEDUCED,
log entry 24; the tenth round drops the frame also where the fallback rate is 125: DESIGN CHOICE, log entry 31.) -/
def Obligations.DwellEndHuntsOn : Prop :=
  ∀ (s : State) (τ : Tick), s.withdrawDue = false → s.node.state ≠ .loading →
    let a := s.advance τ
    let l := a.link
    let dropped := if l.receiver = .assembling then Receiver.discarding else l.receiver
    let next := l.rate.map (fun r => match r with
      | Rate.k500 => Rate.k1000 | .k1000 => .k250 | .k250 => .k125 | .k125 => .k500)
    (l.dwell ≠ some 0 ∨ l.acq = some .locked → ∃ t, exec (.dwellTimerExpiry τ) s = .next t ∧ a.SettledTo t)
    ∧ (l.dwell = some 0 → l.acq = some .hunt → l.rate ≠ some .k125 ∨ l.rounds < 9 →
        ∃ t, exec (.dwellTimerExpiry τ) s = .next t
          ∧ { a with link := { l with
              acq := some .hunt, rate := next, confirms := 0, dwell := some 400000, receiver := dropped,
              rounds := if l.rate = some Rate.k125 then l.rounds + 1 else l.rounds } }.SettledTo t)
    ∧ (l.dwell = some 0 → l.acq = some .hunt → l.rate = some .k125 → l.rounds = 9 →
        ∃ t, exec (.dwellTimerExpiry τ) s = .next t
          ∧ { a with
              link := { l with
                acq := some .locked, rate := l.fallback, rounds := 0, dwell := none, receiver := dropped },
              node := { a.node with
                listen := if s.node.state = NodeState.joining ∧ a.node.listen = none then
                  some (2 * (s.params.statusMs * 20000)) else a.node.listen } }.SettledTo t)
    ∧ (l.dwell = some 0 → l.acq = some .confirm → ∃ t, exec (.dwellTimerExpiry τ) s = .next t
        ∧ { a with link := { l with
            acq := some .hunt, rate := next, confirms := 0, dwell := some 400000 } }.SettledTo t)

/-! ## Timers (chapters 6, 7 and 9) -/

/-- R67, R106, R107: the tick silences every ACTIVE or REJOINING station not heard for three status periods, each with
one PEER_SILENT, and takes it out of every expected set; the others stay as they are while no record is open.
(The tick is one event, and the closes that a silencing brings follow it: DEDUCED, log entry 7.) -/
def Obligations.TimeoutTickSilencesStations : Prop :=
  ∀ (s : State) (τ : Tick), s.FaultsOk → s.peers.length = 16 →
    let a := s.advance τ
    let due := fun st : Station => st ≠ s.station
      ∧ ((s.peer st).state = .active ∨ (s.peer st).state = .rejoining)
      ∧ ∃ u, (s.peer st).lastHeard = some u ∧ 3 * (s.params.statusMs * 20000) ≤ (τ - u).toNat
    (s.node.state.configured = false → ∃ t, exec (.peerTimeoutTick τ) s = .next t ∧ a.SettledTo t)
    ∧ (s.node.state.configured = true → ∃ t, exec (.peerTimeoutTick τ) s = .next t
        ∧ (∀ st, due st → (t.peer st).state = .silent ∧ ∀ r ∈ t.openRecords, st ∉ r.expected)
        ∧ ((∀ r ∈ s.records, r = none) →
            (∀ st, due st → t.peer st = { s.peer st with state := .silent, misses := 0, rejoinRun := 0 })
            ∧ (∀ st, ¬due st → t.peer st = s.peer st)
            ∧ (t.faults.cls .peerSilent).count
                = min ((s.faults.cls .peerSilent).count + (allStations.filter (fun st => decide (due st))).length) 255
            ∧ (∀ st, due st → (s.peer st).state = .active → (s.peer st).expectedFor = true →
                s.alert.sources.length = 8 → (t.alert.src .peerSilent).latch = true)))

/-- R126, R128, R130, R157: the shock hold's end makes it INACTIVE and delivers nothing; the guard's end makes it idle; the
hold-off's end asserts the line over a nonempty unmasked latched set, and releases it otherwise. With time left, as after an
extension taken first at the same instant, each runs on. (An expiry is a command: DESIGN CHOICE, log entry 2.) -/
def Obligations.HoldGuardAndHoldOffRunOut : Prop :=
  ∀ (s : State) (τ : Tick), s.withdrawDue = false →
    let a := s.advance τ
    (∀ h, a.context.hold = some h → h.left = 0 → ∃ t, exec (.shockHoldExpiry τ) s = .next t
      ∧ { a with context := { a.context with hold := none } }.SettledTo t)
    ∧ ((∀ h, a.context.hold = some h → h.left ≠ 0) → ∃ t, exec (.shockHoldExpiry τ) s = .next t ∧ a.SettledTo t)
    ∧ (a.context.joltGuard = some 0 → ∃ t, exec (.joltGuardExpiry τ) s = .next t
      ∧ { a with context := { a.context with joltGuard := none } }.SettledTo t)
    ∧ (a.context.joltGuard ≠ some 0 → ∃ t, exec (.joltGuardExpiry τ) s = .next t ∧ a.SettledTo t)
    ∧ (s.alert.line = .holdoff → a.alert.holdOff = some 0 → ∃ t, exec (.holdOffExpiry τ) s = .next t
      ∧ { a with alert := { a.alert with
          line := if s.alert.unmaskedLatched then .asserted else .released, holdOff := none } }.SettledTo t)
    ∧ (s.alert.line ≠ .holdoff ∨ a.alert.holdOff ≠ some 0 → ∃ t, exec (.holdOffExpiry τ) s = .next t ∧ a.SettledTo t)
end

