-- ==== Sys2Proof/Laws/State.lean ====
section
/-! SUPPORT. The small lemmas of the state's updates: one per field per update, each true by rfl, so that no later proof
unfolds a record update. -/

namespace Sys2Proof.Machine

section Updates

variable (s : State)

section onNode
variable (f : NodeCtl → NodeCtl)
@[simp] theorem State.onNode_pending : (s.onNode f).pending = s.pending := rfl
@[simp] theorem State.onNode_now : (s.onNode f).now = s.now := rfl
@[simp] theorem State.onNode_station : (s.onNode f).station = s.station := rfl
@[simp] theorem State.onNode_node : (s.onNode f).node = f s.node := rfl
@[simp] theorem State.onNode_image : (s.onNode f).image = s.image := rfl
@[simp] theorem State.onNode_tracker : (s.onNode f).tracker = s.tracker := rfl
@[simp] theorem State.onNode_chanA : (s.onNode f).chanA = s.chanA := rfl
@[simp] theorem State.onNode_chanB : (s.onNode f).chanB = s.chanB := rfl
@[simp] theorem State.onNode_estimator : (s.onNode f).estimator = s.estimator := rfl
@[simp] theorem State.onNode_records : (s.onNode f).records = s.records := rfl
@[simp] theorem State.onNode_cylinders : (s.onNode f).cylinders = s.cylinders := rfl
@[simp] theorem State.onNode_markCounted : (s.onNode f).markCounted = s.markCounted := rfl
@[simp] theorem State.onNode_peers : (s.onNode f).peers = s.peers := rfl
@[simp] theorem State.onNode_context : (s.onNode f).context = s.context := rfl
@[simp] theorem State.onNode_link : (s.onNode f).link = s.link := rfl
@[simp] theorem State.onNode_faults : (s.onNode f).faults = s.faults := rfl
@[simp] theorem State.onNode_alert : (s.onNode f).alert = s.alert := rfl
@[simp] theorem State.onNode_withdrawDue : (s.onNode f).withdrawDue = s.withdrawDue := rfl
end onNode

section onTracker
variable (f : Tracker → Tracker)
@[simp] theorem State.onTracker_pending : (s.onTracker f).pending = s.pending := rfl
@[simp] theorem State.onTracker_now : (s.onTracker f).now = s.now := rfl
@[simp] theorem State.onTracker_station : (s.onTracker f).station = s.station := rfl
@[simp] theorem State.onTracker_node : (s.onTracker f).node = s.node := rfl
@[simp] theorem State.onTracker_image : (s.onTracker f).image = s.image := rfl
@[simp] theorem State.onTracker_tracker : (s.onTracker f).tracker = f s.tracker := rfl
@[simp] theorem State.onTracker_chanA : (s.onTracker f).chanA = s.chanA := rfl
@[simp] theorem State.onTracker_chanB : (s.onTracker f).chanB = s.chanB := rfl
@[simp] theorem State.onTracker_estimator : (s.onTracker f).estimator = s.estimator := rfl
@[simp] theorem State.onTracker_records : (s.onTracker f).records = s.records := rfl
@[simp] theorem State.onTracker_cylinders : (s.onTracker f).cylinders = s.cylinders := rfl
@[simp] theorem State.onTracker_markCounted : (s.onTracker f).markCounted = s.markCounted := rfl
@[simp] theorem State.onTracker_peers : (s.onTracker f).peers = s.peers := rfl
@[simp] theorem State.onTracker_context : (s.onTracker f).context = s.context := rfl
@[simp] theorem State.onTracker_link : (s.onTracker f).link = s.link := rfl
@[simp] theorem State.onTracker_faults : (s.onTracker f).faults = s.faults := rfl
@[simp] theorem State.onTracker_alert : (s.onTracker f).alert = s.alert := rfl
@[simp] theorem State.onTracker_withdrawDue : (s.onTracker f).withdrawDue = s.withdrawDue := rfl
end onTracker

section onChanA
variable (f : Channel → Channel)
@[simp] theorem State.onChanA_pending : (s.onChanA f).pending = s.pending := rfl
@[simp] theorem State.onChanA_now : (s.onChanA f).now = s.now := rfl
@[simp] theorem State.onChanA_station : (s.onChanA f).station = s.station := rfl
@[simp] theorem State.onChanA_node : (s.onChanA f).node = s.node := rfl
@[simp] theorem State.onChanA_image : (s.onChanA f).image = s.image := rfl
@[simp] theorem State.onChanA_tracker : (s.onChanA f).tracker = s.tracker := rfl
@[simp] theorem State.onChanA_chanA : (s.onChanA f).chanA = f s.chanA := rfl
@[simp] theorem State.onChanA_chanB : (s.onChanA f).chanB = s.chanB := rfl
@[simp] theorem State.onChanA_estimator : (s.onChanA f).estimator = s.estimator := rfl
@[simp] theorem State.onChanA_records : (s.onChanA f).records = s.records := rfl
@[simp] theorem State.onChanA_cylinders : (s.onChanA f).cylinders = s.cylinders := rfl
@[simp] theorem State.onChanA_markCounted : (s.onChanA f).markCounted = s.markCounted := rfl
@[simp] theorem State.onChanA_peers : (s.onChanA f).peers = s.peers := rfl
@[simp] theorem State.onChanA_context : (s.onChanA f).context = s.context := rfl
@[simp] theorem State.onChanA_link : (s.onChanA f).link = s.link := rfl
@[simp] theorem State.onChanA_faults : (s.onChanA f).faults = s.faults := rfl
@[simp] theorem State.onChanA_alert : (s.onChanA f).alert = s.alert := rfl
@[simp] theorem State.onChanA_withdrawDue : (s.onChanA f).withdrawDue = s.withdrawDue := rfl
end onChanA

section onChanB
variable (f : Channel → Channel)
@[simp] theorem State.onChanB_pending : (s.onChanB f).pending = s.pending := rfl
@[simp] theorem State.onChanB_now : (s.onChanB f).now = s.now := rfl
@[simp] theorem State.onChanB_station : (s.onChanB f).station = s.station := rfl
@[simp] theorem State.onChanB_node : (s.onChanB f).node = s.node := rfl
@[simp] theorem State.onChanB_image : (s.onChanB f).image = s.image := rfl
@[simp] theorem State.onChanB_tracker : (s.onChanB f).tracker = s.tracker := rfl
@[simp] theorem State.onChanB_chanA : (s.onChanB f).chanA = s.chanA := rfl
@[simp] theorem State.onChanB_chanB : (s.onChanB f).chanB = f s.chanB := rfl
@[simp] theorem State.onChanB_estimator : (s.onChanB f).estimator = s.estimator := rfl
@[simp] theorem State.onChanB_records : (s.onChanB f).records = s.records := rfl
@[simp] theorem State.onChanB_cylinders : (s.onChanB f).cylinders = s.cylinders := rfl
@[simp] theorem State.onChanB_markCounted : (s.onChanB f).markCounted = s.markCounted := rfl
@[simp] theorem State.onChanB_peers : (s.onChanB f).peers = s.peers := rfl
@[simp] theorem State.onChanB_context : (s.onChanB f).context = s.context := rfl
@[simp] theorem State.onChanB_link : (s.onChanB f).link = s.link := rfl
@[simp] theorem State.onChanB_faults : (s.onChanB f).faults = s.faults := rfl
@[simp] theorem State.onChanB_alert : (s.onChanB f).alert = s.alert := rfl
@[simp] theorem State.onChanB_withdrawDue : (s.onChanB f).withdrawDue = s.withdrawDue := rfl
end onChanB

section onEstimator
variable (f : Estimator → Estimator)
@[simp] theorem State.onEstimator_pending : (s.onEstimator f).pending = s.pending := rfl
@[simp] theorem State.onEstimator_now : (s.onEstimator f).now = s.now := rfl
@[simp] theorem State.onEstimator_station : (s.onEstimator f).station = s.station := rfl
@[simp] theorem State.onEstimator_node : (s.onEstimator f).node = s.node := rfl
@[simp] theorem State.onEstimator_image : (s.onEstimator f).image = s.image := rfl
@[simp] theorem State.onEstimator_tracker : (s.onEstimator f).tracker = s.tracker := rfl
@[simp] theorem State.onEstimator_chanA : (s.onEstimator f).chanA = s.chanA := rfl
@[simp] theorem State.onEstimator_chanB : (s.onEstimator f).chanB = s.chanB := rfl
@[simp] theorem State.onEstimator_estimator : (s.onEstimator f).estimator = f s.estimator := rfl
@[simp] theorem State.onEstimator_records : (s.onEstimator f).records = s.records := rfl
@[simp] theorem State.onEstimator_cylinders : (s.onEstimator f).cylinders = s.cylinders := rfl
@[simp] theorem State.onEstimator_markCounted : (s.onEstimator f).markCounted = s.markCounted := rfl
@[simp] theorem State.onEstimator_peers : (s.onEstimator f).peers = s.peers := rfl
@[simp] theorem State.onEstimator_context : (s.onEstimator f).context = s.context := rfl
@[simp] theorem State.onEstimator_link : (s.onEstimator f).link = s.link := rfl
@[simp] theorem State.onEstimator_faults : (s.onEstimator f).faults = s.faults := rfl
@[simp] theorem State.onEstimator_alert : (s.onEstimator f).alert = s.alert := rfl
@[simp] theorem State.onEstimator_withdrawDue : (s.onEstimator f).withdrawDue = s.withdrawDue := rfl
end onEstimator

section onRecords
variable (f : List (Option Record) → List (Option Record))
@[simp] theorem State.onRecords_pending : (s.onRecords f).pending = s.pending := rfl
@[simp] theorem State.onRecords_now : (s.onRecords f).now = s.now := rfl
@[simp] theorem State.onRecords_station : (s.onRecords f).station = s.station := rfl
@[simp] theorem State.onRecords_node : (s.onRecords f).node = s.node := rfl
@[simp] theorem State.onRecords_image : (s.onRecords f).image = s.image := rfl
@[simp] theorem State.onRecords_tracker : (s.onRecords f).tracker = s.tracker := rfl
@[simp] theorem State.onRecords_chanA : (s.onRecords f).chanA = s.chanA := rfl
@[simp] theorem State.onRecords_chanB : (s.onRecords f).chanB = s.chanB := rfl
@[simp] theorem State.onRecords_estimator : (s.onRecords f).estimator = s.estimator := rfl
@[simp] theorem State.onRecords_records : (s.onRecords f).records = f s.records := rfl
@[simp] theorem State.onRecords_cylinders : (s.onRecords f).cylinders = s.cylinders := rfl
@[simp] theorem State.onRecords_markCounted : (s.onRecords f).markCounted = s.markCounted := rfl
@[simp] theorem State.onRecords_peers : (s.onRecords f).peers = s.peers := rfl
@[simp] theorem State.onRecords_context : (s.onRecords f).context = s.context := rfl
@[simp] theorem State.onRecords_link : (s.onRecords f).link = s.link := rfl
@[simp] theorem State.onRecords_faults : (s.onRecords f).faults = s.faults := rfl
@[simp] theorem State.onRecords_alert : (s.onRecords f).alert = s.alert := rfl
@[simp] theorem State.onRecords_withdrawDue : (s.onRecords f).withdrawDue = s.withdrawDue := rfl
end onRecords

section onCylinders
variable (f : List CylEntry → List CylEntry)
@[simp] theorem State.onCylinders_pending : (s.onCylinders f).pending = s.pending := rfl
@[simp] theorem State.onCylinders_now : (s.onCylinders f).now = s.now := rfl
@[simp] theorem State.onCylinders_station : (s.onCylinders f).station = s.station := rfl
@[simp] theorem State.onCylinders_node : (s.onCylinders f).node = s.node := rfl
@[simp] theorem State.onCylinders_image : (s.onCylinders f).image = s.image := rfl
@[simp] theorem State.onCylinders_tracker : (s.onCylinders f).tracker = s.tracker := rfl
@[simp] theorem State.onCylinders_chanA : (s.onCylinders f).chanA = s.chanA := rfl
@[simp] theorem State.onCylinders_chanB : (s.onCylinders f).chanB = s.chanB := rfl
@[simp] theorem State.onCylinders_estimator : (s.onCylinders f).estimator = s.estimator := rfl
@[simp] theorem State.onCylinders_records : (s.onCylinders f).records = s.records := rfl
@[simp] theorem State.onCylinders_cylinders : (s.onCylinders f).cylinders = f s.cylinders := rfl
@[simp] theorem State.onCylinders_markCounted : (s.onCylinders f).markCounted = s.markCounted := rfl
@[simp] theorem State.onCylinders_peers : (s.onCylinders f).peers = s.peers := rfl
@[simp] theorem State.onCylinders_context : (s.onCylinders f).context = s.context := rfl
@[simp] theorem State.onCylinders_link : (s.onCylinders f).link = s.link := rfl
@[simp] theorem State.onCylinders_faults : (s.onCylinders f).faults = s.faults := rfl
@[simp] theorem State.onCylinders_alert : (s.onCylinders f).alert = s.alert := rfl
@[simp] theorem State.onCylinders_withdrawDue : (s.onCylinders f).withdrawDue = s.withdrawDue := rfl
end onCylinders

section onPeers
variable (f : List PeerEntry → List PeerEntry)
@[simp] theorem State.onPeers_pending : (s.onPeers f).pending = s.pending := rfl
@[simp] theorem State.onPeers_now : (s.onPeers f).now = s.now := rfl
@[simp] theorem State.onPeers_station : (s.onPeers f).station = s.station := rfl
@[simp] theorem State.onPeers_node : (s.onPeers f).node = s.node := rfl
@[simp] theorem State.onPeers_image : (s.onPeers f).image = s.image := rfl
@[simp] theorem State.onPeers_tracker : (s.onPeers f).tracker = s.tracker := rfl
@[simp] theorem State.onPeers_chanA : (s.onPeers f).chanA = s.chanA := rfl
@[simp] theorem State.onPeers_chanB : (s.onPeers f).chanB = s.chanB := rfl
@[simp] theorem State.onPeers_estimator : (s.onPeers f).estimator = s.estimator := rfl
@[simp] theorem State.onPeers_records : (s.onPeers f).records = s.records := rfl
@[simp] theorem State.onPeers_cylinders : (s.onPeers f).cylinders = s.cylinders := rfl
@[simp] theorem State.onPeers_markCounted : (s.onPeers f).markCounted = s.markCounted := rfl
@[simp] theorem State.onPeers_peers : (s.onPeers f).peers = f s.peers := rfl
@[simp] theorem State.onPeers_context : (s.onPeers f).context = s.context := rfl
@[simp] theorem State.onPeers_link : (s.onPeers f).link = s.link := rfl
@[simp] theorem State.onPeers_faults : (s.onPeers f).faults = s.faults := rfl
@[simp] theorem State.onPeers_alert : (s.onPeers f).alert = s.alert := rfl
@[simp] theorem State.onPeers_withdrawDue : (s.onPeers f).withdrawDue = s.withdrawDue := rfl
end onPeers

section onContext
variable (f : Context → Context)
@[simp] theorem State.onContext_pending : (s.onContext f).pending = s.pending := rfl
@[simp] theorem State.onContext_now : (s.onContext f).now = s.now := rfl
@[simp] theorem State.onContext_station : (s.onContext f).station = s.station := rfl
@[simp] theorem State.onContext_node : (s.onContext f).node = s.node := rfl
@[simp] theorem State.onContext_image : (s.onContext f).image = s.image := rfl
@[simp] theorem State.onContext_tracker : (s.onContext f).tracker = s.tracker := rfl
@[simp] theorem State.onContext_chanA : (s.onContext f).chanA = s.chanA := rfl
@[simp] theorem State.onContext_chanB : (s.onContext f).chanB = s.chanB := rfl
@[simp] theorem State.onContext_estimator : (s.onContext f).estimator = s.estimator := rfl
@[simp] theorem State.onContext_records : (s.onContext f).records = s.records := rfl
@[simp] theorem State.onContext_cylinders : (s.onContext f).cylinders = s.cylinders := rfl
@[simp] theorem State.onContext_markCounted : (s.onContext f).markCounted = s.markCounted := rfl
@[simp] theorem State.onContext_peers : (s.onContext f).peers = s.peers := rfl
@[simp] theorem State.onContext_context : (s.onContext f).context = f s.context := rfl
@[simp] theorem State.onContext_link : (s.onContext f).link = s.link := rfl
@[simp] theorem State.onContext_faults : (s.onContext f).faults = s.faults := rfl
@[simp] theorem State.onContext_alert : (s.onContext f).alert = s.alert := rfl
@[simp] theorem State.onContext_withdrawDue : (s.onContext f).withdrawDue = s.withdrawDue := rfl
end onContext

section onLink
variable (f : Link → Link)
@[simp] theorem State.onLink_pending : (s.onLink f).pending = s.pending := rfl
@[simp] theorem State.onLink_now : (s.onLink f).now = s.now := rfl
@[simp] theorem State.onLink_station : (s.onLink f).station = s.station := rfl
@[simp] theorem State.onLink_node : (s.onLink f).node = s.node := rfl
@[simp] theorem State.onLink_image : (s.onLink f).image = s.image := rfl
@[simp] theorem State.onLink_tracker : (s.onLink f).tracker = s.tracker := rfl
@[simp] theorem State.onLink_chanA : (s.onLink f).chanA = s.chanA := rfl
@[simp] theorem State.onLink_chanB : (s.onLink f).chanB = s.chanB := rfl
@[simp] theorem State.onLink_estimator : (s.onLink f).estimator = s.estimator := rfl
@[simp] theorem State.onLink_records : (s.onLink f).records = s.records := rfl
@[simp] theorem State.onLink_cylinders : (s.onLink f).cylinders = s.cylinders := rfl
@[simp] theorem State.onLink_markCounted : (s.onLink f).markCounted = s.markCounted := rfl
@[simp] theorem State.onLink_peers : (s.onLink f).peers = s.peers := rfl
@[simp] theorem State.onLink_context : (s.onLink f).context = s.context := rfl
@[simp] theorem State.onLink_link : (s.onLink f).link = f s.link := rfl
@[simp] theorem State.onLink_faults : (s.onLink f).faults = s.faults := rfl
@[simp] theorem State.onLink_alert : (s.onLink f).alert = s.alert := rfl
@[simp] theorem State.onLink_withdrawDue : (s.onLink f).withdrawDue = s.withdrawDue := rfl
end onLink

section onFaults
variable (f : FaultUnit → FaultUnit)
@[simp] theorem State.onFaults_pending : (s.onFaults f).pending = s.pending := rfl
@[simp] theorem State.onFaults_now : (s.onFaults f).now = s.now := rfl
@[simp] theorem State.onFaults_station : (s.onFaults f).station = s.station := rfl
@[simp] theorem State.onFaults_node : (s.onFaults f).node = s.node := rfl
@[simp] theorem State.onFaults_image : (s.onFaults f).image = s.image := rfl
@[simp] theorem State.onFaults_tracker : (s.onFaults f).tracker = s.tracker := rfl
@[simp] theorem State.onFaults_chanA : (s.onFaults f).chanA = s.chanA := rfl
@[simp] theorem State.onFaults_chanB : (s.onFaults f).chanB = s.chanB := rfl
@[simp] theorem State.onFaults_estimator : (s.onFaults f).estimator = s.estimator := rfl
@[simp] theorem State.onFaults_records : (s.onFaults f).records = s.records := rfl
@[simp] theorem State.onFaults_cylinders : (s.onFaults f).cylinders = s.cylinders := rfl
@[simp] theorem State.onFaults_markCounted : (s.onFaults f).markCounted = s.markCounted := rfl
@[simp] theorem State.onFaults_peers : (s.onFaults f).peers = s.peers := rfl
@[simp] theorem State.onFaults_context : (s.onFaults f).context = s.context := rfl
@[simp] theorem State.onFaults_link : (s.onFaults f).link = s.link := rfl
@[simp] theorem State.onFaults_faults : (s.onFaults f).faults = f s.faults := rfl
@[simp] theorem State.onFaults_alert : (s.onFaults f).alert = s.alert := rfl
@[simp] theorem State.onFaults_withdrawDue : (s.onFaults f).withdrawDue = s.withdrawDue := rfl
end onFaults

section onAlert
variable (f : AlertUnit → AlertUnit)
@[simp] theorem State.onAlert_pending : (s.onAlert f).pending = s.pending := rfl
@[simp] theorem State.onAlert_now : (s.onAlert f).now = s.now := rfl
@[simp] theorem State.onAlert_station : (s.onAlert f).station = s.station := rfl
@[simp] theorem State.onAlert_node : (s.onAlert f).node = s.node := rfl
@[simp] theorem State.onAlert_image : (s.onAlert f).image = s.image := rfl
@[simp] theorem State.onAlert_tracker : (s.onAlert f).tracker = s.tracker := rfl
@[simp] theorem State.onAlert_chanA : (s.onAlert f).chanA = s.chanA := rfl
@[simp] theorem State.onAlert_chanB : (s.onAlert f).chanB = s.chanB := rfl
@[simp] theorem State.onAlert_estimator : (s.onAlert f).estimator = s.estimator := rfl
@[simp] theorem State.onAlert_records : (s.onAlert f).records = s.records := rfl
@[simp] theorem State.onAlert_cylinders : (s.onAlert f).cylinders = s.cylinders := rfl
@[simp] theorem State.onAlert_markCounted : (s.onAlert f).markCounted = s.markCounted := rfl
@[simp] theorem State.onAlert_peers : (s.onAlert f).peers = s.peers := rfl
@[simp] theorem State.onAlert_context : (s.onAlert f).context = s.context := rfl
@[simp] theorem State.onAlert_link : (s.onAlert f).link = s.link := rfl
@[simp] theorem State.onAlert_faults : (s.onAlert f).faults = s.faults := rfl
@[simp] theorem State.onAlert_alert : (s.onAlert f).alert = f s.alert := rfl
@[simp] theorem State.onAlert_withdrawDue : (s.onAlert f).withdrawDue = s.withdrawDue := rfl
end onAlert

section setImage
variable (im : Option Image)
@[simp] theorem State.setImage_pending : (s.setImage im).pending = s.pending := rfl
@[simp] theorem State.setImage_now : (s.setImage im).now = s.now := rfl
@[simp] theorem State.setImage_station : (s.setImage im).station = s.station := rfl
@[simp] theorem State.setImage_node : (s.setImage im).node = s.node := rfl
@[simp] theorem State.setImage_image : (s.setImage im).image = im := rfl
@[simp] theorem State.setImage_tracker : (s.setImage im).tracker = s.tracker := rfl
@[simp] theorem State.setImage_chanA : (s.setImage im).chanA = s.chanA := rfl
@[simp] theorem State.setImage_chanB : (s.setImage im).chanB = s.chanB := rfl
@[simp] theorem State.setImage_estimator : (s.setImage im).estimator = s.estimator := rfl
@[simp] theorem State.setImage_records : (s.setImage im).records = s.records := rfl
@[simp] theorem State.setImage_cylinders : (s.setImage im).cylinders = s.cylinders := rfl
@[simp] theorem State.setImage_markCounted : (s.setImage im).markCounted = s.markCounted := rfl
@[simp] theorem State.setImage_peers : (s.setImage im).peers = s.peers := rfl
@[simp] theorem State.setImage_context : (s.setImage im).context = s.context := rfl
@[simp] theorem State.setImage_link : (s.setImage im).link = s.link := rfl
@[simp] theorem State.setImage_faults : (s.setImage im).faults = s.faults := rfl
@[simp] theorem State.setImage_alert : (s.setImage im).alert = s.alert := rfl
@[simp] theorem State.setImage_withdrawDue : (s.setImage im).withdrawDue = s.withdrawDue := rfl
end setImage

section setMarkCounted
variable (b : Bool)
@[simp] theorem State.setMarkCounted_pending : (s.setMarkCounted b).pending = s.pending := rfl
@[simp] theorem State.setMarkCounted_now : (s.setMarkCounted b).now = s.now := rfl
@[simp] theorem State.setMarkCounted_station : (s.setMarkCounted b).station = s.station := rfl
@[simp] theorem State.setMarkCounted_node : (s.setMarkCounted b).node = s.node := rfl
@[simp] theorem State.setMarkCounted_image : (s.setMarkCounted b).image = s.image := rfl
@[simp] theorem State.setMarkCounted_tracker : (s.setMarkCounted b).tracker = s.tracker := rfl
@[simp] theorem State.setMarkCounted_chanA : (s.setMarkCounted b).chanA = s.chanA := rfl
@[simp] theorem State.setMarkCounted_chanB : (s.setMarkCounted b).chanB = s.chanB := rfl
@[simp] theorem State.setMarkCounted_estimator : (s.setMarkCounted b).estimator = s.estimator := rfl
@[simp] theorem State.setMarkCounted_records : (s.setMarkCounted b).records = s.records := rfl
@[simp] theorem State.setMarkCounted_cylinders : (s.setMarkCounted b).cylinders = s.cylinders := rfl
@[simp] theorem State.setMarkCounted_markCounted : (s.setMarkCounted b).markCounted = b := rfl
@[simp] theorem State.setMarkCounted_peers : (s.setMarkCounted b).peers = s.peers := rfl
@[simp] theorem State.setMarkCounted_context : (s.setMarkCounted b).context = s.context := rfl
@[simp] theorem State.setMarkCounted_link : (s.setMarkCounted b).link = s.link := rfl
@[simp] theorem State.setMarkCounted_faults : (s.setMarkCounted b).faults = s.faults := rfl
@[simp] theorem State.setMarkCounted_alert : (s.setMarkCounted b).alert = s.alert := rfl
@[simp] theorem State.setMarkCounted_withdrawDue : (s.setMarkCounted b).withdrawDue = s.withdrawDue := rfl
end setMarkCounted

section setWithdrawDue
variable (b : Bool)
@[simp] theorem State.setWithdrawDue_pending : (s.setWithdrawDue b).pending = s.pending := rfl
@[simp] theorem State.setWithdrawDue_now : (s.setWithdrawDue b).now = s.now := rfl
@[simp] theorem State.setWithdrawDue_station : (s.setWithdrawDue b).station = s.station := rfl
@[simp] theorem State.setWithdrawDue_node : (s.setWithdrawDue b).node = s.node := rfl
@[simp] theorem State.setWithdrawDue_image : (s.setWithdrawDue b).image = s.image := rfl
@[simp] theorem State.setWithdrawDue_tracker : (s.setWithdrawDue b).tracker = s.tracker := rfl
@[simp] theorem State.setWithdrawDue_chanA : (s.setWithdrawDue b).chanA = s.chanA := rfl
@[simp] theorem State.setWithdrawDue_chanB : (s.setWithdrawDue b).chanB = s.chanB := rfl
@[simp] theorem State.setWithdrawDue_estimator : (s.setWithdrawDue b).estimator = s.estimator := rfl
@[simp] theorem State.setWithdrawDue_records : (s.setWithdrawDue b).records = s.records := rfl
@[simp] theorem State.setWithdrawDue_cylinders : (s.setWithdrawDue b).cylinders = s.cylinders := rfl
@[simp] theorem State.setWithdrawDue_markCounted : (s.setWithdrawDue b).markCounted = s.markCounted := rfl
@[simp] theorem State.setWithdrawDue_peers : (s.setWithdrawDue b).peers = s.peers := rfl
@[simp] theorem State.setWithdrawDue_context : (s.setWithdrawDue b).context = s.context := rfl
@[simp] theorem State.setWithdrawDue_link : (s.setWithdrawDue b).link = s.link := rfl
@[simp] theorem State.setWithdrawDue_faults : (s.setWithdrawDue b).faults = s.faults := rfl
@[simp] theorem State.setWithdrawDue_alert : (s.setWithdrawDue b).alert = s.alert := rfl
@[simp] theorem State.setWithdrawDue_withdrawDue : (s.setWithdrawDue b).withdrawDue = b := rfl
end setWithdrawDue

section onCyl
variable (c : Nat) (f : CylEntry → CylEntry)
@[simp] theorem State.onCyl_pending : (s.onCyl c f).pending = s.pending := rfl
@[simp] theorem State.onCyl_now : (s.onCyl c f).now = s.now := rfl
@[simp] theorem State.onCyl_station : (s.onCyl c f).station = s.station := rfl
@[simp] theorem State.onCyl_node : (s.onCyl c f).node = s.node := rfl
@[simp] theorem State.onCyl_image : (s.onCyl c f).image = s.image := rfl
@[simp] theorem State.onCyl_tracker : (s.onCyl c f).tracker = s.tracker := rfl
@[simp] theorem State.onCyl_chanA : (s.onCyl c f).chanA = s.chanA := rfl
@[simp] theorem State.onCyl_chanB : (s.onCyl c f).chanB = s.chanB := rfl
@[simp] theorem State.onCyl_estimator : (s.onCyl c f).estimator = s.estimator := rfl
@[simp] theorem State.onCyl_records : (s.onCyl c f).records = s.records := rfl
@[simp] theorem State.onCyl_cylinders : (s.onCyl c f).cylinders = s.cylinders.modify (c - 1) f := rfl
@[simp] theorem State.onCyl_markCounted : (s.onCyl c f).markCounted = s.markCounted := rfl
@[simp] theorem State.onCyl_peers : (s.onCyl c f).peers = s.peers := rfl
@[simp] theorem State.onCyl_context : (s.onCyl c f).context = s.context := rfl
@[simp] theorem State.onCyl_link : (s.onCyl c f).link = s.link := rfl
@[simp] theorem State.onCyl_faults : (s.onCyl c f).faults = s.faults := rfl
@[simp] theorem State.onCyl_alert : (s.onCyl c f).alert = s.alert := rfl
@[simp] theorem State.onCyl_withdrawDue : (s.onCyl c f).withdrawDue = s.withdrawDue := rfl
end onCyl

section onPeer
variable (st : Station) (f : PeerEntry → PeerEntry)
@[simp] theorem State.onPeer_pending : (s.onPeer st f).pending = s.pending := rfl
@[simp] theorem State.onPeer_now : (s.onPeer st f).now = s.now := rfl
@[simp] theorem State.onPeer_station : (s.onPeer st f).station = s.station := rfl
@[simp] theorem State.onPeer_node : (s.onPeer st f).node = s.node := rfl
@[simp] theorem State.onPeer_image : (s.onPeer st f).image = s.image := rfl
@[simp] theorem State.onPeer_tracker : (s.onPeer st f).tracker = s.tracker := rfl
@[simp] theorem State.onPeer_chanA : (s.onPeer st f).chanA = s.chanA := rfl
@[simp] theorem State.onPeer_chanB : (s.onPeer st f).chanB = s.chanB := rfl
@[simp] theorem State.onPeer_estimator : (s.onPeer st f).estimator = s.estimator := rfl
@[simp] theorem State.onPeer_records : (s.onPeer st f).records = s.records := rfl
@[simp] theorem State.onPeer_cylinders : (s.onPeer st f).cylinders = s.cylinders := rfl
@[simp] theorem State.onPeer_markCounted : (s.onPeer st f).markCounted = s.markCounted := rfl
@[simp] theorem State.onPeer_peers : (s.onPeer st f).peers = s.peers.modify st.val f := rfl
@[simp] theorem State.onPeer_context : (s.onPeer st f).context = s.context := rfl
@[simp] theorem State.onPeer_link : (s.onPeer st f).link = s.link := rfl
@[simp] theorem State.onPeer_faults : (s.onPeer st f).faults = s.faults := rfl
@[simp] theorem State.onPeer_alert : (s.onPeer st f).alert = s.alert := rfl
@[simp] theorem State.onPeer_withdrawDue : (s.onPeer st f).withdrawDue = s.withdrawDue := rfl
end onPeer

section onRecordOf
variable (c : Nat) (f : Record → Record)
@[simp] theorem State.onRecordOf_pending : (s.onRecordOf c f).pending = s.pending := rfl
@[simp] theorem State.onRecordOf_now : (s.onRecordOf c f).now = s.now := rfl
@[simp] theorem State.onRecordOf_station : (s.onRecordOf c f).station = s.station := rfl
@[simp] theorem State.onRecordOf_node : (s.onRecordOf c f).node = s.node := rfl
@[simp] theorem State.onRecordOf_image : (s.onRecordOf c f).image = s.image := rfl
@[simp] theorem State.onRecordOf_tracker : (s.onRecordOf c f).tracker = s.tracker := rfl
@[simp] theorem State.onRecordOf_chanA : (s.onRecordOf c f).chanA = s.chanA := rfl
@[simp] theorem State.onRecordOf_chanB : (s.onRecordOf c f).chanB = s.chanB := rfl
@[simp] theorem State.onRecordOf_estimator : (s.onRecordOf c f).estimator = s.estimator := rfl
@[simp] theorem State.onRecordOf_records : (s.onRecordOf c f).records = updateFirst (·.cyl == c) f s.records := rfl
@[simp] theorem State.onRecordOf_cylinders : (s.onRecordOf c f).cylinders = s.cylinders := rfl
@[simp] theorem State.onRecordOf_markCounted : (s.onRecordOf c f).markCounted = s.markCounted := rfl
@[simp] theorem State.onRecordOf_peers : (s.onRecordOf c f).peers = s.peers := rfl
@[simp] theorem State.onRecordOf_context : (s.onRecordOf c f).context = s.context := rfl
@[simp] theorem State.onRecordOf_link : (s.onRecordOf c f).link = s.link := rfl
@[simp] theorem State.onRecordOf_faults : (s.onRecordOf c f).faults = s.faults := rfl
@[simp] theorem State.onRecordOf_alert : (s.onRecordOf c f).alert = s.alert := rfl
@[simp] theorem State.onRecordOf_withdrawDue : (s.onRecordOf c f).withdrawDue = s.withdrawDue := rfl
end onRecordOf

section onOpenRecords
variable (f : Record → Record)
@[simp] theorem State.onOpenRecords_pending : (s.onOpenRecords f).pending = s.pending := rfl
@[simp] theorem State.onOpenRecords_now : (s.onOpenRecords f).now = s.now := rfl
@[simp] theorem State.onOpenRecords_station : (s.onOpenRecords f).station = s.station := rfl
@[simp] theorem State.onOpenRecords_node : (s.onOpenRecords f).node = s.node := rfl
@[simp] theorem State.onOpenRecords_image : (s.onOpenRecords f).image = s.image := rfl
@[simp] theorem State.onOpenRecords_tracker : (s.onOpenRecords f).tracker = s.tracker := rfl
@[simp] theorem State.onOpenRecords_chanA : (s.onOpenRecords f).chanA = s.chanA := rfl
@[simp] theorem State.onOpenRecords_chanB : (s.onOpenRecords f).chanB = s.chanB := rfl
@[simp] theorem State.onOpenRecords_estimator : (s.onOpenRecords f).estimator = s.estimator := rfl
@[simp] theorem State.onOpenRecords_records : (s.onOpenRecords f).records = s.records.map (fun o => o.map f) := rfl
@[simp] theorem State.onOpenRecords_cylinders : (s.onOpenRecords f).cylinders = s.cylinders := rfl
@[simp] theorem State.onOpenRecords_markCounted : (s.onOpenRecords f).markCounted = s.markCounted := rfl
@[simp] theorem State.onOpenRecords_peers : (s.onOpenRecords f).peers = s.peers := rfl
@[simp] theorem State.onOpenRecords_context : (s.onOpenRecords f).context = s.context := rfl
@[simp] theorem State.onOpenRecords_link : (s.onOpenRecords f).link = s.link := rfl
@[simp] theorem State.onOpenRecords_faults : (s.onOpenRecords f).faults = s.faults := rfl
@[simp] theorem State.onOpenRecords_alert : (s.onOpenRecords f).alert = s.alert := rfl
@[simp] theorem State.onOpenRecords_withdrawDue : (s.onOpenRecords f).withdrawDue = s.withdrawDue := rfl
end onOpenRecords

section freeRecord
variable (c : Nat)
@[simp] theorem State.freeRecord_pending : (s.freeRecord c).pending = s.pending := rfl
@[simp] theorem State.freeRecord_now : (s.freeRecord c).now = s.now := rfl
@[simp] theorem State.freeRecord_station : (s.freeRecord c).station = s.station := rfl
@[simp] theorem State.freeRecord_node : (s.freeRecord c).node = s.node := rfl
@[simp] theorem State.freeRecord_image : (s.freeRecord c).image = s.image := rfl
@[simp] theorem State.freeRecord_tracker : (s.freeRecord c).tracker = s.tracker := rfl
@[simp] theorem State.freeRecord_chanA : (s.freeRecord c).chanA = s.chanA := rfl
@[simp] theorem State.freeRecord_chanB : (s.freeRecord c).chanB = s.chanB := rfl
@[simp] theorem State.freeRecord_estimator : (s.freeRecord c).estimator = s.estimator := rfl
@[simp] theorem State.freeRecord_records : (s.freeRecord c).records = s.records.map (fun o => o.filter (fun r => r.cyl != c)) := rfl
@[simp] theorem State.freeRecord_cylinders : (s.freeRecord c).cylinders = s.cylinders := rfl
@[simp] theorem State.freeRecord_markCounted : (s.freeRecord c).markCounted = s.markCounted := rfl
@[simp] theorem State.freeRecord_peers : (s.freeRecord c).peers = s.peers := rfl
@[simp] theorem State.freeRecord_context : (s.freeRecord c).context = s.context := rfl
@[simp] theorem State.freeRecord_link : (s.freeRecord c).link = s.link := rfl
@[simp] theorem State.freeRecord_faults : (s.freeRecord c).faults = s.faults := rfl
@[simp] theorem State.freeRecord_alert : (s.freeRecord c).alert = s.alert := rfl
@[simp] theorem State.freeRecord_withdrawDue : (s.freeRecord c).withdrawDue = s.withdrawDue := rfl
end freeRecord

section removeReports
variable (p : TxEntry → Bool)
@[simp] theorem State.removeReports_pending : (s.removeReports p).pending = s.pending := rfl
@[simp] theorem State.removeReports_now : (s.removeReports p).now = s.now := rfl
@[simp] theorem State.removeReports_station : (s.removeReports p).station = s.station := rfl
@[simp] theorem State.removeReports_node : (s.removeReports p).node = s.node := rfl
@[simp] theorem State.removeReports_image : (s.removeReports p).image = s.image := rfl
@[simp] theorem State.removeReports_tracker : (s.removeReports p).tracker = s.tracker := rfl
@[simp] theorem State.removeReports_chanA : (s.removeReports p).chanA = s.chanA := rfl
@[simp] theorem State.removeReports_chanB : (s.removeReports p).chanB = s.chanB := rfl
@[simp] theorem State.removeReports_estimator : (s.removeReports p).estimator = s.estimator := rfl
@[simp] theorem State.removeReports_records : (s.removeReports p).records = s.records := rfl
@[simp] theorem State.removeReports_cylinders : (s.removeReports p).cylinders = s.cylinders := rfl
@[simp] theorem State.removeReports_markCounted : (s.removeReports p).markCounted = s.markCounted := rfl
@[simp] theorem State.removeReports_peers : (s.removeReports p).peers = s.peers := rfl
@[simp] theorem State.removeReports_context : (s.removeReports p).context = s.context := rfl
@[simp] theorem State.removeReports_link : (s.removeReports p).link = s.link.removeEntries p := rfl
@[simp] theorem State.removeReports_faults : (s.removeReports p).faults = s.faults := rfl
@[simp] theorem State.removeReports_alert : (s.removeReports p).alert = s.alert := rfl
@[simp] theorem State.removeReports_withdrawDue : (s.removeReports p).withdrawDue = s.withdrawDue := rfl
end removeReports

section onChans
variable (f : Channel → Channel)
@[simp] theorem State.onChans_pending : (s.onChans f).pending = s.pending := rfl
@[simp] theorem State.onChans_now : (s.onChans f).now = s.now := rfl
@[simp] theorem State.onChans_station : (s.onChans f).station = s.station := rfl
@[simp] theorem State.onChans_node : (s.onChans f).node = s.node := rfl
@[simp] theorem State.onChans_image : (s.onChans f).image = s.image := rfl
@[simp] theorem State.onChans_tracker : (s.onChans f).tracker = s.tracker := rfl
@[simp] theorem State.onChans_chanA : (s.onChans f).chanA = f s.chanA := rfl
@[simp] theorem State.onChans_chanB : (s.onChans f).chanB = f s.chanB := rfl
@[simp] theorem State.onChans_estimator : (s.onChans f).estimator = s.estimator := rfl
@[simp] theorem State.onChans_records : (s.onChans f).records = s.records := rfl
@[simp] theorem State.onChans_cylinders : (s.onChans f).cylinders = s.cylinders := rfl
@[simp] theorem State.onChans_markCounted : (s.onChans f).markCounted = s.markCounted := rfl
@[simp] theorem State.onChans_peers : (s.onChans f).peers = s.peers := rfl
@[simp] theorem State.onChans_context : (s.onChans f).context = s.context := rfl
@[simp] theorem State.onChans_link : (s.onChans f).link = s.link := rfl
@[simp] theorem State.onChans_faults : (s.onChans f).faults = s.faults := rfl
@[simp] theorem State.onChans_alert : (s.onChans f).alert = s.alert := rfl
@[simp] theorem State.onChans_withdrawDue : (s.onChans f).withdrawDue = s.withdrawDue := rfl
end onChans

section onChan
variable (ch : Chan) (f : Channel → Channel)
@[simp] theorem State.onChan_pending : (s.onChan ch f).pending = s.pending := by cases ch <;> rfl
@[simp] theorem State.onChan_now : (s.onChan ch f).now = s.now := by cases ch <;> rfl
@[simp] theorem State.onChan_station : (s.onChan ch f).station = s.station := by cases ch <;> rfl
@[simp] theorem State.onChan_node : (s.onChan ch f).node = s.node := by cases ch <;> rfl
@[simp] theorem State.onChan_image : (s.onChan ch f).image = s.image := by cases ch <;> rfl
@[simp] theorem State.onChan_tracker : (s.onChan ch f).tracker = s.tracker := by cases ch <;> rfl
@[simp] theorem State.onChan_estimator : (s.onChan ch f).estimator = s.estimator := by cases ch <;> rfl
@[simp] theorem State.onChan_records : (s.onChan ch f).records = s.records := by cases ch <;> rfl
@[simp] theorem State.onChan_cylinders : (s.onChan ch f).cylinders = s.cylinders := by cases ch <;> rfl
@[simp] theorem State.onChan_markCounted : (s.onChan ch f).markCounted = s.markCounted := by cases ch <;> rfl
@[simp] theorem State.onChan_peers : (s.onChan ch f).peers = s.peers := by cases ch <;> rfl
@[simp] theorem State.onChan_context : (s.onChan ch f).context = s.context := by cases ch <;> rfl
@[simp] theorem State.onChan_link : (s.onChan ch f).link = s.link := by cases ch <;> rfl
@[simp] theorem State.onChan_faults : (s.onChan ch f).faults = s.faults := by cases ch <;> rfl
@[simp] theorem State.onChan_alert : (s.onChan ch f).alert = s.alert := by cases ch <;> rfl
@[simp] theorem State.onChan_withdrawDue : (s.onChan ch f).withdrawDue = s.withdrawDue := by cases ch <;> rfl
@[simp] theorem State.onChan_self : (s.onChan ch f).chan ch = f (s.chan ch) := by cases ch <;> rfl
theorem State.onChan_other {ch' : Chan} (h : ch' ≠ ch) : (s.onChan ch f).chan ch' = s.chan ch' := by
  cases ch <;> cases ch' <;> first | rfl | exact absurd rfl h
end onChan

section advance
variable (t : Tick)
@[simp] theorem State.advance_pending : (s.advance t).pending = s.pending := rfl
@[simp] theorem State.advance_now : (s.advance t).now = t := rfl
@[simp] theorem State.advance_station : (s.advance t).station = s.station := rfl
@[simp] theorem State.advance_node : (s.advance t).node = s.node.elapse (ticksFrom s.now t) := rfl
@[simp] theorem State.advance_image : (s.advance t).image = s.image := rfl
@[simp] theorem State.advance_tracker : (s.advance t).tracker = s.tracker.elapse s.params t (ticksFrom s.now t) := rfl
@[simp] theorem State.advance_chanA : (s.advance t).chanA = s.chanA.elapse (ticksFrom s.now t) := rfl
@[simp] theorem State.advance_chanB : (s.advance t).chanB = s.chanB.elapse (ticksFrom s.now t) := rfl
@[simp] theorem State.advance_estimator : (s.advance t).estimator = s.estimator := rfl
@[simp] theorem State.advance_records : (s.advance t).records = s.records := rfl
@[simp] theorem State.advance_cylinders : (s.advance t).cylinders = s.cylinders := rfl
@[simp] theorem State.advance_markCounted : (s.advance t).markCounted = s.markCounted := rfl
@[simp] theorem State.advance_peers : (s.advance t).peers = s.peers := rfl
@[simp] theorem State.advance_context : (s.advance t).context = s.context.elapse (ticksFrom s.now t) := rfl
@[simp] theorem State.advance_link : (s.advance t).link = s.link.elapse (ticksFrom s.now t) := rfl
@[simp] theorem State.advance_faults : (s.advance t).faults = s.faults := rfl
@[simp] theorem State.advance_alert : (s.advance t).alert = s.alert.elapse (ticksFrom s.now t) := rfl
@[simp] theorem State.advance_withdrawDue : (s.advance t).withdrawDue = s.withdrawDue := rfl
@[simp] theorem State.advance_params : (s.advance t).params = s.params := rfl
end advance

/-! ## What passing time leaves alone -/

section elapse
variable (d : Nat)
@[simp] theorem NodeCtl.elapse_state (n : NodeCtl) : (n.elapse d).state = n.state := rfl
@[simp] theorem ConfigPort.elapse_idle (p : ConfigPort) : p.elapse d = .idle ↔ p = .idle := by cases p <;> simp [ConfigPort.elapse]
@[simp] theorem NodeCtl.elapse_port (n : NodeCtl) : (n.elapse d).port = n.port.elapse d := rfl
@[simp] theorem Channel.elapse_state (c : Channel) : (c.elapse d).state = c.state := rfl
@[simp] theorem Channel.elapse_integrator (c : Channel) : (c.elapse d).integrator = c.integrator := rfl
@[simp] theorem Channel.elapse_openFault (c : Channel) : (c.elapse d).openFault = c.openFault := rfl
@[simp] theorem Channel.elapse_shockPeak (c : Channel) : (c.elapse d).shockPeak = c.shockPeak := rfl
@[simp] theorem Context.elapse_current (c : Context) : (c.elapse d).current = c.current := rfl
@[simp] theorem Context.elapse_pendingCtx (c : Context) : (c.elapse d).pendingCtx = c.pendingCtx := rfl
@[simp] theorem Context.elapse_freshness (c : Context) : (c.elapse d).freshness = c.freshness := rfl
@[simp] theorem Link.elapse_queue (l : Link) : (l.elapse d).queue = l.queue := rfl
@[simp] theorem Link.elapse_acq (l : Link) : (l.elapse d).acq = l.acq := rfl
@[simp] theorem Link.elapse_inhibit (l : Link) : (l.elapse d).inhibit = l.inhibit := rfl
@[simp] theorem Link.elapse_receiver (l : Link) : (l.elapse d).receiver = l.receiver := rfl
@[simp] theorem Link.elapse_recessiveRun (l : Link) : (l.elapse d).recessiveRun = l.recessiveRun := rfl
@[simp] theorem AlertUnit.elapse_sources (a : AlertUnit) : (a.elapse d).sources = a.sources := rfl
@[simp] theorem AlertUnit.elapse_line (a : AlertUnit) : (a.elapse d).line = a.line := rfl
@[simp] theorem AlertUnit.elapse_raiseSeq (a : AlertUnit) : (a.elapse d).raiseSeq = a.raiseSeq := rfl
theorem Transmitter.elapse_idle (x : Transmitter) : x.elapse d = .idle ↔ x = .idle := by
  cases x with
  | idle => simp [Transmitter.elapse]
  | arbitrating e r l => simp only [Transmitter.elapse]; split <;> simp
  | sending e => simp [Transmitter.elapse]
end elapse

/-! ## Parameters, cylinders, peers -/

theorem State.params_congr {s t : State} (h : t.image = s.image) : t.params = s.params := by
  simp only [State.params, h]

theorem State.cyl_congr {s t : State} (h : t.cylinders = s.cylinders) (c : Nat) : t.cyl c = s.cyl c := by
  simp only [State.cyl, h]

theorem State.peer_congr {s t : State} (h : t.peers = s.peers) (st : Station) : t.peer st = s.peer st := by
  simp only [State.peer, h]

theorem getD_modify_eq {α : Type} (l : List α) (i : Nat) (f : α → α) (d : α) (h : i < l.length) :
    (l.modify i f).getD i d = f (l.getD i d) := by
  simp [List.getD_eq_getElem?_getD, h]

theorem getD_modify_ne {α : Type} (l : List α) {i j : Nat} (f : α → α) (d : α) (h : i ≠ j) :
    (l.modify i f).getD j d = l.getD j d := by
  simp [List.getD_eq_getElem?_getD, h]

end Updates

end Sys2Proof.Machine
end

