-- ==== Sys2Proof/Laws/Line.lean ====
section
/-! SUPPORT. What reading cells and receiving a frame can do: cells move only the two runs, time does not change whether the
receiver takes a frame, and a frame is taken, let pass or not read at all. -/

namespace Sys2Proof.Machine

/-- Cells read move only the two runs of the line monitor (R142). -/
theorem Link.readCells_keeps (cells : List Bool) (l : Link) :
    ∃ d r, l.readCells cells = { l with dominantRun := d, recessiveRun := r } := by
  induction cells generalizing l with
  | nil => exact ⟨_, _, rfl⟩
  | cons c cells ih =>
    obtain ⟨d, r, h⟩ := ih (l.readCell c)
    refine ⟨d, r, ?_⟩
    show (l.readCell c).readCells cells = _
    rw [h]
    cases c <;> rfl

/-- A frame's cells move only the two runs, and what they leave does not rest on the runs before (R136). -/
theorem Link.readFrame_keeps (cells : List Bool) (l : Link) :
    ∃ d r, l.readFrame cells = { l with dominantRun := d, recessiveRun := r } :=
  Link.readCells_keeps cells _

theorem Link.readFrame_of_gap (cells : List Bool) (l : Link) (hd : l.dominantRun = 0) (hr : l.recessiveRun = Config.gapCells) :
    l.readFrame cells = l.readCells cells := by
  unfold Link.readFrame
  rw [← hd, ← hr]

/-- Time alone does not change whether the receiver takes a frame. -/
@[simp] theorem Link.takesFrame_elapse (d : Nat) (l : Link) : (l.elapse d).takesFrame = l.takesFrame := by
  unfold Link.takesFrame Link.elapse Transmitter.elapse
  cases l.transmitter with
  | idle => rfl
  | sending e => rfl
  | arbitrating e removed left => dsimp only; split <;> rfl

@[simp] theorem State.advance_takesFrame (t : Tick) (s : State) : (s.advance t).link.takesFrame = s.link.takesFrame :=
  Link.takesFrame_elapse _ _

/-- R136: a frame that the receiver takes. -/
theorem State.receive_taken {s : State} (cells : List Bool) (take : State → State) (hn : s.node.state ≠ .loading)
    (ht : s.link.takesFrame = true) : s.receive cells take = take s := by
  unfold State.receive
  rw [if_neg hn, if_pos ht]

/-- R136: a frame that the receiver lets pass: only its cells are counted. -/
theorem State.receive_passed {s : State} (cells : List Bool) (take : State → State) (hn : s.node.state ≠ .loading)
    (ht : s.link.takesFrame = false) (hi : s.link.transmitter = .idle) :
    s.receive cells take = s.onLink (Link.passFrame cells) := by
  unfold State.receive
  rw [if_neg hn, if_neg (by simp [ht]), if_pos hi]

/-- R133: in LOADING nothing is read. -/
theorem State.receive_loading {s : State} (cells : List Bool) (take : State → State) (hn : s.node.state = .loading) :
    s.receive cells take = s := by
  unfold State.receive
  rw [if_pos hn]

/-- R140, R141: no cell both loses the arbitration and clashes. -/
theorem losesAt_not_clashesAt {chars : List Byte} {cell : Nat} (h : losesAt chars cell = true) :
    clashesAt chars cell = false := by
  unfold losesAt at h
  rw [Bool.and_eq_true, decide_eq_true_eq] at h
  unfold clashesAt
  rw [h.2, decide_eq_false (by omega : ¬10 ≤ cell)]
  exact Bool.and_false _

end Sys2Proof.Machine
end

