-- ==== Sys2Proof/Laws/PerInstr.lean ====
section
/-! SUPPORT. What well-formedness asks of each command, one lemma per constructor of `Instr`. -/

namespace Sys2Proof.Laws.Wf

/-- What a command of the hardware must meet, in the words of the rules: a read clocks in 256 bytes (R160), a rejected
frame has begun and fails a check (R136, R137), a valid frame holds its kind's payload (R167), an unknown code names no
order (R163), arbitration is lost in the header's data cells (R140), and a clash lies within the longest frame (R135). -/
def Form (i : Instr) : Prop :=
  match i with
  | .resetNRelease _ _ => True
  | .configReadDone _ bytes => bytes.length = 256
  | .configRetryTimer _ => True
  | .toothEdge _ _ => True
  | .stall _ => True
  | .camEdge _ => True
  | .interpolatedMark _ => True
  | .knockSample _ _ _ => True
  | .probeEnd _ => True
  | .biasAboveThreshold _ _ => True
  | .biasBelowThreshold _ _ => True
  | .qualificationExpiry _ _ => True
  | .frameRejected _ chars ending => chars ≠ [] ∧ Machine.judgeFrame chars ending ≠ .valid
  | .ownStationFrame _ kind payload => payload.length = kind.payloadLen
  | .peerReportReceived _ _ _ _ => True
  | .joltReceived _ _ _ _ => True
  | .phaseReceived _ _ _ _ => True
  | .witnessReceived _ _ _ _ _ => True
  | .verdictReceived _ _ _ _ _ _ _ => True
  | .orderServe _ _ _ _ _ => True
  | .orderClearCounts _ _ _ _ _ => True
  | .orderRelearn _ _ _ _ _ => True
  | .orderClearFaults _ _ _ _ _ => True
  | .orderHold _ _ _ _ _ => True
  | .orderResume _ _ _ _ _ => True
  | .orderRestart _ _ _ _ _ => True
  | .orderReport _ _ _ _ _ => True
  | .orderUnknownCode _ _ _ code _ _ => Machine.orderOfCode code.toNat = none
  | .interframeGapEnd _ => True
  | .stuckLine _ => True
  | .transmissionBegin _ => True
  | .arbitrationLost _ cell => 1 ≤ cell ∧ cell ≤ 9
  | .transmitClash _ cell => cell < 110
  | .transmissionEnd _ => True
  | .dwellTimerExpiry _ => True
  | .peerTimeoutTick _ => True
  | .shockHoldExpiry _ => True
  | .joltGuardExpiry _ => True
  | .holdOffExpiry _ => True
  | .listenEnd _ => True
  | .statusTimerExpiry _ => True
  | .envelopeExceedsShockPeak _ _ _ => True
  | .dominantCellBeforeGap _ => True

/-- A command is well-formed exactly when it has the form that the rules ask for. -/
def Statement (i : Instr) : Prop := WellFormed i = true ↔ Form i

theorem resetNRelease (t : Tick) (straps : Station) :
    Statement (.resetNRelease t straps) := ⟨fun _ => trivial, fun _ => rfl⟩
theorem configReadDone (t : Tick) (bytes : List Byte) : Statement (.configReadDone t bytes) := beq_iff_eq
theorem configRetryTimer (t : Tick) : Statement (.configRetryTimer t) := ⟨fun _ => trivial, fun _ => rfl⟩
theorem toothEdge (t : Tick) (order : BoundaryOrder) :
    Statement (.toothEdge t order) := ⟨fun _ => trivial, fun _ => rfl⟩
theorem stall (t : Tick) : Statement (.stall t) := ⟨fun _ => trivial, fun _ => rfl⟩
theorem camEdge (t : Tick) : Statement (.camEdge t) := ⟨fun _ => trivial, fun _ => rfl⟩
theorem interpolatedMark (t : Tick) : Statement (.interpolatedMark t) := ⟨fun _ => trivial, fun _ => rfl⟩
theorem knockSample (t : Tick) (ch : Chan) (magnitude : BitVec 11) :
    Statement (.knockSample t ch magnitude) := ⟨fun _ => trivial, fun _ => rfl⟩
theorem probeEnd (t : Tick) : Statement (.probeEnd t) := ⟨fun _ => trivial, fun _ => rfl⟩
theorem biasAboveThreshold (t : Tick) (ch : Chan) :
    Statement (.biasAboveThreshold t ch) := ⟨fun _ => trivial, fun _ => rfl⟩
theorem biasBelowThreshold (t : Tick) (ch : Chan) :
    Statement (.biasBelowThreshold t ch) := ⟨fun _ => trivial, fun _ => rfl⟩
theorem qualificationExpiry (t : Tick) (ch : Chan) :
    Statement (.qualificationExpiry t ch) := ⟨fun _ => trivial, fun _ => rfl⟩
theorem frameRejected (t : Tick) (chars : List Byte) (ending : FrameEnd) :
    Statement (.frameRejected t chars ending) := by
  show (frameBegun chars && frameFails chars ending) = true ↔ chars ≠ [] ∧ Machine.judgeFrame chars ending ≠ .valid
  simp [frameBegun, frameFails]
theorem ownStationFrame (t : Tick) (kind : Kind) (payload : List Byte) :
    Statement (.ownStationFrame t kind payload) := beq_iff_eq
theorem peerReportReceived (t : Tick) (st : Station) (kind : PassiveKind) (payload : BitVec 64) :
    Statement (.peerReportReceived t st kind payload) := ⟨fun _ => trivial, fun _ => rfl⟩
theorem joltReceived (t : Tick) (st : Station) (peak hold : BitVec 16) :
    Statement (.joltReceived t st peak hold) := ⟨fun _ => trivial, fun _ => rfl⟩
theorem phaseReceived (t : Tick) (st : Station) (cutMask flags : Byte) :
    Statement (.phaseReceived t st cutMask flags) := ⟨fun _ => trivial, fun _ => rfl⟩
theorem witnessReceived (t : Tick) (st : Station) (cyl : Byte) (score : BitVec 16) (flags : Byte) :
    Statement (.witnessReceived t st cyl score flags) := ⟨fun _ => trivial, fun _ => rfl⟩
theorem verdictReceived (t : Tick) (st : Station) (b0 b1 : Byte) (score loss : BitVec 16) (count : Byte) :
    Statement (.verdictReceived t st b0 b1 score loss count) := ⟨fun _ => trivial, fun _ => rfl⟩
theorem orderServe (t : Tick) (st : Station) (target arg1 arg2 : Byte) :
    Statement (.orderServe t st target arg1 arg2) := ⟨fun _ => trivial, fun _ => rfl⟩
theorem orderClearCounts (t : Tick) (st : Station) (target arg1 arg2 : Byte) :
    Statement (.orderClearCounts t st target arg1 arg2) := ⟨fun _ => trivial, fun _ => rfl⟩
theorem orderRelearn (t : Tick) (st : Station) (target arg1 arg2 : Byte) :
    Statement (.orderRelearn t st target arg1 arg2) := ⟨fun _ => trivial, fun _ => rfl⟩
theorem orderClearFaults (t : Tick) (st : Station) (target arg1 arg2 : Byte) :
    Statement (.orderClearFaults t st target arg1 arg2) := ⟨fun _ => trivial, fun _ => rfl⟩
theorem orderHold (t : Tick) (st : Station) (target arg1 arg2 : Byte) :
    Statement (.orderHold t st target arg1 arg2) := ⟨fun _ => trivial, fun _ => rfl⟩
theorem orderResume (t : Tick) (st : Station) (target arg1 arg2 : Byte) :
    Statement (.orderResume t st target arg1 arg2) := ⟨fun _ => trivial, fun _ => rfl⟩
theorem orderRestart (t : Tick) (st : Station) (target arg1 arg2 : Byte) :
    Statement (.orderRestart t st target arg1 arg2) := ⟨fun _ => trivial, fun _ => rfl⟩
theorem orderReport (t : Tick) (st : Station) (target arg1 arg2 : Byte) :
    Statement (.orderReport t st target arg1 arg2) := ⟨fun _ => trivial, fun _ => rfl⟩
theorem orderUnknownCode (t : Tick) (st : Station) (target code arg1 arg2 : Byte) :
    Statement (.orderUnknownCode t st target code arg1 arg2) := by
  show codeUnknown code = true ↔ Machine.orderOfCode code.toNat = none
  simp only [codeUnknown, Machine.orderOfCode, Bool.or_eq_true, decide_eq_true_eq, beq_iff_eq]
  split <;> simp_all
  omega
theorem interframeGapEnd (t : Tick) : Statement (.interframeGapEnd t) := ⟨fun _ => trivial, fun _ => rfl⟩
theorem stuckLine (t : Tick) : Statement (.stuckLine t) := ⟨fun _ => trivial, fun _ => rfl⟩
theorem transmissionBegin (t : Tick) : Statement (.transmissionBegin t) := ⟨fun _ => trivial, fun _ => rfl⟩
theorem arbitrationLost (t : Tick) (cell : Nat) :
    Statement (.arbitrationLost t cell) := by
  show headerCell cell = true ↔ 1 ≤ cell ∧ cell ≤ 9
  simp [headerCell]
theorem transmitClash (t : Tick) (cell : Nat) : Statement (.transmitClash t cell) := decide_eq_true_iff
theorem transmissionEnd (t : Tick) : Statement (.transmissionEnd t) := ⟨fun _ => trivial, fun _ => rfl⟩
theorem dwellTimerExpiry (t : Tick) : Statement (.dwellTimerExpiry t) := ⟨fun _ => trivial, fun _ => rfl⟩
theorem peerTimeoutTick (t : Tick) : Statement (.peerTimeoutTick t) := ⟨fun _ => trivial, fun _ => rfl⟩
theorem shockHoldExpiry (t : Tick) : Statement (.shockHoldExpiry t) := ⟨fun _ => trivial, fun _ => rfl⟩
theorem joltGuardExpiry (t : Tick) : Statement (.joltGuardExpiry t) := ⟨fun _ => trivial, fun _ => rfl⟩
theorem holdOffExpiry (t : Tick) : Statement (.holdOffExpiry t) := ⟨fun _ => trivial, fun _ => rfl⟩
theorem listenEnd (t : Tick) : Statement (.listenEnd t) := ⟨fun _ => trivial, fun _ => rfl⟩
theorem statusTimerExpiry (t : Tick) : Statement (.statusTimerExpiry t) := ⟨fun _ => trivial, fun _ => rfl⟩
theorem envelopeExceedsShockPeak (t : Tick) (ch : Chan) (envelope : BitVec 16) :
    Statement (.envelopeExceedsShockPeak t ch envelope) := ⟨fun _ => trivial, fun _ => rfl⟩
theorem dominantCellBeforeGap (t : Tick) :
    Statement (.dominantCellBeforeGap t) := ⟨fun _ => trivial, fun _ => rfl⟩

end Sys2Proof.Laws.Wf
end

