-- ==== Sys2Proof/Laws/Signals.lean ====
section
/-! SUPPORT. What queuing a report, passing an occurrence, raising a source and bringing the service level up to date can
do: the body of the state stays as it was, and so do the parts of the Fault Unit and the Alert Unit that no hand-off
writes. -/

namespace Sys2Proof.Machine

/-! ## The body -/

section Fields

variable {s t : State} (h : t.body = s.body)

include h

theorem State.body_pending : t.pending = s.pending := by have e := congrArg State.pending h; exact e
theorem State.body_now : t.now = s.now := by have e := congrArg State.now h; exact e
theorem State.body_station : t.station = s.station := by have e := congrArg State.station h; exact e
theorem State.body_node : t.node = s.node := by have e := congrArg State.node h; exact e
theorem State.body_image : t.image = s.image := by have e := congrArg State.image h; exact e
theorem State.body_tracker : t.tracker = s.tracker := by have e := congrArg State.tracker h; exact e
theorem State.body_chanA : t.chanA = s.chanA := by have e := congrArg State.chanA h; exact e
theorem State.body_chanB : t.chanB = s.chanB := by have e := congrArg State.chanB h; exact e
theorem State.body_estimator : t.estimator = s.estimator := by have e := congrArg State.estimator h; exact e
theorem State.body_records : t.records = s.records := by have e := congrArg State.records h; exact e
theorem State.body_cylinders : t.cylinders = s.cylinders := by have e := congrArg State.cylinders h; exact e
theorem State.body_markCounted : t.markCounted = s.markCounted := by have e := congrArg State.markCounted h; exact e
theorem State.body_peers : t.peers = s.peers := by have e := congrArg State.peers h; exact e
theorem State.body_context : t.context = s.context := by have e := congrArg State.context h; exact e
theorem State.body_link : t.link.bare = s.link.bare := by have e := congrArg State.link h; exact e
theorem State.body_acq : t.link.acq = s.link.acq := by
  have e := congrArg Link.acq (State.body_link h); exact e
theorem State.body_inhibit : t.link.inhibit = s.link.inhibit := by
  have e := congrArg Link.inhibit (State.body_link h); exact e
theorem State.body_transmitter : t.link.transmitter = s.link.transmitter := by
  have e := congrArg Link.transmitter (State.body_link h); exact e

theorem State.body_params : t.params = s.params := State.params_congr (State.body_image h)

theorem State.body_chan (ch : Chan) : t.chan ch = s.chan ch := by
  cases ch
  · exact State.body_chanA h
  · exact State.body_chanB h

end Fields

theorem State.putReport_body (s : State) (k : Kind) (c : Option Nat) (p : List Byte) :
    (s.putReport k c p).1.body = s.body := rfl

theorem State.raiseStep_body (s : State) (x : AlertSource) : (s.raiseStep x).1.body = s.body := rfl

theorem State.capture_body (s : State) (o : Occurrence) : (s.capture o).1.body = s.body := by
  unfold State.capture
  split
  · rfl
  · exact (State.raiseStep_body _ _).trans (State.putReport_body _ _ _ _)

theorem State.takeOccurrence_body (s : State) (o : Occurrence) : (s.takeOccurrence o).1.body = s.body := by
  have hc := State.capture_body (s.onFaults (FaultUnit.countOccurrence o.cls)) o
  unfold State.takeOccurrence
  dsimp only
  split
  · rfl
  · split
    · exact hc
    · exact hc

/-- A fold of steps that each keep the body keeps it. -/
theorem foldl_body {α : Type} (f : State → α → State) (hf : ∀ s a, (f s a).body = s.body) (l : List α) (s : State) :
    (l.foldl f s).body = s.body := by
  induction l generalizing s with
  | nil => rfl
  | cons a l ih => exact (ih (f s a)).trans (hf s a)

theorem State.occur_body (s : State) (o : Occurrence) : (s.occur o).body = s.body :=
  (foldl_body _ State.takeOccurrence_body _ _).trans (State.takeOccurrence_body s o)

theorem State.fault_body (s : State) (cls : FaultClass) (st : Option Station) (k c : Option Nat) :
    (s.fault cls st k c).body = s.body := State.occur_body s _

theorem State.raise_body (s : State) (x : AlertSource) : (s.raise x).body = s.body :=
  (foldl_body _ State.occur_body _ _).trans (State.raiseStep_body s x)

theorem State.queueReport_body (s : State) (k : Kind) (c : Option Nat) (p : List Byte) :
    (s.queueReport k c p).body = s.body :=
  (foldl_body _ State.occur_body _ _).trans (State.putReport_body s k c p)

theorem State.queueStatus_body (s : State) : s.queueStatus.body = s.body := State.queueReport_body s _ _ _

theorem State.updateService_body (s : State) : s.updateService.body = s.body := by
  unfold State.updateService
  split
  · rfl
  · exact State.raise_body _ _

/-! ## What of the Fault Unit and the Alert Unit no hand-off writes -/

/-- The parts of the Fault Unit and the Alert Unit that no occurrence and no raise writes: the service level, every mask
and severity, and the number of entries. -/
structure State.KeepsSetup (s t : State) : Prop where
  service : t.faults.service = s.faults.service
  masks : t.faults.classes.map (·.mask) = s.faults.classes.map (·.mask)
  severities : t.faults.classes.map (·.severity) = s.faults.classes.map (·.severity)
  alertMasks : t.alert.sources.map (·.mask) = s.alert.sources.map (·.mask)
  first : ∀ x, s.faults.first = some x → t.faults.first = some x

theorem State.KeepsSetup.refl (s : State) : s.KeepsSetup s := ⟨rfl, rfl, rfl, rfl, fun _ h => h⟩

theorem State.KeepsSetup.trans {s t u : State} (h : s.KeepsSetup t) (h' : t.KeepsSetup u) : s.KeepsSetup u :=
  ⟨h'.service.trans h.service, h'.masks.trans h.masks, h'.severities.trans h.severities,
    h'.alertMasks.trans h.alertMasks, fun x hx => h'.first x (h.first x hx)⟩

/-- An update of one entry that keeps a part of it keeps the list of that part. -/
theorem map_modify_eq {α β : Type} (g : α → β) (f : α → α) (hf : ∀ x, g (f x) = g x) (l : List α) (i : Nat) :
    (l.modify i f).map g = l.map g := by
  apply List.ext_getElem?
  intro j
  simp only [List.getElem?_map, List.getElem?_modify]
  split <;> cases l[j]? <;> simp [hf]

theorem State.putReport_keepsSetup (s : State) (k : Kind) (c : Option Nat) (p : List Byte) :
    s.KeepsSetup (s.putReport k c p).1 := ⟨rfl, rfl, rfl, rfl, fun _ h => h⟩

theorem AlertUnit.latchSource_masks (x : AlertSource) (a : AlertUnit) :
    (AlertUnit.latchSource x a).sources.map (·.mask) = a.sources.map (·.mask) :=
  map_modify_eq (·.mask) (fun y : SourceState => { y with latch := true, latest := a.raiseSeq + 1 }) (fun _ => rfl)
    a.sources x.index

theorem AlertUnit.assertLine_sources (n : NodeState) (a : AlertUnit) : (AlertUnit.assertLine n a).sources = a.sources := by
  unfold AlertUnit.assertLine
  split <;> rfl

theorem State.raiseStep_keepsSetup (s : State) (x : AlertSource) : s.KeepsSetup (s.raiseStep x).1 := by
  refine ⟨rfl, rfl, rfl, ?_, fun _ h => h⟩
  show ((AlertUnit.assertLine _ (AlertUnit.latchSource x s.alert)).sources).map _ = _
  rw [AlertUnit.assertLine_sources]
  exact AlertUnit.latchSource_masks x s.alert

theorem State.countOccurrence_keepsSetup (s : State) (c : FaultClass) :
    s.KeepsSetup (s.onFaults (FaultUnit.countOccurrence c)) :=
  ⟨rfl,
    map_modify_eq (·.mask) (fun x : ClassState => { x with status := true, count := min (x.count + 1) 255 })
      (fun _ => rfl) s.faults.classes c.index,
    map_modify_eq (·.severity) (fun x : ClassState => { x with status := true, count := min (x.count + 1) 255 })
      (fun _ => rfl) s.faults.classes c.index,
    rfl, fun _ h => h⟩

theorem State.capture_keepsSetup (s : State) (o : Occurrence) : s.KeepsSetup (s.capture o).1 := by
  unfold State.capture
  split
  · exact ⟨rfl, rfl, rfl, rfl, fun _ h => h⟩
  · next hn =>
    have h1 : s.KeepsSetup (s.onFaults (fun f => { f with first := some (o.captured f.service) })) :=
      ⟨rfl, rfl, rfl, rfl, fun _ h => absurd (hn.symm.trans h) (by simp)⟩
    exact (h1.trans (State.putReport_keepsSetup _ _ _ _)).trans (State.raiseStep_keepsSetup _ _)

theorem State.takeOccurrence_keepsSetup (s : State) (o : Occurrence) : s.KeepsSetup (s.takeOccurrence o).1 := by
  have h0 := State.countOccurrence_keepsSetup s o.cls
  have h1 := h0.trans (State.capture_keepsSetup (s.onFaults (FaultUnit.countOccurrence o.cls)) o)
  unfold State.takeOccurrence
  dsimp only
  split
  · exact h0
  · split
    · exact ⟨h1.service, h1.masks, h1.severities, h1.alertMasks, h1.first⟩
    · exact h1

theorem foldl_keepsSetup {α : Type} (f : State → α → State) (hf : ∀ (s : State) a, s.KeepsSetup (f s a)) (l : List α)
    (s : State) : s.KeepsSetup (l.foldl f s) := by
  induction l generalizing s with
  | nil => exact State.KeepsSetup.refl s
  | cons a l ih => exact (hf s a).trans (ih (f s a))

theorem State.occur_keepsSetup (s : State) (o : Occurrence) : s.KeepsSetup (s.occur o) :=
  (State.takeOccurrence_keepsSetup s o).trans (foldl_keepsSetup _ State.takeOccurrence_keepsSetup _ _)

theorem State.fault_keepsSetup (s : State) (cls : FaultClass) (st : Option Station) (k c : Option Nat) :
    s.KeepsSetup (s.fault cls st k c) := State.occur_keepsSetup s _

theorem State.raise_keepsSetup (s : State) (x : AlertSource) : s.KeepsSetup (s.raise x) :=
  (State.raiseStep_keepsSetup s x).trans (foldl_keepsSetup _ State.occur_keepsSetup _ _)

theorem State.queueReport_keepsSetup (s : State) (k : Kind) (c : Option Nat) (p : List Byte) :
    s.KeepsSetup (s.queueReport k c p) :=
  (State.putReport_keepsSetup s k c p).trans (foldl_keepsSetup _ State.occur_keepsSetup _ _)

/-! ## The service level -/

/-- The two classes whose status the service level reads are counted by no hand-off's own QUEUE_OVERFLOW (R152). -/
theorem FaultUnit.countOverflow_degrades (f : FaultUnit) :
    (f.countOccurrence .queueOverflow).degrades = f.degrades := by
  simp [FaultUnit.degrades, FaultUnit.cls, FaultUnit.countOccurrence, FaultClass.index]

theorem State.serviceOf_congr {s t : State} (h : t.body = s.body) (hf : t.faults.degrades = s.faults.degrades) :
    t.serviceOf = s.serviceOf := by
  unfold State.serviceOf State.channelDegrades State.trackerDegrades
  rw [State.body_node h, State.body_tracker h, State.body_context h, State.body_inhibit h, hf, State.body_params h]
  simp only [State.body_chan h]

end Sys2Proof.Machine
end

