-- ==== Sys2Proof/Laws/Queue.lean ====
section
/-! SUPPORT. What the operations on the transmit queue can do (R145 to R147): an insertion adds one entry and no other, and
the queue keeps its length within 12, its keys apart and its order. -/

namespace Sys2Proof.Machine

/-! ## Keys and order -/

/-- Two entries have one key exactly when kind and cylinder agree. -/
theorem TxEntry.sameKey_iff (a b : TxEntry) : a.sameKey b = true ↔ a.kind = b.kind ∧ a.cyl = b.cyl := by
  simp [TxEntry.sameKey]

theorem TxEntry.sameKey_comm (a b : TxEntry) : a.sameKey b = b.sameKey a := by
  rw [Bool.eq_iff_iff, TxEntry.sameKey_iff, TxEntry.sameKey_iff]
  constructor <;> exact fun h => ⟨h.1.symm, h.2.symm⟩

/-- Queue order as numbers. -/
theorem TxEntry.notAfter_iff (a b : TxEntry) :
    a.notAfter b = true ↔ a.kind.code < b.kind.code ∨ (a.kind.code = b.kind.code ∧ a.age ≤ b.age) := by
  simp [TxEntry.notAfter]

theorem TxEntry.precedes_iff (a b : TxEntry) :
    a.precedes b = true ↔ a.kind.code < b.kind.code ∨ (a.kind.code = b.kind.code ∧ a.age < b.age) := by
  simp [TxEntry.precedes]

theorem TxEntry.notAfter_trans {a b c : TxEntry} (h : a.notAfter b = true) (h' : b.notAfter c = true) :
    a.notAfter c = true := by
  rw [TxEntry.notAfter_iff] at *
  omega

theorem TxEntry.notAfter_of_precedes {a b : TxEntry} (h : a.precedes b = true) : a.notAfter b = true := by
  rw [TxEntry.precedes_iff] at h
  rw [TxEntry.notAfter_iff]
  omega

theorem TxEntry.notAfter_of_not_precedes {a b : TxEntry} (h : ¬a.precedes b = true) : b.notAfter a = true := by
  rw [TxEntry.precedes_iff] at h
  rw [TxEntry.notAfter_iff]
  omega

/-! ## Insertion -/

theorem insertEntry_perm (e : TxEntry) (q : List TxEntry) : (insertEntry e q).Perm (e :: q) := by
  induction q with
  | nil => exact List.Perm.refl _
  | cons x rest ih =>
    unfold insertEntry
    split
    · exact List.Perm.refl _
    · exact (ih.cons x).trans (List.Perm.swap e x rest)

theorem mem_insertEntry (e x : TxEntry) (q : List TxEntry) : x ∈ insertEntry e q ↔ x = e ∨ x ∈ q := by
  rw [(insertEntry_perm e q).mem_iff, List.mem_cons]

theorem length_insertEntry (e : TxEntry) (q : List TxEntry) : (insertEntry e q).length = q.length + 1 :=
  (insertEntry_perm e q).length_eq

/-- An insertion keeps the queue in order. -/
theorem insertEntry_sorted (e : TxEntry) (q : List TxEntry) (h : q.Pairwise (fun a b => a.notAfter b = true)) :
    (insertEntry e q).Pairwise (fun a b => a.notAfter b = true) := by
  induction q with
  | nil => exact List.pairwise_singleton _ _
  | cons x rest ih =>
    obtain ⟨hx, hr⟩ := List.pairwise_cons.mp h
    unfold insertEntry
    split
    · next hp =>
      have hn := TxEntry.notAfter_of_precedes hp
      refine List.pairwise_cons.mpr ⟨fun y hy => ?_, h⟩
      rcases List.mem_cons.mp hy with rfl | hy
      · exact hn
      · exact TxEntry.notAfter_trans hn (hx y hy)
    · next hp =>
      refine List.pairwise_cons.mpr ⟨fun y hy => ?_, ih hr⟩
      rcases (mem_insertEntry e y rest).mp hy with rfl | hy
      · exact TxEntry.notAfter_of_not_precedes hp
      · exact hx y hy

/-- An insertion of an entry of a new key keeps the keys apart. -/
theorem insertEntry_keys (e : TxEntry) (q : List TxEntry) (h : q.Pairwise (fun a b => a.sameKey b = false))
    (he : ∀ x ∈ q, x.sameKey e = false) : (insertEntry e q).Pairwise (fun a b => a.sameKey b = false) := by
  refine ((insertEntry_perm e q).symm.pairwise_iff ?_).mp (List.pairwise_cons.mpr ⟨fun x hx => ?_, h⟩)
  · intro a b hab
    rw [TxEntry.sameKey_comm]
    exact hab
  · rw [TxEntry.sameKey_comm]
    exact he x hx

/-! ## Coalescing and the full queue -/

theorem coalesce_kind (a b : TxEntry) (h : a.sameKey b = true) :
    (coalesce a b).kind = b.kind ∧ (coalesce a b).cyl = b.cyl := by
  rw [TxEntry.sameKey_iff] at h
  unfold coalesce
  split
  · exact h
  · exact ⟨rfl, rfl⟩

theorem coalesce_age (a b : TxEntry) : (coalesce a b).age = min a.age b.age := by
  unfold coalesce
  split
  · show a.age = min a.age b.age
    omega
  · show b.age = min a.age b.age
    omega

/-- R145, R146: the queue holds 12 entries at most. -/
theorem putEntry_length (e : TxEntry) (q : List TxEntry) (h : q.length ≤ 12) : (putEntry e q).1.length ≤ 12 := by
  unfold putEntry
  split
  · next x hx =>
    have hm := List.mem_of_find?_eq_some hx
    have hk := List.find?_some hx
    have hlt : (q.filter (fun y => !y.sameKey e)).length < q.length :=
      List.length_filter_lt_length_iff_exists.mpr ⟨x, hm, by rw [hk]; decide⟩
    dsimp only
    rw [length_insertEntry]
    omega
  · split
    · next hl =>
      dsimp only
      rw [length_insertEntry]
      exact hl
    · split
      · split
        · dsimp only
          rw [length_insertEntry, List.length_dropLast]
          have := h
          rename_i hl _ hlast _
          have hpos : q ≠ [] := by
            rintro rfl
            cases hlast
          have := List.length_pos_iff.mpr hpos
          omega
        · exact h
      · exact h

/-- R145: the queue stays in order. -/
theorem putEntry_sorted (e : TxEntry) (q : List TxEntry) (h : q.Pairwise (fun a b => a.notAfter b = true)) :
    (putEntry e q).1.Pairwise (fun a b => a.notAfter b = true) := by
  unfold putEntry
  split
  · exact insertEntry_sorted _ _ (h.filter _)
  · split
    · exact insertEntry_sorted _ _ h
    · split
      · split
        · exact insertEntry_sorted _ _ (h.sublist (List.dropLast_sublist q))
        · exact h
      · exact h

/-- R145: no two entries of one key. -/
theorem putEntry_keys (e : TxEntry) (q : List TxEntry) (h : q.Pairwise (fun a b => a.sameKey b = false)) :
    (putEntry e q).1.Pairwise (fun a b => a.sameKey b = false) := by
  unfold putEntry
  split
  · next x hx =>
    have hk := List.find?_some hx
    obtain ⟨k1, k2⟩ := coalesce_kind x e hk
    refine insertEntry_keys _ _ (h.filter _) (fun y hy => ?_)
    have hy' : y.sameKey e = false := by simpa using (List.mem_filter.mp hy).2
    unfold TxEntry.sameKey at hy' ⊢
    rw [k1, k2]
    exact hy'
  · next hn =>
    have he : ∀ x ∈ q, x.sameKey e = false := fun x hx => by
      simpa using List.find?_eq_none.mp hn x hx
    split
    · exact insertEntry_keys _ _ h he
    · split
      · split
        · exact insertEntry_keys _ _ (h.sublist (List.dropLast_sublist q))
            (fun x hx => he x ((List.dropLast_sublist q).mem hx))
        · exact h
      · exact h

end Sys2Proof.Machine
end

