-- ==== Sys2Proof/Laws/Records.lean ====
section
/-! SUPPORT. What aborts, the accounting of witnesses, the end of an event and closes can do: the outer state (all but the
records, the two tables and what a hand-off touches) stays as it was; the end of an event settles the service level and may
withdraw the node, and a close may do so before the next, which keeps the ground of the outer state. -/

namespace Sys2Proof.Machine

/-! ## The outer state -/

/-- The body without the records, the Cylinder Table and the Peer Table. -/
def State.outer (s : State) : State := { s.body with records := [], cylinders := [], peers := [] }

section Fields

variable {s t : State} (h : t.outer = s.outer)

include h

theorem State.outer_pending : t.pending = s.pending := by have e := congrArg State.pending h; exact e
theorem State.outer_now : t.now = s.now := by have e := congrArg State.now h; exact e
theorem State.outer_station : t.station = s.station := by have e := congrArg State.station h; exact e
theorem State.outer_node : t.node = s.node := by have e := congrArg State.node h; exact e
theorem State.outer_image : t.image = s.image := by have e := congrArg State.image h; exact e
theorem State.outer_tracker : t.tracker = s.tracker := by have e := congrArg State.tracker h; exact e
theorem State.outer_chanA : t.chanA = s.chanA := by have e := congrArg State.chanA h; exact e
theorem State.outer_chanB : t.chanB = s.chanB := by have e := congrArg State.chanB h; exact e
theorem State.outer_estimator : t.estimator = s.estimator := by have e := congrArg State.estimator h; exact e
theorem State.outer_markCounted : t.markCounted = s.markCounted := by have e := congrArg State.markCounted h; exact e
theorem State.outer_context : t.context = s.context := by have e := congrArg State.context h; exact e
theorem State.outer_link : t.link.bare = s.link.bare := by have e := congrArg State.link h; exact e

end Fields

theorem State.outer_of_body {s t : State} (h : t.body = s.body) : t.outer = s.outer := by
  unfold State.outer; rw [h]

/-! ## Updates of the records and the tables -/

theorem State.onRecords_outer (s : State) (f : List (Option Record) → List (Option Record)) :
    (s.onRecords f).outer = s.outer := rfl
theorem State.onCylinders_outer (s : State) (f : List CylEntry → List CylEntry) : (s.onCylinders f).outer = s.outer := rfl
theorem State.onPeers_outer (s : State) (f : List PeerEntry → List PeerEntry) : (s.onPeers f).outer = s.outer := rfl
theorem State.onCyl_outer (s : State) (c : Nat) (f : CylEntry → CylEntry) : (s.onCyl c f).outer = s.outer := rfl
theorem State.onPeer_outer (s : State) (st : Station) (f : PeerEntry → PeerEntry) : (s.onPeer st f).outer = s.outer := rfl
theorem State.onRecordOf_outer (s : State) (c : Nat) (f : Record → Record) : (s.onRecordOf c f).outer = s.outer := rfl
theorem State.onOpenRecords_outer (s : State) (f : Record → Record) : (s.onOpenRecords f).outer = s.outer := rfl
theorem State.freeRecord_outer (s : State) (c : Nat) : (s.freeRecord c).outer = s.outer := rfl

/-! ## Hand-offs -/

theorem State.fault_outer (s : State) (cls : FaultClass) (st : Option Station) (k c : Option Nat) :
    (s.fault cls st k c).outer = s.outer := State.outer_of_body (State.fault_body s cls st k c)
theorem State.raise_outer (s : State) (x : AlertSource) : (s.raise x).outer = s.outer :=
  State.outer_of_body (State.raise_body s x)
theorem State.queueReport_outer (s : State) (k : Kind) (c : Option Nat) (p : List Byte) :
    (s.queueReport k c p).outer = s.outer := State.outer_of_body (State.queueReport_body s k c p)

/-- A fold of steps that each keep the outer state keeps it. -/
theorem foldl_outer {α : Type} (f : State → α → State) (hf : ∀ s a, (f s a).outer = s.outer) (l : List α) (s : State) :
    (l.foldl f s).outer = s.outer := by
  induction l generalizing s with
  | nil => rfl
  | cons a l ih => exact (ih (f s a)).trans (hf s a)

/-! ## Aborts (R70 to R72, R100) -/

theorem State.countSlotAbort_outer (s : State) (o : Option Record) : (s.countSlotAbort o).outer = s.outer := by
  cases o <;> rfl

theorem State.abortAll_outer (s : State) : s.abortAll.outer = s.outer :=
  foldl_outer _ State.countSlotAbort_outer s.records s

/-- R71: no record is left open. -/
theorem State.abortAll_records (s : State) : ∀ o ∈ s.abortAll.records, o = none := by
  intro o h
  obtain ⟨_, _, rfl⟩ := List.mem_map.mp h
  rfl

theorem State.abortRecord_outer (s : State) (c : Nat) : (s.abortRecord c).outer = s.outer := by
  unfold State.abortRecord
  split <;> rfl

/-! ## The fold and the accounting (R89, R107 to R110) -/

theorem State.foldVerdict_outer (s : State) (c : Nat) (v : Verdict) (a b : Option Evidence) :
    (s.foldVerdict c v a b).outer = s.outer := by
  unfold State.foldVerdict
  dsimp only
  split
  · exact State.raise_outer _ _
  · rfl

theorem State.silencePeer_outer (s : State) (st : Station) (c : Option Nat) : (s.silencePeer st c).outer = s.outer := by
  unfold State.silencePeer
  dsimp only
  rw [State.onOpenRecords_outer]
  split
  · rw [State.raise_outer, State.fault_outer, State.onPeer_outer]
  · rw [State.fault_outer, State.onPeer_outer]

theorem State.missPeer_outer (c : Nat) (s : State) (st : Station) : (State.missPeer c s st).outer = s.outer := by
  unfold State.missPeer
  dsimp only
  split
  · split
    · exact State.silencePeer_outer _ _ _
    · rfl
  · rfl

theorem State.absentPeer_outer (c : Nat) (s : State) (st : Station) : (State.absentPeer c s st).outer = s.outer := by
  unfold State.absentPeer
  split
  · exact State.silencePeer_outer _ _ _
  · rfl

theorem State.accountWitnesses_outer (s : State) (r : Record) : (s.accountWitnesses r).outer = s.outer := by
  unfold State.accountWitnesses
  dsimp only
  rw [foldl_outer _ (State.absentPeer_outer r.cyl), foldl_outer _ (State.missPeer_outer r.cyl),
    foldl_outer _ (fun s st => State.onPeer_outer s st _)]

theorem State.lateWitness_outer (s : State) (st : Station) (c : Nat) : (s.lateWitness st c).outer = s.outer := by
  unfold State.lateWitness
  rw [State.onPeer_outer, State.fault_outer]

/-! ## Cycle marks in the Cylinder Table (R92, R117, R118) -/

theorem State.endBlock_outer (s : State) (c : Nat) : (s.endBlock c).outer = s.outer := by
  unfold State.endBlock
  dsimp only
  rw [State.onCyl_outer, State.queueReport_outer]
  split <;> (try rw [State.raise_outer]) <;> split <;> (try rw [State.raise_outer]) <;> rfl

theorem State.countCycle_outer (s : State) (c : Nat) : (s.countCycle c).outer = s.outer := by
  unfold State.countCycle
  split
  · rw [State.onCyl_outer]
    split
    · exact State.endBlock_outer s c
    · rfl
  · rfl

theorem State.takeOverIfDue_outer (s : State) (c : Nat) : (s.takeOverIfDue c).outer = s.outer := by
  unfold State.takeOverIfDue
  split
  · rw [State.raise_outer, State.onCyl_outer]
  · rfl

theorem State.countSilences_outer (s : State) : s.countSilences.outer = s.outer :=
  foldl_outer _ State.takeOverIfDue_outer _ _

/-- The Cylinder Table's part of a cycle mark writes of the outer state only whether the mark was counted (R93). -/
theorem State.cylinderCycleMark_outer (s : State) :
    s.cylinderCycleMark.outer = (s.setMarkCounted (decide (s.node.state = .running))).outer := by
  unfold State.cylinderCycleMark
  split
  · next h =>
    rw [foldl_outer _ State.countCycle_outer, State.countSilences_outer, decide_eq_true h]
  · next h => rw [decide_eq_false h]

/-! ## The ground: what even a withdrawal keeps -/

/-- The outer state without the parts that entry to WITHDRAWN writes: the node's state with its probe and listen timers,
both integrators, and the transmitter, whose entry the purge may mark as removed. A close may withdraw the node before the
next close (R109, R151), and keeps this. -/
def State.ground (s : State) : State :=
  { s.outer with node := { s.node with state := .withdrawn, probe := none, listen := none },
                 chanA := s.chanA.abandon, chanB := s.chanB.abandon,
                 link := { s.link.bare with transmitter := .idle } }

section Ground

variable {s t : State} (h : t.ground = s.ground)

include h

theorem State.ground_pending : t.pending = s.pending := by have e := congrArg State.pending h; exact e
theorem State.ground_now : t.now = s.now := by have e := congrArg State.now h; exact e
theorem State.ground_station : t.station = s.station := by have e := congrArg State.station h; exact e
theorem State.ground_image : t.image = s.image := by have e := congrArg State.image h; exact e
theorem State.ground_tracker : t.tracker = s.tracker := by have e := congrArg State.tracker h; exact e
theorem State.ground_estimator : t.estimator = s.estimator := by have e := congrArg State.estimator h; exact e
theorem State.ground_markCounted : t.markCounted = s.markCounted := by have e := congrArg State.markCounted h; exact e
theorem State.ground_context : t.context = s.context := by have e := congrArg State.context h; exact e
theorem State.ground_link : { t.link.bare with transmitter := .idle } = { s.link.bare with transmitter := .idle } := by
  have e := congrArg State.link h; exact e
theorem State.ground_acq : t.link.acq = s.link.acq := by have e := congrArg Link.acq (State.ground_link h); exact e
theorem State.ground_inhibit : t.link.inhibit = s.link.inhibit := by
  have e := congrArg Link.inhibit (State.ground_link h); exact e
theorem State.ground_chanA : t.chanA.abandon = s.chanA.abandon := by have e := congrArg State.chanA h; exact e
theorem State.ground_chanB : t.chanB.abandon = s.chanB.abandon := by have e := congrArg State.chanB h; exact e

end Ground

theorem State.ground_of_outer {s t : State} (h : t.outer = s.outer) : t.ground = s.ground := by
  unfold State.ground
  rw [h, State.outer_node h, State.outer_chanA h, State.outer_chanB h, State.outer_link h]

/-! ## Entry to WITHDRAWN (R151) -/

theorem State.enterWithdrawn_node (s : State) :
    s.enterWithdrawn.node = { s.node with state := .withdrawn, probe := none, listen := none } := by
  have e : s.abortAll.node = s.node := State.outer_node (State.abortAll_outer s)
  unfold State.enterWithdrawn
  dsimp only
  split
  · rw [← e]; rfl
  · rw [← e]; rfl

theorem State.enterWithdrawn_records (s : State) : ∀ o ∈ s.enterWithdrawn.records, o = none := by
  unfold State.enterWithdrawn
  dsimp only
  split <;> exact State.abortAll_records s

theorem State.onAlert_ground (s : State) (f : AlertUnit → AlertUnit) : (s.onAlert f).ground = s.ground := rfl
theorem State.abandon_ground (s : State) : (s.onChans Channel.abandon).ground = s.ground := rfl
theorem State.removeReports_ground (s : State) (p : TxEntry → Bool) : (s.removeReports p).ground = s.ground := rfl
theorem State.onNode_ground (s : State) (f : NodeCtl → NodeCtl)
    (h : { f s.node with state := .withdrawn, probe := none, listen := none }
      = { s.node with state := .withdrawn, probe := none, listen := none }) : (s.onNode f).ground = s.ground := by
  unfold State.ground
  rw [show (s.onNode f).node = f s.node from rfl, h]
  rfl

theorem State.enterWithdrawn_ground (s : State) : s.enterWithdrawn.ground = s.ground := by
  unfold State.enterWithdrawn
  dsimp only
  split <;> (try rw [State.onAlert_ground])
  all_goals
    rw [State.onNode_ground _ _ rfl, State.removeReports_ground, State.abandon_ground,
      State.ground_of_outer (State.abortAll_outer s)]

/-! ## The end of an event (R151, R152) -/

/-- R152: the service level brought up to date, and nothing done where it already was. -/
theorem State.updateService_settled (s : State) : s.SettledTo s.updateService := rfl

section Settled

variable {u t : State} (h : u.SettledTo t)

include h

/-- A state settles to one state only. -/
theorem State.SettledTo.eq_updateService : t = u.updateService := h

/-- Settling touches only the queue, the Fault Unit and the Alert Unit. -/
theorem State.SettledTo.body_eq : t.body = u.body := by
  rw [h.eq_updateService]; exact State.updateService_body u

/-- The level reached is the one that R152 gives. -/
theorem State.SettledTo.service_eq : t.faults.service = u.serviceOf := by
  rw [h.eq_updateService]
  unfold State.updateService
  split
  · next e => exact e.symm
  · exact (State.raise_keepsSetup _ _).service

/-- Where the level is as it was, nothing happens. -/
theorem State.SettledTo.eq_self (e : u.serviceOf = u.faults.service) : t = u := by
  rw [h.eq_updateService]; exact if_pos e

end Settled

/-- With no withdrawal passed, the end of an event only brings the service level up to date. -/
theorem State.settle_settled (s : State) (h : s.withdrawDue = false) : s.SettledTo s.settle := by
  have e : s.carryWithdrawal = s := by unfold State.carryWithdrawal; rw [h]; rfl
  unfold State.settle
  rw [e]
  exact State.updateService_settled s

/-- R151: in WITHDRAWN, LOADING and UNCONFIGURED a withdrawal changes nothing. -/
theorem State.carryWithdrawal_elsewhere (s : State)
    (h : s.node.state = .withdrawn ∨ s.node.state = .loading ∨ s.node.state = .unconfigured) :
    s.carryWithdrawal.body = s.body := by
  unfold State.carryWithdrawal
  split
  · rcases h with h | h | h <;> rw [h] <;> rfl
  · rfl

/-- What the end of an event can do: where no withdrawal is due, or one is passed in WITHDRAWN, LOADING or UNCONFIGURED, it
keeps the body; else it takes the node to WITHDRAWN, every record aborted and both integrations abandoned. -/
theorem State.settle_cases (s : State) :
    s.settle.body = s.body
      ∨ (s.withdrawDue = true
        ∧ s.settle.node = { s.node with state := .withdrawn, probe := none, listen := none }
        ∧ (∀ o ∈ s.settle.records, o = none) ∧ s.settle.ground = s.ground) := by
  have entered : ∀ u : State, u.enterWithdrawn.updateService.node
        = { u.node with state := .withdrawn, probe := none, listen := none }
      ∧ (∀ o ∈ u.enterWithdrawn.updateService.records, o = none) ∧ u.enterWithdrawn.updateService.ground = u.ground := by
    intro u
    have hb := State.updateService_body u.enterWithdrawn
    rw [State.body_node hb, State.body_records hb, State.ground_of_outer (State.outer_of_body hb)]
    exact ⟨State.enterWithdrawn_node u, State.enterWithdrawn_records u, State.enterWithdrawn_ground u⟩
  have kept : ∀ u : State, u.body = s.body → u.updateService.body = s.body :=
    fun u h => (State.updateService_body u).trans h
  unfold State.settle State.carryWithdrawal
  by_cases hw : s.withdrawDue = true
  · rw [if_pos hw]
    cases hn : s.node.state with
    | probing => exact .inr ⟨hw, entered (s.setWithdrawDue false)⟩
    | joining => exact .inr ⟨hw, entered (s.setWithdrawDue false)⟩
    | running => exact .inr ⟨hw, entered (s.setWithdrawDue false)⟩
    | hold => exact .inr ⟨hw, entered (s.setWithdrawDue false)⟩
    | loading => exact .inl (kept _ rfl)
    | unconfigured => exact .inl (kept _ rfl)
    | withdrawn => exact .inl (kept _ rfl)
  · rw [if_neg hw]
    exact .inl (kept _ rfl)

theorem State.settle_ground (s : State) : s.settle.ground = s.ground := by
  rcases s.settle_cases with h | ⟨-, -, -, h⟩
  · exact State.ground_of_outer (State.outer_of_body h)
  · exact h

/-- A node that is WITHDRAWN stays so over the end of an event. -/
theorem State.settle_withdrawn (s : State) (h : s.node.state = .withdrawn) : s.settle.node.state = .withdrawn := by
  rcases s.settle_cases with e | ⟨-, e, -⟩
  · rw [State.body_node e]; exact h
  · rw [e]

/-! ## Closes (R64, R73, R74) -/

theorem State.closeRecord_outer (s : State) (r : Record) : (s.closeRecord r).outer = s.outer := by
  unfold State.closeRecord
  dsimp only
  rw [State.freeRecord_outer, State.accountWitnesses_outer]
  split
  · rw [State.raise_outer, State.foldVerdict_outer, State.queueReport_outer]
  · rw [State.foldVerdict_outer, State.queueReport_outer]

/-- A close is over when no record is complete: nothing follows it. -/
theorem State.closeReady_none (fuel : Nat) (s : State) (h : s.findRecord Record.ready = none) :
    State.closeReady fuel s = s := by
  cases fuel with
  | zero => rfl
  | succ n => unfold State.closeReady; rw [h]

/-- A property that the end of an event and a close both keep is kept by the closes that follow an event. -/
theorem State.closeReady_keeps (P : State → Prop) (hs : ∀ s, P s → P s.settle)
    (hc : ∀ s r, P s → P (s.closeRecord r)) (fuel : Nat) (s : State) (h : P s) : P (State.closeReady fuel s) := by
  induction fuel generalizing s with
  | zero => exact h
  | succ n ih =>
    unfold State.closeReady
    split
    · split
      · exact ih _ (hs _ (hc _ _ (hs s h)))
      · exact hs s h
    · exact h

theorem State.closeReady_ground (fuel : Nat) (s : State) : (State.closeReady fuel s).ground = s.ground :=
  State.closeReady_keeps (fun t => t.ground = s.ground) (fun t h => (State.settle_ground t).trans h)
    (fun t r h => (State.ground_of_outer (State.closeRecord_outer t r)).trans h) fuel s rfl

/-- What the closes that follow an event can do to the outer state: nothing, or the node is WITHDRAWN and the ground is
kept (R71, R109, R151). -/
theorem State.closeReady_cases (fuel : Nat) (s : State) :
    (State.closeReady fuel s).outer = s.outer
      ∨ ((State.closeReady fuel s).node.state = .withdrawn ∧ (State.closeReady fuel s).ground = s.ground) := by
  have settles : ∀ t : State, t.outer = s.outer ∨ t.node.state = .withdrawn →
      t.settle.outer = s.outer ∨ t.settle.node.state = .withdrawn := by
    rintro t (h | h)
    · rcases t.settle_cases with e | ⟨-, e, -⟩
      · exact .inl ((State.outer_of_body e).trans h)
      · exact .inr (by rw [e])
    · exact .inr (State.settle_withdrawn t h)
  have closes : ∀ (t : State) (r : Record), t.outer = s.outer ∨ t.node.state = .withdrawn →
      (t.closeRecord r).outer = s.outer ∨ (t.closeRecord r).node.state = .withdrawn := by
    rintro t r (h | h)
    · exact .inl ((State.closeRecord_outer t r).trans h)
    · exact .inr (by rw [State.outer_node (State.closeRecord_outer t r)]; exact h)
  exact (State.closeReady_keeps _ settles closes fuel s (.inl rfl)).imp id (fun h => ⟨h, State.closeReady_ground fuel s⟩)

theorem State.closeComplete_ground (s : State) : s.closeComplete.ground = s.ground := State.closeReady_ground 8 s

theorem State.closeComplete_cases (s : State) :
    s.closeComplete.outer = s.outer
      ∨ (s.closeComplete.node.state = .withdrawn ∧ s.closeComplete.ground = s.ground) := State.closeReady_cases 8 s

theorem State.deadlineMark_ground (s : State) (k : Nat) : (s.deadlineMark k).ground = s.ground := by
  unfold State.deadlineMark
  split
  · rw [State.closeComplete_ground, State.ground_of_outer (State.closeRecord_outer _ _)]
  · rfl

theorem State.recordWindow_ground (s : State) (c : Nat) (a b : ChanResult) : (s.recordWindow c a b).ground = s.ground :=
  (State.closeComplete_ground _).trans (State.ground_of_outer (State.onRecordOf_outer s c _))

theorem State.recordSegment_ground (s : State) (c : Nat) (loss : Option Int) (band : Nat) :
    (s.recordSegment c loss band).ground = s.ground :=
  (State.closeComplete_ground _).trans (State.ground_of_outer (State.onRecordOf_outer s c _))

theorem State.timeoutPeer_outer (s : State) (st : Station) : (s.timeoutPeer st).outer = s.outer := by
  unfold State.timeoutPeer
  split
  · exact State.silencePeer_outer _ _ _
  · rfl

theorem State.timeoutPeers_ground (s : State) : s.timeoutPeers.ground = s.ground :=
  (State.closeComplete_ground _).trans (State.ground_of_outer (foldl_outer _ State.timeoutPeer_outer _ _))

theorem State.placeWitness_ground (s : State) (st : Station) (c score weight : Nat) (learning : Bool) :
    (s.placeWitness st c score weight learning).ground = s.ground := by
  unfold State.placeWitness
  split
  · split
    · exact State.ground_of_outer (State.lateWitness_outer _ _ _)
    · split
      · exact State.ground_of_outer (State.lateWitness_outer _ _ _)
      · split
        · exact State.ground_of_outer (State.fault_outer _ _ _ _ _)
        · rw [State.closeComplete_ground, State.ground_of_outer (State.onRecordOf_outer _ _ _)]
  · rfl

end Sys2Proof.Machine
end

