-- ==== Sys2Proof/Laws/Timers.lean ====
section
/-! SUPPORT. When a timer has run out, and what the expiry of a hold, a guard and a hold-off can do. -/

namespace Sys2Proof.Machine

@[simp] theorem ranOut_iff (timer : Option Nat) : ranOut timer = true ↔ timer = some 0 := beq_iff_eq

/-- A timer has run out at an instant exactly when the time passed covers the ticks that were left. -/
theorem ranOut_countDown (d : Nat) (timer : Option Nat) :
    ranOut (countDown d timer) = true ↔ ∃ left, timer = some left ∧ left ≤ d := by
  cases timer <;> simp [countDown, Nat.sub_eq_zero_iff_le]

/-- R126: the expiry of a hold with no time remaining. -/
theorem Context.holdExpires_ended {c : Context} {h : ShockHold} (hc : c.hold = some h) (hl : h.left = 0) :
    c.holdExpires = { c with hold := none } := by
  simp [Context.holdExpires, hc, hl]

/-- R130: a hold that has been extended at the instant of its expiry runs on. -/
theorem Context.holdExpires_extended {c : Context} {h : ShockHold} (hc : c.hold = some h) (hl : h.left ≠ 0) :
    c.holdExpires = c := by
  cases c
  cases hc
  simp [Context.holdExpires, hl]

theorem Context.holdExpires_inactive {c : Context} (hc : c.hold = none) : c.holdExpires = c := by
  cases c
  cases hc
  rfl

/-- R128: the guard's expiry makes a guard that has run out idle, and leaves any other. -/
theorem Context.guardExpires_eq (c : Context) :
    c.guardExpires = { c with joltGuard := if c.joltGuard = some 0 then none else c.joltGuard } := by
  unfold Context.guardExpires
  cases hg : c.joltGuard with
  | none => rfl
  | some left => cases left <;> simp

/-- R157: the hold-off's expiry moves the line only out of HOLDOFF. -/
theorem AlertUnit.holdOffExpires_other {a : AlertUnit} (h : a.line ≠ .holdoff ∨ a.holdOff ≠ some 0) : a.holdOffExpires = a := by
  unfold AlertUnit.holdOffExpires
  rw [if_neg]
  rintro ⟨hl, hr⟩
  rw [ranOut_iff] at hr
  exact h.elim (· hl) (· hr)

end Sys2Proof.Machine
end

