-- ==== Sys2Proof/Tests/Slice0.lean ====
section
/-! SUPPORT. The session's own tests: ill-formed terms that WellFormed refuses, the numbers of the manual's worked examples,
and, for each statement with hypotheses, a state and operands that meet them. The configuration is that of the manual's
worked examples: n = 4, firing order 1-3-4-2, 36 - 1 teeth, station 1. -/

namespace Sys2Proof.Tests

open Sys2Proof.Machine

/-! ## The configuration and the states that the tests start from -/

def low (l : List Nat) : List Byte := l.map byteOf
def words (l : List Nat) : List Byte := l.flatMap bytes16

/-- Bytes 0 to 152 of an image, written down by R170, with the bit rate code given. -/
def imageFields (rate : Nat) : List Byte :=
  low [4, 1, 3, 4, 2, 0, 0, 0, 0, 36, 1] ++ words [20, 6800, 600, 420, 120, 400, 300] ++ low [4]
    ++ low [1, 6, 12, 12, 0, 3, 0, 0, 0, 0] ++ low [2, 4, 4, 4, 0, 2, 0, 0, 0, 0]
    ++ low [1, 1, 2, 2, 0, 0, 0, 0] ++ low [255, 255, 1, 255, 255, 255, 255, 255]
    ++ low [255, 255, 255, 1, 255, 255, 255, 255] ++ words [12, 4, 8, 8, 0, 0, 0, 0]
    ++ words [0, 0, 120, 0, 0, 80, 0, 0] ++ words [1500, 2500, 3500, 4500, 5500, 6500, 7500]
    ++ low [16, 16, 20, 16, 40] ++ words [40] ++ low [24, 4, 4] ++ words [16, 40, 12] ++ low [2]
    ++ words [9000, 400] ++ low [3, 2, 3, 0] ++ words [0xFFFF, 100] ++ low [rate, 3, 0, 4] ++ words [0] ++ low [0, 2]

/-- A whole image of 256 bytes, its check byte last. -/
def imageOf (rate : Nat) : List Byte :=
  let b := imageFields rate ++ List.replicate 102 0#8
  b ++ [crc8 b]

/-- The same configuration as fields. -/
def im : Image :=
  { n := 4, firing := [1, 3, 4, 2, 0, 0, 0, 0], teeth := 36, gap := 1, gapOffset := 20, camStart := 6800, camWidth := 600,
    sigma := 420, omega := 120, width := 400, allowance := 300, warmUp := 4, gainA := 1, bandA := 6,
    weightA := [12, 12, 0, 3, 0, 0, 0, 0], gainB := 2, bandB := 4, weightB := [4, 4, 0, 2, 0, 0, 0, 0],
    owner := [1, 1, 2, 2, 0, 0, 0, 0], deputy1 := [255, 255, 1, 255, 255, 255, 255, 255],
    deputy2 := [255, 255, 255, 1, 255, 255, 255, 255], witness := [12, 4, 8, 8, 0, 0, 0, 0],
    mthr := [0, 0, 120, 0, 0, 80, 0, 0], edges := [1500, 2500, 3500, 4500, 5500, 6500, 7500],
    sLoad := [16, 16, 20, 16], antiLag := 40, kthr := 40, foreign := 24, shift := 4, learnLen := 4, blockLen := 16,
    rateLimit := 40, knockLimit := 12, clearCount := 2, shockThr := 9000, shockHold := 400, kMiss := 3, rejoinLen := 2,
    silenceLen := 3, manager := 0, orderMask := 0xFFFF, statusMs := 100, bitRate := 3, fallback := 3, alertMask := 0,
    holdOff := 4, faultMask := 0, sevSilent := 0, sevClash := 2 }

/-- A configured node, station 1, in a node state, its link LOCKED after a gap, its channels ENABLED. -/
def node (n : NodeState) : State :=
  { State.reset with
    station := 1, image := some im, node := { NodeCtl.powerOn with state := n },
    chanA := { Channel.powerOn with state := .enabled, biasOn := true },
    chanB := { Channel.powerOn with state := .enabled, biasOn := true },
    cylinders := cylindersFromImage im 1, peers := peersFromImage im 1,
    context := { Context.powerOn with freshness := 0 },
    link := { Link.startFixed .k500 .k500 Link.powerOn with recessiveRun := 11 },
    faults := FaultUnit.configure im { FaultUnit.powerOn with service := .full } }

def run : State := node .running

/-- CRANK_LOCKED or PHASED, a tooth taken at time 0 after a period of 1000. -/
def crank (sync : Sync) (angle index : Nat) (s : State) : State :=
  { s with tracker := { Tracker.powerOn with
      sync := sync, lastEdge := some 0, periodCur := some 1000, span := some 1, perPitch := some 1000,
      toothIndex := some index, edgeAngle := some angle, angle := some angle } }

/-- PHASED and warm at cycle angle 20, with a pending list. -/
def phased (marks : List PendingMark) (s : State) : State :=
  let u := crank .phased 20 0 s
  { u with tracker := { u.tracker with phase := some .first, warmUp := 4, marks := marks } }

def mark (k : MarkKind) (pos : Option Nat := none) (dist : Int := 0) : PendingMark :=
  { kind := k, angle := 20, pos := pos, dist := dist }

/-- An open record of a cylinder. -/
def recordFor (c pos : Nat) : Record :=
  { slot := 0, cyl := c, pos := pos, state := .gathering, windowTaken := false, segmentTaken := false, evidenceA := none,
    evidenceB := none, ownA := none, ownB := none, learning := false, loss := none, band := 2, witnesses := [],
    expected := [], cut := false, antiLag := false, loadBand := some 2, stale := false, shock := false, deputy := false }

def holding (rs : List Record) (s : State) : State :=
  { s with records := rs.map some ++ List.replicate (8 - rs.length) none }

/-- The state after a command. -/
def after (c : Instr) (s : State) : State :=
  match exec c s with
  | .next t => t
  | .fault _ => s
  | .refused _ => s

def entry (k : Kind) (c : Option Nat) (age : Nat) : TxEntry := { kind := k, cyl := c, payload := [], age := age }

/-! ## WellFormed refuses -/

theorem test_wf_short_read : WellFormed (.configReadDone 0 []) = false := by decide
theorem test_wf_no_character : WellFormed (.frameRejected 0 [] .startCellMissing) = false := by decide
theorem test_wf_valid_frame_rejected :
    WellFormed (.frameRejected 0 (frameChars .phase 2 [0#8, 0#8]) .complete) = false := by decide +kernel
theorem test_wf_payload_length : WellFormed (.ownStationFrame 0 .phase []) = false := by decide
theorem test_wf_known_code : WellFormed (.orderUnknownCode 0 2 1 8 0 0) = false := by decide
theorem test_wf_start_cell : WellFormed (.arbitrationLost 0 0) = false := by decide
theorem test_wf_length_character : WellFormed (.arbitrationLost 0 10) = false := by decide
theorem test_wf_beyond_frame : WellFormed (.transmitClash 0 110) = false := by decide
theorem test_wf_accepts :
    WellFormed (.orderUnknownCode 0 2 1 9 0 0) = true ∧ WellFormed (.arbitrationLost 0 9) = true
      ∧ WellFormed (.transmitClash 0 109) = true ∧ WellFormed (.configReadDone 0 (imageOf 3)) = true := by decide +kernel

/-- The table gives bits to no row. -/
theorem test_no_word_spells_a_command : decodeTableWord 32 0x12345678 = none := by decide

/-! ## The image (R160, R170) -/

theorem test_image_layout : parseImage (imageOf 3) = im := by decide +kernel
set_option maxRecDepth 100000 in
theorem test_image_accepted : judgeRead (imageOf 3) 1 = some im := by decide +kernel
set_option maxRecDepth 100000 in
theorem test_image_own_witness : judgeRead (imageOf 3) 2 = none := by decide +kernel
set_option maxRecDepth 100000 in
theorem test_image_bad_check : judgeRead (imageFields 3 ++ List.replicate 103 0#8) 1 = none := by decide +kernel

/-! ## The manual's worked examples -/

/-- Chapter 2: the ratios of one firing. -/
theorem test_ratios : knockRatio 5200 25600 = 52 ∧ knockRatio 900 11200 = 20 ∧ knockRatio 1600 16 = 1023 := by decide
/-- Chapter 3: the arithmetic of one segment, and a segment of 103,200 ticks. -/
theorem test_loss : lossOf 104000 100400 100000 = 130 ∧ lossOf 103200 100400 100000 = 97 := by decide
/-- Chapter 3: the landing and the echoes of a misfire. -/
theorem test_losses :
    lossOf 100200 100000 99900 = 4 ∧ lossOf 112000 100200 100000 = 473 ∧ lossOf 100800 101000 103000 = 74
      ∧ lossOf 100800 104000 100400 = -258 ∧ lossOf 101000 100800 104000 = 142 := by decide
theorem test_transient :
    transient 112000 100200 = true ∧ transient 103000 112000 = true ∧ transient 101000 103000 = false := by decide
theorem test_speed : rpmOf 4 100400 = 5976 ∧ bandOf im.edges 5976 = 5 ∧ bandOf im.edges 5357 = 4 := by decide
/-- Chapters 3 and 4: thresholds by the record's context. -/
theorem test_thresholds :
    im.threshold 5 (some 2) false = 100 ∧ im.threshold 5 (some 2) true = 250 ∧ im.threshold 5 none false = 80
      ∧ im.threshold 2 (some 2) false = 150 := by decide
/-- Chapter 4: the three scores, and which of them is foreign. -/
theorem test_scores :
    combinedScore [⟨12, 52⟩, ⟨4, 20⟩, ⟨6, 30⟩] = 40 ∧ combinedScore [⟨12, 20⟩, ⟨4, 70⟩, ⟨6, 25⟩] = 30
      ∧ combinedScore [⟨12, 400⟩, ⟨4, 610⟩, ⟨6, 45⟩] = 341 ∧ combinedScore [⟨12, 18⟩, ⟨4, 17⟩, ⟨6, 19⟩] = 18 := by decide
theorem test_foreign :
    foreignTest 24 [⟨12, 52⟩, ⟨4, 20⟩, ⟨6, 30⟩] = false ∧ foreignTest 24 [⟨12, 20⟩, ⟨4, 70⟩, ⟨6, 25⟩] = true
      ∧ foreignTest 24 [⟨12, 400⟩, ⟨4, 610⟩, ⟨6, 45⟩] = true
      ∧ foreignTest 24 [⟨12, 18⟩, ⟨4, 17⟩, ⟨6, 19⟩] = false := by decide
/-- Chapter 4: a record through a knock. -/
theorem test_verdict_of_a_knock :
    ({ recordFor 1 0 with
        state := .waiting, windowTaken := true, segmentTaken := true, ownA := some ⟨12, 52⟩, ownB := some ⟨4, 20⟩,
        loss := some 12, witnesses := [⟨2, 30, 6, false⟩] } : Record).verdict im
      = { misfire := .fired, knock := .light, score := 40 } := by decide
/-- Chapter 5: learning a reference. -/
theorem test_references :
    newRef im 16 0 1600 = 25600 ∧ newRef im 25600 1 1700 = 26400 ∧ newRef im 26400 2 1500 = 25200
      ∧ newRef im 25200 3 1650 = 25800 ∧ newRef im 25800 4 1700 = 25887 ∧ newRef im 25887 4 1500 = 25770
      ∧ newRef im 25600 4 1700 = 25700 := by decide
/-- Chapter 6: one witness and its reference update. -/
theorem test_local_score :
    knockRatio 2040 15360 = 34 ∧ knockRatio 500 12800 = 10
      ∧ localScore { energy := .present 2040 34 15360, learning := false, weight := 5 }
          { energy := .present 500 10 12800, learning := false, weight := 1 } = 30
      ∧ newRef im 15360 4 2040 = 16440 ∧ newRef im 12800 4 500 = 12500 := by decide
/-- Chapter 1: a cam edge at 3370 phases at 6970, with the ten standing marks in the order told there. -/
theorem test_entry_marks :
    (im.entryMarks 6970).map (fun m => (m.kind, m.dist)) =
      [(.cycle, 230), (.firing, 230), (.camWindowEnd, 430), (.segment, 650), (.firing, 2030), (.segment, 2450),
       (.firing, 3830), (.segment, 4250), (.firing, 5630), (.segment, 6050)] := by decide
/-- Chapter 8: a WITNESS for cylinder 6 finds the queue full and the LOG goes; then a VERDICT 5 replaces its like. -/
def fullQueue : List TxEntry :=
  [entry .witness (some 2) 0, entry .witness (some 4) 1, entry .verdict (some 1) 2, entry .verdict (some 3) 3,
   entry .verdict (some 5) 4, entry .verdict (some 7) 5, entry .tally (some 1) 6, entry .tally (some 3) 7,
   entry .tally (some 5) 8, entry .tally (some 7) 9, entry .status none 10, entry .log none 11]
theorem test_full_queue_drops_the_log :
    (putEntry (entry .witness (some 6) 12) fullQueue).2 = some (.log, none)
      ∧ (putEntry (entry .witness (some 6) 12) fullQueue).1.length = 12 := by decide
theorem test_verdict_replaces_its_like :
    putEntry (entry .verdict (some 5) 13) fullQueue = (fullQueue, some (.verdict, some 5)) := by decide
/-- Chapter 9: a SERVE that crosses a raise, and one across the wrap. -/
theorem test_serve_crosses_a_raise :
    (SourceState.serve 12 { latch := true, latest := 13, mask := false }).latch = true
      ∧ (SourceState.serve 13 { latch := true, latest := 13, mask := false }).latch = false
      ∧ (SourceState.serve 255 { latch := true, latest := 0, mask := false }).latch = true := by decide
/-- Chapter 8: the headers of the arbitration example. -/
theorem test_headers : headerByte 4 1 = 0x41#8 ∧ headerByte 3 2 = 0x32#8 ∧ headerByte 1 5 = 0x15#8 := by decide

/-! ## One step of a command -/

theorem test_reset_reads : (after (.resetNRelease 7 3) run).node.port = .reading false
    ∧ (after (.resetNRelease 7 3) run).station = 3 := by decide
theorem test_first_edge_seeks : (after (.toothEdge 5 .peakFirst) run).tracker.sync = .seeking := by decide
/-- The locking example's last edge: 34 counted, a period of 22,000 after 11,000. -/
def lastOfTheLock : State :=
  { run with tracker := { Tracker.powerOn with
      sync := .seeking, lastEdge := some 0, periodCur := some 11000, refCount := some 34 } }
theorem test_lock : (after (.toothEdge 22000 .peakFirst) lastOfTheLock).tracker.toothIndex = some 0
    ∧ (after (.toothEdge 22000 .peakFirst) lastOfTheLock).tracker.stallLeft = some 44000 := by decide
theorem test_cam_phases : (after (.camEdge 0) (crank .crankLocked 3370 33 run)).tracker.angle = some 6970 := by decide
/-- A tracker in a sync state whose watchdog has some ticks left. -/
def watched (sync : Sync) (left : Nat) : State :=
  let s := crank sync 20 0 run
  { s with tracker := { s.tracker with stallLeft := some left } }
theorem test_stall_stops : (after (.stall 9) (watched .phased 9)).tracker.sync = .stopped := by decide
theorem test_no_stall_before_the_limit : (after (.stall 9) (watched .phased 10)).tracker.sync = .phased := by decide
theorem test_firing_opens :
    ((after (.interpolatedMark 0) (phased [mark .firing (some 0)] run)).recordOf 1).map (·.expected) = some [] := by decide
theorem test_window_opens :
    (after (.interpolatedMark 0) (phased [mark .windowOpen (some 0)] run)).chanA.integrator
      = .running 0 1 0 0 0 false := by decide
theorem test_sample_at_the_opening_is_not_taken :
    (after (.knockSample 0 .a 9) { run with chanA := { run.chanA with integrator := .running 0 1 0 0 0 false } }).chanA.integrator
      = .running 0 1 0 0 0 false := by decide
theorem test_sample_is_clipped :
    (after (.knockSample 125 .a 2047)
      { run with chanA := { run.chanA with integrator := .running 0 1 0 262143 9 false } }).chanA.integrator
      = .running 0 1 0 262143 10 true := by decide
/-- Chapter 2: the probe runs for the full 20 ms, and the qualification for the full 1 ms. -/
theorem test_probe_is_not_ended_early :
    let s := { node .probing with node := { NodeCtl.powerOn with state := .probing, probe := some 400000 } }
    (after (.probeEnd 399999) s).node.state = .probing ∧ (after (.probeEnd 400000) s).node.state = .joining := by decide
/-- A channel whose input rises above the threshold at time 0. -/
def rising : State := after (.biasAboveThreshold 0 .a) run
theorem test_qualification_takes_its_time :
    (after (.qualificationExpiry 19999 .a) rising).chanA.state = .enabled
      ∧ (after (.qualificationExpiry 20000 .a) rising).chanA.state = .disabled := by decide
theorem test_fall_ends_the_excursion_only_in_time :
    (after (.biasBelowThreshold 19999 .a) rising).chanA.openFault = false
      ∧ (after (.qualificationExpiry 20001 .a) (after (.biasBelowThreshold 20001 .a) rising)).chanA.state = .disabled := by
  decide
/-- Chapter 7: a JOLT taken first at the instant at which the hold would run out, and the expiry waiting behind it. -/
theorem test_extended_hold_stays :
    let s := { run with context := { run.context with hold := some ⟨3, .ownShock⟩ } }
    (after (.shockHoldExpiry 3) (after (.joltReceived 3 3 9500 1500) s)).context.hold = some ⟨30000000, .station 3⟩
      ∧ (after (.shockHoldExpiry 3) s).context.hold = none := by decide +kernel
theorem test_frame_makes_a_peer_active :
    ((after (.peerReportReceived 3 6 .status 0) run).peer 6).state = .active := by decide +kernel
theorem test_phase_waits :
    (after (.phaseReceived 3 0 4 0x81) run).context.pendingCtx = some ⟨4, true, 1⟩ := by decide +kernel
theorem test_jolt_holds :
    (after (.joltReceived 3 3 9500 1500) run).context.hold = some ⟨30000000, .station 3⟩ := by decide +kernel
theorem test_order_hold : (after (.orderHold 0 0 1 0 0) run).node.state = .hold := by decide +kernel
theorem test_order_for_another : (after (.orderHold 0 0 2 0 0) run).node.state = .running := by decide +kernel
theorem test_unknown_order :
    ((after (.orderUnknownCode 0 0 255 9 0 0) run).faults.cls .malformed).count = 1 := by decide +kernel
theorem test_stuck_line_inhibits :
    (after (.stuckLine 0) run).link.inhibit = true ∧ (after (.stuckLine 0) run).faults.service = .degraded := by decide
/-- A node that sends a VERDICT of its own: header 41h, so cells 0 and 1 are driven dominant and cell 2 recessive. -/
def sending (cell : Nat) (lost : Bool) : State :=
  let s := after (.transmissionBegin 0) { run with link := { run.link with queue := [entry .verdict (some 1) 0], nextAge := 1 } }
  after (if lost then .arbitrationLost 0 cell else .transmitClash 0 cell) s
/-- Chapter 8: 41h loses at data bit 6, the second to be sent, after two dominant cells and with a third. -/
theorem test_lost_arbitration_reads_each_cell_once :
    (sending 2 true).link.transmitter = .idle ∧ (sending 2 true).link.dominantRun = 3
      ∧ (sending 2 true).link.queue.length = 1 ∧ (sending 2 true).link.receiver = .assembling := by decide +kernel
theorem test_no_arbitration_at_a_dominant_cell : (sending 1 true).link.transmitter ≠ .idle := by decide +kernel
theorem test_no_clash_at_a_recessive_header_cell : (sending 2 false).link.transmitter ≠ .idle := by decide +kernel
theorem test_clash_at_the_start_cell :
    (sending 0 false).link.recessiveRun = 11 ∧ (sending 0 false).link.receiver = .discarding := by decide +kernel
theorem test_winner_is_taken :
    (after (.joltReceived 3 5 9500 1500) (sending 2 true)).context.hold = some ⟨30000000, .station 5⟩ := by decide +kernel
/-- The node with its receiver in a state after a recessive run. -/
def heard (r : Receiver) (cells : Nat) : State := { run with link := { run.link with receiver := r, recessiveRun := cells } }
theorem test_discarding_takes_no_frame :
    ((after (.peerReportReceived 3 6 .status 0) (heard .discarding 0)).peer 6).state = .unknown := by decide +kernel
theorem test_start_cell_assembles :
    (after (.dominantCellBeforeGap 0) (heard .idle 11)).link.receiver = .assembling
      ∧ (after (.dominantCellBeforeGap 0) (heard .idle 10)).link.receiver = .discarding := by decide
theorem test_rate_change_drops_the_frame :
    let s := after (.dominantCellBeforeGap 0) (heard .idle 11)
    (after (.dwellTimerExpiry 0) { s with link := { s.link with mode := some .acquire, acq := some .hunt, dwell := some 0 } }).link.receiver
      = .discarding := by decide
theorem test_gap_clears :
    (after (.interframeGapEnd 0) (after (.stuckLine 0) run)).link.inhibit = false := by decide

/-! ## States that meet the statements' hypotheses

One theorem per statement with hypotheses, or per clause of it, each about a concrete state and concrete operands. -/

theorem exec_is_next (c : Instr) (s : State) : exec c s = .next (after c s) := by cases c <;> rfl

theorem test_meets_StepRunsTheFrontCommand :
    ({ run with pending := [.stall 0] } : State).pending = .stall 0 :: [] ∧ run.pending = [] := by decide

theorem test_meets_EveryCommandCompletes : ∀ τ st, Instr.stall 0 ≠ .resetNRelease τ st := fun _ _ h => by cases h

/-- The three cases of R152: out of service, degraded by SEEKING, and neither. -/
theorem test_meets_ServiceLevelIsUpToDate :
    (exec (.camEdge 0) (node .withdrawn) = .next (after (.camEdge 0) (node .withdrawn))
        ∧ (after (.camEdge 0) (node .withdrawn)).node.state = .withdrawn)
      ∧ (after (.toothEdge 0 .peakFirst) run).tracker.sync = .seeking
      ∧ (after (.camEdge 0) run).serviceOf = .full
      ∧ ((∀ τ st, Instr.toothEdge 0 .peakFirst ≠ .resetNRelease τ st) ∧ run.alert.sources.length = 8
        ∧ (after (.toothEdge 0 .peakFirst) run).faults.service ≠ run.faults.service)
      ∧ (run.link.HasRoom .status ∧ run.node.state.drivesAlert = true ∧ (run.alert.src .heavyKnock).mask = false
        ∧ run.alert.line = .released ∧ (node .joining).node.state.drivesAlert = false) :=
  ⟨⟨exec_is_next _ _, by decide⟩, by decide, by decide, ⟨fun _ _ h => (by cases h), by decide, by decide⟩, by decide⟩

theorem test_meets_ParametersAreHeld :
    exec (.camEdge 0) run = .next (after (.camEdge 0) run) ∧ (∀ τ bytes, Instr.camEdge 0 ≠ .configReadDone τ bytes)
      ∧ ∀ τ st, Instr.camEdge 0 ≠ .resetNRelease τ st :=
  ⟨exec_is_next _ _, fun _ _ h => (by cases h), fun _ _ h => (by cases h)⟩

def captured : FirstFault :=
  { cls := .check, cycle := 4410, angle := some 2950, station := some 6, kind := some 7, cyl := none, service := .full }

/-- The node with a FULL first-fault record. -/
def faulted : State := { run with faults := { run.faults with first := some captured } }

theorem test_meets_FirstFaultIsKept :
    WellFormed (.stuckLine 0) = true ∧ exec (.stuckLine 0) faulted = .next (after (.stuckLine 0) faulted)
      ∧ faulted.faults.first = some captured ∧ (∀ τ st, Instr.stuckLine 0 ≠ .resetNRelease τ st)
      ∧ ∀ τ st target a1 a2, Instr.stuckLine 0 ≠ .orderClearFaults τ st target a1 a2 :=
  ⟨by decide, exec_is_next _ _, by decide, fun _ _ h => (by cases h), fun _ _ _ _ _ h => (by cases h)⟩

/-- The node with one STATUS and one VERDICT waiting. -/
def waiting (n : NodeState) : State :=
  { node n with link := { (node n).link with queue := [entry .verdict (some 1) 0, entry .status none 1], nextAge := 2 } }

theorem test_meets_TransmissionBeginsOnlyWhenAllowed :
    exec (.transmissionBegin 0) (waiting .running) = .next (after (.transmissionBegin 0) (waiting .running))
      ∧ (waiting .running).link.transmitter = .idle
      ∧ (after (.transmissionBegin 0) (waiting .running)).link.transmitter ≠ .idle := ⟨exec_is_next _ _, by decide, by decide⟩

def listening : State := { node .joining with node := { (node .joining).node with listen := some 0 } }

theorem test_meets_NodeStateMovesByTheFigure :
    (WellFormed (.listenEnd 0) = true ∧ exec (.listenEnd 0) listening = .next (after (.listenEnd 0) listening)
        ∧ listening.withdrawDue = false ∧ (listening.node.port ≠ .idle → listening.node.state = .loading)
        ∧ (∀ τ st, Instr.listenEnd 0 ≠ .resetNRelease τ st)
        ∧ (after (.listenEnd 0) listening).node.state ≠ listening.node.state)
      ∧ (after (.listenEnd 0) listening).node.state = .running
      ∧ ((∀ τ st, Instr.orderHold 0 0 1 0 0 ≠ .resetNRelease τ st)
        ∧ (after (.orderHold 0 0 1 0 0) run).node.state = .hold) :=
  ⟨⟨by decide, exec_is_next _ _, by decide, by decide, fun _ _ h => (by cases h), by decide⟩, by decide,
    fun _ _ h => (by cases h), by decide +kernel⟩

/-! ### Invariants -/

/-- A busy node: PHASED, a record open and a window running, a report waiting, a command in the queue. -/
def busy : State :=
  let s := holding [recordFor 1 0] (phased [mark .deadline (some 0) 5, mark .cycle none 9] run)
  { s with
    pending := [.interpolatedMark 50],
    chanA := { s.chanA with integrator := .running 0 1 0 100 3 false },
    link := { s.link with queue := [entry .verdict (some 1) 0, entry .status none 1], nextAge := 2 } }

theorem step_of_busy : step busy = .next (after (.interpolatedMark 50) { busy with pending := [] }) :=
  (show step busy = exec (.interpolatedMark 50) { busy with pending := [] } from rfl).trans (exec_is_next _ _)

theorem test_meets_StepKeepsTheQueue : busy.link.QueueOk ∧ ∃ t, step busy = .next t :=
  ⟨by decide, _, step_of_busy⟩

/-- Full queues: with and without a kind that ranks below a STATUS, and with a first fault FULL or EMPTY. -/
def crowded (queue : List TxEntry) (s : State) : State := { s with link := { s.link with queue := queue, nextAge := 12 } }
def highQueue : List TxEntry := fullQueue.take 10 ++ [entry .tally (some 2) 10, entry .tally (some 4) 11]

theorem test_meets_StepKeepsTheQueue_reports :
    (∀ s ∈ [crowded fullQueue faulted, crowded fullQueue run, crowded highQueue faulted, crowded highQueue run, run],
        s.FaultsOk ∧ s.link.QueueOk)
      ∧ (entry .verdict (some 5) 4 ∈ fullQueue ∧ (entry .verdict (some 5) 4).sameKey (entry .verdict (some 5) 12) = true)
      ∧ (entry .log none 11 ∈ fullQueue ∧ (entry .log none 11).sameKey (entry .log none 12) = true)
      ∧ run.link.queue = [] ∧ 12 ≤ fullQueue.length ∧ 12 ≤ highQueue.length
      ∧ (∀ x ∈ fullQueue, x.sameKey (entry .witness (some 6) 12) = false)
      ∧ (entry .witness (some 6) 12).Displaces (entry .log none 11) fullQueue
      ∧ (∀ x ∈ highQueue, x.sameKey (entry .status none 12) = false ∧ x.kind.code ≤ Kind.status.code)
      ∧ faulted.faults.first.isSome = true ∧ run.faults.first = none ∧ (run.faults.cls .queueOverflow).mask = false := by
  decide

theorem test_meets_StepKeepsTheAlertLine : busy.AlertOk ∧ ∃ t, step busy = .next t := ⟨by decide, _, step_of_busy⟩

theorem test_meets_StepKeepsTheFaultUnit : busy.FaultsOk ∧ ∃ t, step busy = .next t := ⟨by decide, _, step_of_busy⟩

/-- A clash is counted by a step; and a withdrawal passed in RUNNING. -/
theorem test_meets_StepKeepsTheFaultUnit_withdrawal :
    let s := { run with pending := [.ownStationFrame 0 .status (low [0, 0, 0, 0, 0, 0, 0, 0])] }
    s.FaultsOk ∧ (s.faults.cls .clash).severity = .withdrawing ∧ (s.faults.cls .clash).mask = false
      ∧ (match step s with
        | .next t => decide ((s.faults.cls .clash).count < (t.faults.cls .clash).count)
        | .fault _ => false
        | .refused _ => false) = true
      ∧ (let u := { run with withdrawDue := true }
         u.withdrawDue = true ∧ { u with withdrawDue := false }.FaultsOk ∧ u.node.state = .running) := by decide +kernel

theorem test_meets_StepKeepsTheEngine : busy.EngineOk ∧ ∃ t, step busy = .next t :=
  ⟨⟨by decide, by decide, by decide, by decide, by decide, by decide, by decide⟩, _, step_of_busy⟩

theorem test_meets_StepLeavesNoCompleteRecordOpen : busy.EngineOk ∧ busy.NoneReady ∧ ∃ t, step busy = .next t :=
  ⟨test_meets_StepKeepsTheEngine.1, by decide, _, step_of_busy⟩

theorem test_meets_StepKeepsTheNumbers : busy.NumbersOk ∧ ∃ t, step busy = .next t := ⟨by decide, _, step_of_busy⟩

/-! ### Passing time -/

theorem test_meets_PassageOfTime :
    (∀ sync ∈ [Sync.crankLocked, .phased], (crank sync 20 0 run).tracker.lastEdge = some 0
        ∧ (crank sync 20 0 run).tracker.perPitch = some 1000 ∧ (crank sync 20 0 run).tracker.toothIndex = some 0
        ∧ (crank sync 20 0 run).tracker.edgeAngle = some 20 ∧ (crank sync 20 0 run).tracker.angle = some 20
        ∧ (crank sync 20 0 run).tracker.sync = sync)
      ∧ ∀ sync ∈ [Sync.stopped, .seeking], (crank sync 20 0 run).tracker.sync = sync := by decide

/-! ### Start-up -/

theorem test_meets_ImageIsJudgedByItsConditions : (imageOf 3).length = 256 ∧ (List.replicate 256 0#8).length = 256 := by
  decide +kernel

/-- A node whose first or second read is under way. -/
def reading (second : Bool) : State :=
  { State.reset with station := 1, node := { NodeCtl.powerOn with port := .reading second } }

set_option maxRecDepth 100000 in
theorem test_meets_AcceptedReadEntersProbing :
    (reading false).withdrawDue = false ∧ (reading false).node.port = .reading false
      ∧ judgeRead (imageOf 3) (reading false).station = some im ∧ (reading false).link.queue = [] ∧ im.bitRate ≠ 0 := by
  decide +kernel

set_option maxRecDepth 100000 in
theorem test_meets_AcceptedReadEntersProbing_acquire :
    judgeRead (imageOf 0) (reading true).station = some { im with bitRate := 0 } ∧ (reading true).node.port = .reading true := by
  decide +kernel

theorem test_meets_FailedReadIsRepeatedOnce :
    (reading false).withdrawDue = false ∧ (reading false).node.port = .reading false
      ∧ judgeRead [] (reading false).station = none
      ∧ (let s := { reading false with node := { NodeCtl.powerOn with port := .waiting 200000 } }
         (s.advance 200000).node.port = .waiting 0 ∧ (s.advance 199999).node.port ≠ .waiting 0) := by decide

theorem test_meets_SecondFailureUnconfigures :
    (reading true).FaultsOk ∧ (reading true).AlertOk ∧ (reading true).node.state = .loading
      ∧ (reading true).node.port = .reading true ∧ judgeRead [] (reading true).station = none
      ∧ (reading true).tracker = Tracker.powerOn ∧ (reading true).faults.first = none
      ∧ (reading true).faults.service = .degraded ∧ (reading true).link.queue = []
      ∧ ∀ x ∈ allSources, ((reading true).alert.src x).mask = false := by decide

/-- PROBING with Channel A above the threshold just long enough and Channel B a tick less. -/
def probing : State :=
  { node .probing with
    node := { NodeCtl.powerOn with state := .probing, probe := some 0 },
    chanA := { Channel.powerOn with levelAbove := some 200000 },
    chanB := { Channel.powerOn with levelAbove := some 199999 } }

theorem test_meets_ProbeEndJudgesTheChannels :
    probing.FaultsOk ∧ probing.node.state = .probing ∧ (probing.advance 0).node.probe = some 0
      ∧ run.FaultsOk ∧ run.node.state ≠ .probing
      ∧ ((probing.advance 0).chan .a).levelAbove = some 200000
      ∧ ((probing.advance 0).chan .b).levelAbove = some 199999 := by decide

/-- JOINING, listening, with an alert latched. -/
def latched : State :=
  { listening with alert := { listening.alert with
      sources := SourceState.mk true 1 false :: List.replicate 7 SourceState.powerOn } }

theorem test_meets_ListenEndAndStatusTimerQueueStatus :
    (latched.FaultsOk ∧ latched.link.HasRoom .status ∧ latched.AlertOk ∧ latched.node.state = .joining
        ∧ (latched.advance 0).node.listen = some 0 ∧ latched.alert.unmaskedLatched = true)
      ∧ (run.node.state ≠ .joining ∧ run.link.HasRoom .status ∧ (run.advance 0).node.statusTimer ≠ some 0)
      ∧ (({ run with node := { run.node with statusTimer := some 1 } } : State).advance 1).node.statusTimer = some 0 := by decide

/-! ### Engine inputs -/

/-- SEEKING, a period of 1000 measured. -/
def seeking (count : Option Nat) : State :=
  { run with tracker := { Tracker.powerOn with
      sync := .seeking, lastEdge := some 0, periodCur := some 1000, refCount := count } }

/-- A period of 1500 is no candidate after one of 1000 and one of 1501 is (R4). -/
theorem test_meets_SeekingBeginsAndCountsFromTheGap :
    (run.FaultsOk ∧ run.node.state.configured = true ∧ run.tracker.sync = .stopped)
      ∧ (∀ n ∈ [NodeState.loading, .unconfigured], (node n).FaultsOk ∧ ¬(node n).node.state.configured = true)
      ∧ (∀ n ∈ [none, some 0, some 34], (seeking n).tracker.sync = .seeking ∧ (seeking n).tracker.lastEdge = some 0
          ∧ (seeking n).tracker.refCount = n ∧ (seeking n).FaultsOk)
      ∧ 0 + 1 ≠ im.teeth - im.gap ∧ 34 + 1 = im.teeth - im.gap
      ∧ decide ((2 * im.gap + 1) * 1000 < 2 * ((1500 : Tick) - 0).toNat) = false
      ∧ decide ((2 * im.gap + 1) * 1000 < 2 * ((1501 : Tick) - 0).toNat) = true := by decide

/-- A mark one hundredth of a turn beyond the tooth, with the pitch and with the gap before it. -/
theorem test_meets_AcceptedToothIsCounted_phased :
    ∀ x ∈ [((0 : Nat), (1500 : Tick), (101 : Int), (120 : Nat)), (34, 1501, 201, 220)],
      let s0 := crank .phased 20 x.1 run
      let s := { s0 with tracker := { s0.tracker with phase := some .first, marks := [mark .cycle none x.2.2.1] } }
      let a := s.advance x.2.1
      let was := a.tracker.angle.getD 0
      s.withdrawDue = false ∧ s.tracker.sync = .phased ∧ s.tracker.edgeAngle = some 20 ∧ a.tracker.angle = some was
        ∧ decide ((2 * im.gap + 1) * 1000 < 2 * (x.2.1 - 0).toNat) = decide (x.1 + 1 = im.teeth - im.gap)
        ∧ ∀ m ∈ a.tracker.marks, (0 : Int) < m.dist - ((x.2.2.2 + 7200 - was : Nat) % 7200 : Nat) := by decide

/-- An edge that reaches a window open mark and a deadline, one that reaches a segment boundary among others below the
shock threshold, and both again at an angle where CRANK_LOCKED has a boundary. -/
theorem test_meets_AcceptedToothIsCounted_marks :
    ∀ x ∈ [(20, (120 : Nat), MarkKind.windowOpen), (20, 120, .segment), (320, 420, .windowOpen), (320, 420, .segment)],
      let s0 := crank .phased x.1 0 run
      let s := { s0 with tracker := { s0.tracker with
        phase := some .first, marks := [mark x.2.2 (some 0) 100, mark .deadline (some 3) 100] } }
      let a := s.advance 1000
      let was := a.tracker.angle.getD 0
      s.withdrawDue = false ∧ s.tracker.sync = .phased ∧ s.tracker.edgeAngle = some x.1 ∧ a.tracker.angle = some was
        ∧ decide ((2 * im.gap + 1) * 1000 < 2 * ((1000 : Tick) - 0).toNat) = decide (0 + 1 = im.teeth - im.gap)
        ∧ (∀ m ∈ a.tracker.marks, m.dist - ((x.2.1 + 7200 - was : Nat) % 7200 : Nat) ≤ (0 : Int))
        ∧ max s.chanA.shockPeak s.chanB.shockPeak < im.shockThr
        ∧ im.isLockedBoundary (x.2.1 % 3600) = decide (x.2.1 = 420) := by decide

theorem test_meets_AcceptedToothIsCounted :
    ∀ x ∈ [(0, (1500 : Tick)), (34, 1501)],
      let s := crank .crankLocked 20 x.1 run
      s.withdrawDue = false ∧ s.node.state.configured = true ∧ s.tracker.sync = .crankLocked
        ∧ s.tracker.lastEdge = some 0 ∧ s.tracker.periodCur = some 1000 ∧ s.tracker.toothIndex = some x.1
        ∧ decide ((2 * im.gap + 1) * 1000 < 2 * (x.2 - 0).toNat) = decide (x.1 + 1 = im.teeth - im.gap)
        ∧ im.isLockedBoundary ((im.gapOffset + (if x.1 = 34 then 0 else x.1 + 1) * (3600 / im.teeth)) % 3600) = false := by
  decide

/-- Before a boundary tooth, with a chain, a shock peak and a hold. -/
def bounding (chain : Option Tick) (peak : Nat) (hold : Option ShockHold) (s : State) : State :=
  { s with
    tracker := { s.tracker with chain := chain },
    chanA := { s.chanA with shockPeak := peak },
    context := { s.context with hold := hold } }

/-- CRANK_LOCKED before the tooth at 420; the chain with a timestamp and without. -/
theorem test_meets_LockedBoundaryMeasuresTheSegment :
    (∀ x ∈ [(some 0, 8999, none), (none, 9000, none), (some 0, 9000, some ⟨1, .ownShock⟩)],
        let s := bounding x.1 x.2.1 x.2.2 (crank .crankLocked 320 3 run)
        s.FaultsOk ∧ s.node.state.configured = true ∧ s.tracker.sync = .crankLocked ∧ s.tracker.lastEdge = some 0
          ∧ s.tracker.periodCur = some 1000 ∧ s.tracker.toothIndex = some 3 ∧ s.tracker.chain = x.1
          ∧ (s.advance 0).context.hold = x.2.2 ∧ s.context.joltGuard = none ∧ s.link.QueueOk ∧ s.link.queue.length < 12)
      ∧ decide ((2 * im.gap + 1) * 1000 < 2 * ((1000 : Tick) - 0).toNat) = decide (3 + 1 = im.teeth - im.gap)
      ∧ im.n % 2 = 0 ∧ (∃ k < im.n / 2, (im.sigma + k * (7200 / im.n)) % 3600 = (im.gapOffset + 4 * (3600 / im.teeth)) % 3600)
      ∧ ¬im.shockThr ≤ 8999 ∧ im.shockThr ≤ 9000 := by decide

/-- An edge that locks at a boundary angle: the gap offset at 420. -/
theorem test_meets_LockedBoundaryMeasuresTheSegment_locking :
    let s := { seeking (some 34) with image := some { im with gapOffset := 420 } }
    s.FaultsOk ∧ s.tracker.sync = .seeking ∧ s.tracker.refCount = some 34 ∧ s.tracker.lastEdge = some 0
      ∧ s.tracker.periodCur = some 1000 ∧ 34 + 1 = im.teeth - im.gap
      ∧ decide ((2 * im.gap + 1) * 1000 < 2 * ((1501 : Tick) - 0).toNat) = true
      ∧ (∃ k < im.n / 2, (im.sigma + k * (7200 / im.n)) % 3600 = 420) := by decide

/-- PHASED at the boundary mark of position 0, which ends the segment of position 3, of cylinder 2. -/
def boundaryDue (chain : Option Tick) (rs : List Record) : State :=
  let s := phased [mark .segment (some 0) 100, mark .cycle none 6880] run
  holding rs { s with tracker := { s.tracker with
    edgeAngle := some 320, angle := some 320, toothIndex := some 3, chain := chain } }

theorem test_meets_LockedBoundaryMeasuresTheSegment_phased :
    let taken := { recordFor 2 3 with windowTaken := true }
    (∀ s ∈ [boundaryDue none [taken], boundaryDue (some 0) [], boundaryDue (some 0) [recordFor 2 3],
          boundaryDue (some 0) [{ taken with expected := [2] }], boundaryDue (some 0) [taken]],
        let was := (s.advance 1000).tracker.angle.getD 0
        s.FaultsOk ∧ s.tracker.sync = .phased ∧ s.tracker.toothIndex = some 3 ∧ s.tracker.edgeAngle = some 320
          ∧ (s.advance 1000).tracker.angle = some was ∧ s.NoneReady
          ∧ im.issuesExactly [mark .segment (some 0)] ((s.advance 1000).tracker.marks.map
              (fun m => { m with dist := m.dist - ((420 + 7200 - was) % 7200 : Nat) })) = true)
      ∧ (run.faults.cls .peerSilent).severity ≠ .withdrawing ∧ im.cylAt ((0 + im.n - 1) % im.n) = 2
      ∧ (boundaryDue (some 0) [taken]).recordOf 2 = some taken ∧ taken.segmentTaken = false
      ∧ (boundaryDue (some 0) [recordFor 1 0]).recordOf 2 = none := by decide

theorem test_meets_ToothCountErrorLosesThePhase :
    let s := phased [mark .cycle none 9] run
    (∀ x ∈ [(s, Sync.phased), (crank .crankLocked 20 0 run, .crankLocked)],
        x.1.FaultsOk ∧ x.1.node.state.configured = true ∧ x.1.tracker.sync = x.2 ∧ x.1.tracker.lastEdge = some 0
          ∧ x.1.tracker.periodCur = some 1000 ∧ x.1.tracker.toothIndex = some 0)
      ∧ decide ((2 * im.gap + 1) * 1000 < 2 * ((1501 : Tick) - 0).toNat) ≠ decide (0 + 1 = im.teeth - im.gap) := by decide

theorem test_meets_StallStopsTheTracker :
    (∀ sync ∈ [Sync.stopped, .seeking, .crankLocked, .phased],
        (watched sync 1).withdrawDue = false ∧ (watched sync 1).tracker.sync = sync
          ∧ ((watched sync 1).advance 1).tracker.stallLeft = some 0 ∧ ((watched sync 1).advance 0).tracker.stallLeft ≠ some 0)
      ∧ busy.cylinders.length = 8 ∧ busy.openRecords.Pairwise (fun r r' => r.cyl ≠ r'.cyl)
      ∧ (∀ r ∈ busy.openRecords, r.cyl ∈ allCylinders) ∧ busy.openRecords ≠ [] := by decide

/-- STOPPED and SEEKING; and angles just inside the window in each revolution, and just outside it in both. -/
theorem test_meets_CamEdgeFindsThePhase :
    (run.withdrawDue = false ∧ run.tracker.sync = .stopped
        ∧ (seeking none).withdrawDue = false ∧ (seeking none).tracker.sync = .seeking)
      ∧ (∀ x ∈ [199, 3200, 200], (crank .crankLocked x 0 run).withdrawDue = false
        ∧ (crank .crankLocked x 0 run).tracker.sync = .crankLocked
        ∧ ((crank .crankLocked x 0 run).advance 0).tracker.angle = some x)
      ∧ (199 + 7200 - im.camStart) % 7200 < im.camWidth
      ∧ ¬(3200 + 7200 - im.camStart) % 7200 < im.camWidth ∧ (3200 + 3600 + 7200 - im.camStart) % 7200 < im.camWidth
      ∧ ¬(200 + 7200 - im.camStart) % 7200 < im.camWidth ∧ ¬(200 + 3600 + 7200 - im.camStart) % 7200 < im.camWidth := by
  decide

theorem test_meets_CamEdgeAgreesOrDropsThePhase :
    (∀ x ∈ [199, 200], (crank .phased x 0 run).FaultsOk ∧ (crank .phased x 0 run).tracker.sync = .phased
        ∧ ((crank .phased x 0 run).advance 0).tracker.angle = some x)
      ∧ (199 + 7200 - im.camStart) % 7200 < im.camWidth ∧ ¬(200 + 7200 - im.camStart) % 7200 < im.camWidth := by decide

/-! ### Marks -/

/-- PHASED and warm with these marks due now. -/
def due (ms : List PendingMark) (s : State) : State := phased (ms ++ [mark .cycle none 9]) s

theorem test_meets_CamWindowEndJudgesTheWindow :
    let s := due [mark .camWindowEnd] run
    let missed := { s with tracker := { s.tracker with camMiss := 1 } }
    s.FaultsOk ∧ run.tracker.sync ≠ .phased ∧ ((due [] run).advance 0).Due []
      ∧ (s.advance 0).Due [mark .camWindowEnd] ∧ (mark .camWindowEnd).kind = .camWindowEnd ∧ s.tracker.camMiss = 0
      ∧ missed.FaultsOk ∧ (missed.advance 0).Due [mark .camWindowEnd] ∧ missed.tracker.camSeen = false
      ∧ missed.tracker.camMiss = 1 := by decide

/-- A cycle mark with the firing mark that follows it, by pending context and freshness. -/
def cycleDue (n : NodeState) (ctx : Option EngineContext) (freshness : Nat) : State :=
  let s := phased [mark .cycle, mark .firing (some 0)] (node n)
  { s with context := { s.context with pendingCtx := ctx, freshness := freshness } }

theorem test_meets_CycleMarkSwapsTheContext :
    (∀ s ∈ [cycleDue .running (some ⟨4, true, 1⟩) 0, cycleDue .running none 4, cycleDue .hold none 5],
        s.FaultsOk ∧ s.TrackerOk ∧ (s.advance 0).Due [mark .cycle, mark .firing (some 0)])
      ∧ (mark .cycle).kind = .cycle ∧ (∀ f ∈ [mark .firing (some 0)], f.kind = .firing)
      ∧ (cycleDue .running (some ⟨4, true, 1⟩) 0).context.pendingCtx = some ⟨4, true, 1⟩
      ∧ (cycleDue .running none 4).context.pendingCtx = none ∧ (cycleDue .running none 4).context.freshness = 4
      ∧ (cycleDue .hold none 5).node.state ≠ .running ∧ (cycleDue .running none 4).node.state = .running := by decide

/-- Cylinder 3, deputy of rank 1, silent for two cycle marks: the third takes it over. Cylinder 1 is judged, the block of
cylinder 2 has all its cycles, and cylinder 4 is deputy of rank 2. -/
theorem test_meets_CycleMarkCountsSilenceAndBlocks :
    let s0 := cycleDue .running none 0
    let silent := s0.cylinders.modify 2 (fun e => { e with silence := 2 })
    let s := { s0 with cylinders := silent.modify 1 (fun e => { e with block := { e.block with cycles := 16 } }) }
    s.FaultsOk ∧ s.AlertOk ∧ s.cylinders.length = 8 ∧ (s.advance 0).Due [mark .cycle, mark .firing (some 0)]
      ∧ (mark .cycle).kind = .cycle ∧ (∀ f ∈ [mark .firing (some 0)], f.kind = .firing) ∧ s.node.state = .running
      ∧ 0 < s.params.blockLen
      ∧ ((s.cyl 3).role = .deputyStandby ∧ (s.cyl 3).heard = false ∧ (s.cyl 3).rank = some 1
          ∧ min ((s.cyl 3).silence + 1) 255 = s.params.silenceLen * 1)
      ∧ ((s.cyl 1).role.judges = true ∧ (s.cyl 1).block.cycles ≠ s.params.blockLen)
      ∧ ((s.cyl 2).role.judges = true ∧ (s.cyl 2).block.cycles = s.params.blockLen)
      ∧ ((s.cyl 4).rank = some 2 ∧ min ((s.cyl 4).silence + 1) 255 ≠ s.params.silenceLen * 2) := by decide

/-- Slot 1 is the lowest free slot while slot 0 is taken; in HOLD no record opens. -/
theorem test_meets_FiringMarkOpensARecord :
    let s := due [mark .firing (some 0)] (holding [recordFor 2 3] run)
    s.FaultsOk ∧ s.TrackerOk ∧ (s.advance 0).Due [mark .firing (some 0)] ∧ (mark .firing (some 0)).kind = .firing
      ∧ (mark .firing (some 0)).pos = some 0
      ∧ (s.node.state = .running ∧ s.tracker.warmUp = im.warmUp ∧ (s.cyl (im.cylAt 0)).role = .owner)
      ∧ s.records[1]? = some none ∧ s.records[0]? = some (some (recordFor 2 3))
      ∧ 1 ≤ im.cylAt 0 ∧ im.cylAt 0 ≤ s.cylinders.length
      ∧ ((due [mark .firing (some 0)] (node .hold)).advance 0).Due [mark .firing (some 0)]
      ∧ (due [mark .firing (some 0)] (node .hold)).node.state ≠ .running := by decide

theorem test_meets_WindowOpenStartsIntegration :
    let s := due [mark .windowOpen (some 0)] run
    s.FaultsOk ∧ (s.advance 0).Due [mark .windowOpen (some 0)] ∧ (mark .windowOpen (some 0)).kind = .windowOpen
      ∧ (mark .windowOpen (some 0)).pos = some 0 := by decide

/-- A window closing at a position, Channel A with 16 samples and Channel B as given. -/
def closing (k : Nat) (clipA clipB : Bool) (s : State) : State :=
  let u := due [mark .windowClose (some k)] s
  { u with
    chanA := { u.chanA with integrator := .running k (im.cylAt k) 0 800 16 clipA },
    chanB := { u.chanB with integrator := .running k (im.cylAt k) 0 800 16 clipB } }

theorem test_meets_WindowCloseFormsTheResult :
    (∀ s ∈ [closing 0 false false (holding [recordFor 1 0] run), closing 0 true true run, closing 0 true false run,
          closing 0 false true run, closing 0 false false (node .hold)],
        s.FaultsOk ∧ s.link.QueueOk ∧ (s.advance 0).Due [mark .windowClose (some 0)])
      ∧ im.weightA.getD 0 0 ≠ 0 ∧ im.weightB.getD 0 0 ≠ 0
      ∧ (let s := closing 0 false false (holding [recordFor 1 0] run)
         s.node.state = .running ∧ (s.cyl 1).role = .owner ∧ s.NoneReady ∧ s.recordOf 1 = some (recordFor 1 0)
          ∧ (recordFor 1 0).windowTaken = false ∧ (recordFor 1 0).segmentTaken = false)
      ∧ (closing 0 false false (node .hold)).node.state ≠ .running := by decide

/-- Records whose segment end has been taken first, with a witness missing and without. -/
theorem test_meets_WindowCloseFormsTheResult_last :
    let last := { recordFor 1 0 with segmentTaken := true, loss := some 12 }
    ∀ r ∈ [last, { last with expected := [2] }],
      let s := closing 0 false false (holding [r] run)
      s.FaultsOk ∧ s.link.QueueOk ∧ (s.advance 0).Due [mark .windowClose (some 0)] ∧ s.node.state = .running
        ∧ (s.cyl 1).role = .owner ∧ s.NoneReady ∧ s.recordOf 1 = some r ∧ r.windowTaken = false ∧ r.segmentTaken = true := by
  decide

/-- Judged cylinder 1 without an open record, and with one whose window has been taken; cylinder 4, not judged, before
warm-up is complete and where no channel counts. -/
theorem test_meets_WindowCloseFormsTheResult_discarded :
    (∀ rs ∈ [[], [{ recordFor 1 0 with windowTaken := true }]],
        let s := closing 0 false false (holding rs run)
        s.FaultsOk ∧ s.link.QueueOk ∧ (s.advance 0).Due [mark .windowClose (some 0)] ∧ s.node.state = .running
          ∧ (s.cyl 1).role = .owner ∧ s.NoneReady ∧ s.recordOf 1 = rs.head?)
      ∧ (let s := closing 2 false false run
         let cold := { s with tracker := { s.tracker with warmUp := 3 } }
         let idle := due [mark .windowClose (some 2)] run
         (∀ x ∈ [cold, idle], x.FaultsOk ∧ x.link.QueueOk ∧ (x.advance 0).Due [mark .windowClose (some 2)]
            ∧ x.node.state = .running)
          ∧ cold.tracker.warmUp ≠ im.warmUp ∧ idle.chanA.integrator = .idle ∧ idle.chanB.integrator = .idle) := by decide

/-- Cylinder 4 stands at position 2 and is not judged: its weights 3 and 2 count. -/
theorem test_meets_WindowCloseFormsTheResult_witness :
    let s := closing 2 false false run
    let held := { s with context := { s.context with hold := some ⟨1, .ownShock⟩ } }
    s.FaultsOk ∧ s.link.QueueOk ∧ (s.advance 0).Due [mark .windowClose (some 2)] ∧ s.node.state = .running
      ∧ im.cylAt 2 = 4 ∧ (s.cyl 4).role = .deputyStandby ∧ s.tracker.warmUp = im.warmUp
      ∧ im.weightA.getD 3 0 + im.weightB.getD 3 0 = 5 ∧ s.link.queue.length ≤ 9 ∧ s.context.hold = none
      ∧ s.cylinders.length = 8 ∧ 4 ∈ allCylinders
      ∧ held.FaultsOk ∧ (held.advance 0).Due [mark .windowClose (some 2)] ∧ held.context.hold ≠ none := by decide

/-- Records that end in each misfire part, two of them without a loss or in a shock. -/
theorem test_meets_DeadlineClosesTheRecord :
    (∀ r ∈ [recordFor 1 0, { recordFor 1 0 with cut := true }, { recordFor 1 0 with loss := some 150 },
          { recordFor 1 0 with loss := some 149 }, { recordFor 1 0 with loss := some 150, shock := true }],
        let s := due [mark .deadline (some 0)] (holding [r] run)
        s.FaultsOk ∧ s.link.QueueOk ∧ (s.faults.cls .peerSilent).severity ≠ .withdrawing
          ∧ (s.advance 0).Due [mark .deadline (some 0)] ∧ s.findRecord (fun x => x.pos == 0) = some r
          ∧ s.link.queue.length < 12)
      ∧ (mark .deadline (some 0)).kind = .deadline ∧ (mark .deadline (some 0)).pos = some 0
      ∧ im.threshold 2 (some 2) false = 150
      ∧ (let s := due [mark .deadline (some 0)] (holding [recordFor 2 3] run)
         (s.advance 0).Due [mark .deadline (some 0)] ∧ ∀ r ∈ s.openRecords, r.pos ≠ 0) := by decide

/-- Station 2 was expected and misses for the third time, station 3 is REJOINING and was not expected, and station 5 is in
the list; no other record is open. In the second state another is, and no station is silenced. -/
theorem test_meets_DeadlineClosesTheRecord_accounting :
    let r := { recordFor 1 0 with expected := [2], witnesses := [⟨5, 30, 6, false⟩] }
    let s0 := due [mark .deadline (some 0)] (holding [r] run)
    let missing := { PeerEntry.powerOn with state := .active, misses := 2, expectedFor := true }
    let s := { s0 with peers := (s0.peers.set 2 missing).set 3 { PeerEntry.powerOn with state := .rejoining } }
    let u := due [mark .deadline (some 0)] (holding [recordFor 1 0, recordFor 2 3] run)
    (∀ x ∈ [s, u], x.FaultsOk ∧ x.link.QueueOk ∧ (x.advance 0).Due [mark .deadline (some 0)] ∧ x.peers.length = 16
        ∧ x.alert.sources.length = 8 ∧ x.link.queue.length < 12)
      ∧ (s.findRecord (fun x => x.pos == 0) = some r ∧ ∀ x ∈ s.openRecords, x.cyl = 1)
      ∧ ((s.peer 2).state = .active ∧ im.kMiss ≤ (s.peer 2).misses + 1 ∧ (s.peer 2).expectedFor = true)
      ∧ ((im.witness.getD 0 0).testBit (3 : Station).val = true ∧ (s.peer 3).state = .rejoining ∧ 3 ∉ r.expected)
      ∧ (u.NoneReady ∧ u.findRecord (fun x => x.pos == 0) = some (recordFor 1 0) ∧ (recordFor 1 0).expected = []
        ∧ ∀ st, (u.peer st).state ≠ .rejoining) := by decide

/-- The node with a withdrawing PEER_SILENT, at a deadline mark at which station 2, missing for the third time, is silenced;
the record of cylinder 2 waits for that station alone. -/
def silencing (severity : Severity) : State :=
  let missing := { PeerEntry.powerOn with state := .active, misses := 2, expectedFor := true }
  let waits := { recordFor 2 3 with
    slot := 1, state := .waiting, windowTaken := true, segmentTaken := true, loss := some 12, expected := [2] }
  let s := due [mark .deadline (some 0)] (holding [{ recordFor 1 0 with expected := [2] }, waits] run)
  { s with
    peers := s.peers.set 2 missing,
    faults := { s.faults with classes := s.faults.classes.modify 6 (fun x => { x with severity := severity }) } }

theorem test_meets_DeadlineClosesTheRecord_withdrawing :
    let s := silencing .withdrawing
    s.FaultsOk ∧ s.link.QueueOk ∧ (s.advance 0).Due [mark .deadline (some 0)] ∧ s.node.state = .running
      ∧ s.findRecord (fun x => x.pos == 0) = some { recordFor 1 0 with expected := [2] }
      ∧ (s.faults.cls .peerSilent).severity = .withdrawing ∧ (s.faults.cls .peerSilent).mask = false
      ∧ (s.peer 2).state = .active ∧ im.kMiss ≤ (s.peer 2).misses + 1
      ∧ s.cylinders.length = 8 ∧ s.peers.length = 16 ∧ s.openRecords.Pairwise (fun x y => x.cyl ≠ y.cyl)
      ∧ s.openRecords.map (·.cyl) = [1, 2] := by decide

/-- R74, R109, R151: the close that a silencing completes is an event of its own. A withdrawal of the first close aborts the
second record; without one the second closes. -/
theorem test_withdrawal_comes_before_the_next_close :
    let t := after (.interpolatedMark 0) (silencing .withdrawing)
    let u := after (.interpolatedMark 0) (silencing .advisory)
    (t.node.state = .withdrawn ∧ (t.cyl 2).aborts = 1 ∧ (t.cyl 1).aborts = 0)
      ∧ (u.node.state = .running ∧ (u.cyl 2).aborts = 0 ∧ u.openRecords = []
        ∧ u.link.queue.any (fun e => e.kind == .verdict && e.cyl == some 2)) := by decide +kernel

/-! ### What the blocks compute -/

/-- Histories at the edge of the transient test, and at both edges of the speed window. -/
theorem test_meets_SegmentResultFollowsTheHistory :
    0 < im.n ∧ im.edges.length = 7
      ∧ (¬100000 < (106250 - 100000) * 16 ∧ 100000 < (106251 - 100000) * 16)
      ∧ 2400000000 / (im.n * 60000) = 10000 ∧ 10000 < 2400000000 / (im.n * 59994)
      ∧ 2400000000 / (im.n * 1500000) = 400 ∧ 2400000000 / (im.n * 1500001) < 400
      ∧ (104000 : Int) = 2 * 102000 - 100000 := by decide

theorem test_meets_ThresholdScalesTheConfiguredLoss :
    let r := { recordFor 1 0 with loss := some 32767 }
    (im.mthr.getD 0 0 = 0 ∧ (0 : Int) ≤ 0) ∧ im.mthr.getD r.band 0 ≤ 32767 ∧ im.sLoad.getD 2 0 ≤ 31 ∧ im.sLoad.getD 0 0 = 16
      ∧ im.antiLag ≤ 63 ∧ r.cut = false ∧ r.shock = false ∧ r.loss = some 32767
      ∧ ({ im with mthr := [0, 0, 32767] } : Image).threshold 2 (some 2) false = 32767
      ∧ ({ r with loadBand := some 2 } : Record).misfirePart { im with mthr := [0, 0, 32767] } ≠ .fired
      ∧ (node .running).context.stale = false
      ∧ ({ Context.powerOn with freshness := 5 } : Context).stale = true := by decide

theorem test_meets_CombinedScoreIsTheWeightedMean :
    let r := { recordFor 1 0 with ownA := some ⟨15, 1023⟩, witnesses := [⟨2, 1023, 30, false⟩] }
    r.usable ≠ [] ∧ (recordFor 1 0).usable = []
      ∧ (∀ x ∈ r.ownA.toList ++ r.ownB.toList, 1 ≤ x.weight ∧ x.weight ≤ 15 ∧ x.ratio ≤ 1023)
      ∧ (∀ w ∈ r.witnesses, 1 ≤ w.weight ∧ w.weight ≤ 30 ∧ w.score ≤ 1023) ∧ r.witnesses.length ≤ 15
      ∧ (∀ x ∈ [(⟨12, 20⟩, ⟨4, 70⟩), (⟨12, 20⟩, ⟨12, 70⟩)],
          let near : Contribution := x.1
          let far : Contribution := x.2
          let cs := ({ r with ownA := some near, ownB := some far, witnesses := [] } : Record).usable
          near ∈ cs ∧ far ∈ cs ∧ (∀ x ∈ cs, far.weight ≤ x.weight ∧ x.weight ≤ near.weight)
            ∧ (∀ x ∈ cs, x.weight = near.weight → near.ratio ≤ x.ratio)
            ∧ (∀ x ∈ cs, x.weight = far.weight → x.ratio ≤ far.ratio))
      ∧ run.link.QueueOk ∧ run.link.queue.length < 12 ∧ (∀ x ∈ r.usable, x.ratio ≤ 1023)
      ∧ ∀ x ∈ r.usable, 1023 ≤ x.ratio := by decide

/-- Seven entries, five MISFIREs among them: one more MISFIRE sets the dead flag. -/
theorem test_meets_FoldKeepsTheHistories :
    let h := [FireEntry.fired, .fired, .misfire, .misfire, .misfire, .misfire, .misfire]
    let s := { run with cylinders := run.cylinders.modify 0 (fun e => { e with misfireHistory := h }) }
    1 ∈ allCylinders ∧ s.cylinders.length = 8 ∧ (s.cyl 1).dead = false
      ∧ ((s.foldVerdict 1 ⟨.misfire, .none, 0⟩ none none).cyl 1).dead = true
      ∧ ((run.foldVerdict 1 ⟨.fired, .quiet, 0⟩ none none).cyl 1).dead = false := by decide

/-- Blocks on both sides of the thin test, of the rate limit and its half, and of the knock limit and its half. -/
theorem test_meets_BlockEndJudgesTheAlarms :
    1 ∈ allCylinders ∧ run.cylinders.length = 8 ∧ run.alert.sources.length = 8
      ∧ (run.link.QueueOk ∧ run.link.queue.length < 12)
      ∧ ((crowded fullQueue run).link.QueueOk ∧ entry .tally (some 1) 6 ∈ fullQueue)
      ∧ (3 < im.blockLen / 4 ∧ ¬4 < im.blockLen / 4)
      ∧ (im.rateLimit ≤ 1 * 1000 / 25 ∧ ¬im.rateLimit ≤ 1 * 1000 / 26)
      ∧ (1 * 1000 / 52 < im.rateLimit / 2 ∧ ¬1 * 1000 / 50 < im.rateLimit / 2)
      ∧ (im.knockLimit ≤ 12 ∧ ¬im.knockLimit ≤ 11 ∧ 5 < im.knockLimit / 2 ∧ ¬6 < im.knockLimit / 2)
      ∧ (im.clearCount ≤ 1 + 1 ∧ ¬im.clearCount ≤ 0 + 1) ∧ 16 ≤ im.blockLen
      ∧ ({ im with rateLimit := 1, knockLimit := 1 } : Image).rateLimit = 1 := by decide

/-! ### Knock channel inputs -/

theorem test_meets_KnockInputsMoveOneChannel :
    let s := closing 0 false true run
    let q := run.onChanA (fun c => { c with qualification := some 0 })
    let early := run.onChanA (fun c => { c with qualification := some 1 })
    s.FaultsOk ∧ run.FaultsOk ∧ ((run.advance 0).chan .a).integrator = .idle
      ∧ ((s.advance 0).chan .a).integrator = .running 0 1 0 800 16 false ∧ (0 : Tick) ≠ 125
      ∧ q.FaultsOk ∧ ((q.advance 0).chan .a).state = .enabled ∧ ((q.advance 0).chan .a).qualification = some 0
      ∧ early.FaultsOk ∧ ((early.advance 0).chan .a).qualification ≠ some 0
      ∧ ((run.advance 0).chan .a).qualification = none := by decide

/-! ### Received frames -/

/-- The node in an acquisition state. -/
def acquiring (mode : RateMode) (q : Acq) (failures confirms : Nat) : State :=
  { run with link := { run.link with
      mode := some mode, acq := some q, failures := failures, confirms := confirms } }

/-- A whole frame with a bad check, one of an unknown kind with a right check, an overlong one, and one cut short. -/
theorem test_meets_RejectedFrameIsJudged :
    (∀ x ∈ [acquiring .fixed .locked 6 0, acquiring .fixed .locked 7 0, acquiring .acquire .locked 7 0,
          acquiring .acquire .confirm 0 1, acquiring .acquire .confirm 0 2, acquiring .acquire .hunt 0 0],
        x.FaultsOk ∧ x.node.state ≠ .loading ∧ x.link.takesFrame = true)
      ∧ 8 < (9#8).toNat ∧ (0#8).toNat ≤ 8
      ∧ ((0#8).toNat ≤ 8 ∧ [0#8].length = (0#8).toNat + 1 ∧ crc8 [0x72#8, 0#8] ≠ [0#8].getLastD 0)
      ∧ (let ck := crc8 [0x92#8, 0#8]
         [ck].length = (0#8).toNat + 1 ∧ crc8 ([0x92#8, 0#8, ck].dropLast) = [ck].getLastD 0
          ∧ kindOfCode ((0x92#8).toNat / 16) = none) := by decide +kernel

theorem test_meets_ValidFrameIsAClashOrIsHeard :
    let sev := { im with sevClash := 0 }
    run.FaultsOk ∧ run.node.state = .running ∧ (run.faults.cls .clash).severity = .withdrawing
      ∧ (run.faults.cls .clash).mask = false
      ∧ ((FaultUnit.configure sev run.faults).cls .clash).severity ≠ .withdrawing
      ∧ run.Hears 2 ∧ run.node.state.configured = true ∧ run.peers.length = 16
      ∧ (node .unconfigured).Hears 2 ∧ (node .unconfigured).node.state = .unconfigured
      ∧ (node .loading).node.state = .loading := by decide

/-- A receiver that takes a frame by each of the two ways, and ones that let it pass; and a frame of the node's own under
way. -/
theorem test_meets_ValidFrameIsAClashOrIsHeard_receiver :
    (∀ x ∈ [heard .idle 11, heard .assembling 0], x.link.takesFrame = true ∧ x.link.transmitter = .idle)
      ∧ (∀ x ∈ [heard .idle 10, heard .discarding 0], x.FaultsOk ∧ x.link.takesFrame = false
          ∧ x.link.transmitter = .idle ∧ x.node.state ≠ .loading)
      ∧ (Instr.peerReportReceived 3 6 .status 0).instant = 3
      ∧ (reportedCells 1 (.peerReportReceived 3 6 .status 0)).isSome = true
      ∧ (reportedCells 1 (.frameRejected 3 [0#8] .stopCellDominant)).isSome = true
      ∧ ({ run.link with transmitter := .sending (entry .verdict (some 1) 0) } : Link).transmitter ≠ .idle := by decide

theorem test_meets_ContextUnitTakesPhaseAndJolt :
    let held := { run with context := { run.context with hold := some ⟨8000000, .ownShock⟩ } }
    run.withdrawDue = false ∧ run.Hears 0 ∧ run.Hears 3 ∧ run.node.state.configured = true
      ∧ run.params.manager = (0 : Station).val ∧ run.params.manager ≠ (3 : Station).val
      ∧ (node .unconfigured).node.state.configured = false ∧ (1500 : BitVec 16) ≠ 0
      ∧ (run.advance 0).context.hold = none ∧ (held.advance 0).context.hold = some ⟨8000000, .ownShock⟩
      ∧ 8000000 < min (401#16).toNat 2000 * 20000 ∧ ¬8000000 < min (400#16).toNat 2000 * 20000 := by decide

/-- Records of cylinder 1 before its window, after it, with station 2 in its list, and waiting for station 2 alone. -/
def witnessed (r : Record) : State := holding [r] (phased [mark .cycle none 9] run)

theorem test_meets_WitnessIsPlaced :
    let taken := { recordFor 1 0 with windowTaken := true }
    let listed := { taken with witnesses := [⟨2, 1, 1, false⟩] }
    let last := { taken with segmentTaken := true, state := RecState.waiting, expected := [2] }
    (∀ r ∈ [recordFor 1 0, taken, listed, last],
        (witnessed r).FaultsOk ∧ (witnessed r).Hears 2 ∧ (witnessed r).node.state = .running
          ∧ (witnessed r).tracker.sync = .phased ∧ (witnessed r).tracker.warmUp = (witnessed r).params.warmUp
          ∧ ((witnessed r).cyl 1).role = .owner ∧ (witnessed r).recordOf 1 = some r ∧ (witnessed r).NoneReady
          ∧ (witnessed r).peers.length = 16)
      ∧ ((1 ≤ (1#8).toNat ∧ (1#8).toNat ≤ 8) ∧ (1023#16).toNat ≤ 1023 ∧ 1 ≤ (30#8).toNat % 32 ∧ (30#8).toNat % 32 ≤ 30)
      ∧ ¬(31#8).toNat % 32 ≤ 30 ∧ ¬(1024#16).toNat ≤ 1023
      ∧ (node .unconfigured).node.state = .unconfigured ∧ (node .hold).node.state ≠ .running
      ∧ run.node.state.configured = true ∧ run.recordOf 1 = none := by decide

/-- Cylinder 1 is owned by the node; cylinder 3 is owned by station 2, and here judged in its stead. -/
theorem test_meets_VerdictIsHeardAndResolved :
    let active := { run with cylinders := run.cylinders.modify 2 (fun e => { e with role := .deputyActive }) }
    run.FaultsOk ∧ run.Hears 2 ∧ (node .unconfigured).Hears 2 ∧ run.node.state.configured = true
      ∧ ((0x20#8).toNat % 16 = 0 ∧ 8 < (0x09#8).toNat % 16)
      ∧ ((4#8).toNat % 16 = 4 ∧ (run.cyl 4).role = .deputyStandby)
      ∧ ((run.cyl 1).role = .owner ∧ im.owner.getD 0 255 = run.station.val)
      ∧ (active.FaultsOk ∧ active.Hears 2 ∧ (active.cyl 3).role = .deputyActive ∧ im.owner.getD 2 255 = (2 : Station).val
          ∧ active.cylinders.length = 8 ∧ active.alert.sources.length = 8)
      ∧ (im.owner.getD 2 255 ≠ (0 : Station).val ∧ im.owner.getD 2 255 ≠ run.station.val ∧ (0 : Station).val < run.station.val) := by
  decide

/-! ### Orders -/

/-- A node that permits only station 0. -/
def strict : State := { run with image := some { im with orderMask := 1 } }

theorem test_meets_OrdersAreJudgedInFourSteps :
    strict.FaultsOk ∧ strict.Hears 0 ∧ strict.Hears 2
      ∧ ¬((2#8).toNat = strict.station.val ∨ (2#8).toNat = 255) ∧ (1#8).toNat = strict.station.val ∧ (255#8).toNat = 255
      ∧ strict.params.orderMask.testBit 0 = true
      ∧ ¬(strict.node.state = .unconfigured ∨ strict.params.orderMask.testBit 2 = true)
      ∧ strict.node.state ≠ .hold ∧ ((0#8).toNat = 0 ∧ 8 < (9#8).toNat) := by decide

theorem test_meets_ServeClearsWhatItsSequenceCovers :
    let s := { run with alert := { run.alert with line := .asserted } }
    s.withdrawDue = false ∧ s.Hears 0 ∧ s.Commanded 0 1 ∧ s.node.state.configured = true ∧ s.alert.line = .asserted
      ∧ run.Commanded 0 255 ∧ run.alert.line ≠ .asserted := by decide

theorem test_meets_ClearCountsAndRelearnActOnTheMask :
    run.withdrawDue = false ∧ run.Hears 0 ∧ run.Commanded 0 1 ∧ run.node.state = .running
      ∧ (node .hold).Commanded 0 1 ∧ (node .hold).node.state = .hold ∧ run.cylinders.length = 8 := by decide

theorem test_meets_ClearFaultsClears :
    ∀ n ∈ [NodeState.running, .withdrawn, .unconfigured],
      (node n).FaultsOk ∧ (node n).Hears 0 ∧ (node n).Commanded 0 1 ∧ (node n).link.HasRoom .status
        ∧ (node n).node.state = n := by decide

theorem test_meets_HoldAndResumeMoveTheNode :
    (busy.FaultsOk ∧ busy.Hears 0 ∧ busy.Commanded 0 1 ∧ busy.node.state = .running ∧ busy.link.HasRoom .status
        ∧ busy.cylinders.length = 8 ∧ busy.openRecords.Pairwise (fun r r' => r.cyl ≠ r'.cyl)
        ∧ ∀ r ∈ busy.openRecords, r.cyl ∈ allCylinders)
      ∧ (node .hold).FaultsOk ∧ (node .hold).Hears 0 ∧ (node .hold).Commanded 0 1 ∧ (node .hold).node.state = .hold := by
  decide

theorem test_meets_RestartReturnsTheBlocks :
    busy.FaultsOk ∧ busy.Hears 0 ∧ busy.Commanded 0 1 ∧ busy.node.state.configured = true := by decide

theorem test_meets_ReportQueuesTheLog :
    faulted.FaultsOk ∧ faulted.link.QueueOk ∧ faulted.Hears 0 ∧ faulted.Commanded 0 1 ∧ faulted.link.queue.length < 11
      ∧ faulted.faults.first = some captured ∧ run.faults.first = none ∧ run.FaultsOk ∧ run.Commanded 0 1
      ∧ (1#8).toNat = FaultClass.check.index + 1 ∧ (16#8).toNat = FaultClass.contextStale.index + 1
      ∧ 16 < (17#8).toNat := by decide

/-! ### The line and the transmitter -/

theorem test_meets_LineMonitorCountsTheRuns :
    let short := { run with link := { run.link with recessiveRun := 10 } }
    run.FaultsOk ∧ run.node.state ≠ .loading ∧ (short.advance 0).link.receiver = .idle
      ∧ (short.advance 0).link.recessiveRun < 11 ∧ 11 ≤ (run.advance 0).link.recessiveRun ∧ run.link.inhibit = false
      ∧ ({ run with link := run.link.stick } : State).link.inhibit = true ∧ (heard .assembling 0).link.receiver ≠ .idle
      ∧ ((node .loading).FaultsOk ∧ (node .loading).node.state = .loading) := by decide

/-- In RUNNING the VERDICT goes first, in WITHDRAWN the STATUS behind it; a frame is under way for the end. -/
theorem test_meets_TransmissionTakesTheFirstPermitted :
    let sent := { run with link := { run.link with
      transmitter := .sending (entry .verdict (some 1) 0), receiver := .assembling } }
    (∀ n ∈ [NodeState.running, .withdrawn],
        (waiting n).withdrawDue = false ∧ (waiting n).node.state ≠ .loading ∧ (waiting n).link.acq = some .locked
          ∧ (waiting n).link.inhibit = false ∧ (waiting n).link.receiver = .idle
          ∧ ((waiting n).advance 0).link.transmitter = .idle ∧ 11 ≤ (waiting n).link.recessiveRun
          ∧ (waiting n).link.queue = [entry .verdict (some 1) 0] ++ entry .status none 1 :: []
          ∧ (waiting n).link.queue = [] ++ entry .verdict (some 1) 0 :: [entry .status none 1])
      ∧ (entry .verdict (some 1) 0).kind ≠ .status ∧ (entry .status none 1).kind = .status
      ∧ run.link.queue = [] ∧ run.alert.sources.length = 8 ∧ run.faults.classes.length = 16
      ∧ (sent.advance 0).link.transmitter.entry = some (entry .verdict (some 1) 0) := by decide

/-- A node that sends an entry, whose removal has or has not come, over a queue. -/
def under (e : TxEntry) (removed : Bool) (queue : List TxEntry) (s : State) : State :=
  crowded queue { s with link := { s.link with
    transmitter := .arbitrating e removed 400, receiver := .assembling, recessiveRun := 0, dominantRun := 1 } }

/-- A WITNESS has the header 31h: cells 0 to 2 dominant, 3 and 4 recessive, 5 to 7 dominant, 8 and 9 recessive. Its
frame, without a payload here, has 30 cells. -/
theorem test_meets_LostArbitrationReinsertsAndClashDiscards :
    let e := entry .witness (some 4) 0
    let newer := entry .witness (some 4) 1
    let frame := frameCells (frameChars .witness 1 [])
    (∀ x ∈ [(true, []), (false, []), (false, [newer]), (false, [entry .verdict (some 4) 1])],
        let s := under e x.1 x.2 run
        s.FaultsOk ∧ s.node.state ≠ .loading ∧ s.link.QueueOk ∧ s.link.queue.length < 12
          ∧ (s.advance 0).link.transmitter = .arbitrating e x.1 400 ∧ (s.advance 0).link.transmitter.entry = some e)
      ∧ newer.sameKey e = true ∧ e.age < newer.age ∧ e.kind ≠ .verdict ∧ e.kind ≠ .tally
      ∧ (frame.length = 30 ∧ (∀ x ∈ [0, 1, 2, 5, 7, 10], frame.getD x false = false)
        ∧ ∀ x ∈ [3, 4, 8, 9, 19, 29], frame.getD x false = true)
      ∧ ((run.faults.cls .clash).severity = .withdrawing ∧ (run.faults.cls .clash).mask = false
        ∧ ((FaultUnit.configure { im with sevClash := 1 } run.faults).cls .clash).severity ≠ .withdrawing
        ∧ ((FaultUnit.configure { im with faultMask := 0xFFFF } run.faults).cls .clash).mask = true)
      ∧ (run.advance 0).link.transmitter = .idle := by decide

/-- What comes back over a newer one of its key, or into a full queue, with a FULL first-fault record. -/
theorem test_meets_LostArbitrationReinsertsAndClashDiscards_full :
    let e := entry .verdict (some 2) 0
    let newer := entry .verdict (some 2) 11
    let low := entry .log none 0
    let full := [entry .witness (some 2) 1] ++ (fullQueue.drop 1)
    let high := highQueue.drop 1 ++ [entry .tally (some 6) 11]
    (∀ s ∈ [under e false [newer] faulted, under e false full faulted],
        s.FaultsOk ∧ s.link.QueueOk ∧ s.serviceOf = s.faults.service ∧ s.faults.first.isSome = true
          ∧ (s.advance 0).link.transmitter = .arbitrating e false 400)
      ∧ newer.sameKey e = true ∧ e.age < newer.age
      ∧ (full.length = 12 ∧ (∀ x ∈ full, x.sameKey e = false) ∧ e.Displaces (entry .log none 11) full)
      ∧ ((under low false high faulted).link.QueueOk ∧ high.length = 12
        ∧ ∀ x ∈ high, x.sameKey low = false ∧ x.kind.code ≤ low.kind.code)
      ∧ ((frameCells (frameChars .verdict 1 [])).getD 2 false = true
        ∧ (frameCells (frameChars .log 1 [])).getD 1 false = true) := by decide

theorem test_meets_DwellEndHuntsOn :
    let dwelling := fun q rate rounds => { run with link := { run.link with
      mode := some .acquire, acq := some q, rate := some rate, rounds := rounds, dwell := some 0 } }
    run.withdrawDue = false ∧ run.node.state ≠ .loading ∧ (run.advance 0).link.dwell = none
      ∧ (∀ x ∈ [(Acq.hunt, Rate.k500, 9), (.hunt, .k125, 8), (.hunt, .k125, 9), (.confirm, .k500, 0)],
          ((dwelling x.1 x.2.1 x.2.2).advance 0).link.dwell = some 0
            ∧ ((dwelling x.1 x.2.1 x.2.2).advance 0).link.acq = some x.1
            ∧ ((dwelling x.1 x.2.1 x.2.2).advance 0).link.rate = some x.2.1
            ∧ ((dwelling x.1 x.2.1 x.2.2).advance 0).link.rounds = x.2.2) := by decide

/-! ### Timers -/

/-- Station 2 was heard 300 ms before, station 3 a tick later. -/
theorem test_meets_TimeoutTickSilencesStations :
    let heard := fun u : Tick => { PeerEntry.powerOn with state := .active, lastHeard := some u, expectedFor := true }
    let s := { run with peers := (run.peers.set 2 (heard 0)).set 3 (heard 1) }
    s.FaultsOk ∧ s.peers.length = 16 ∧ s.node.state.configured = true ∧ (∀ r ∈ s.records, r = none)
      ∧ s.alert.sources.length = 8 ∧ (node .unconfigured).node.state.configured = false
      ∧ (s.peer 2).state = .active ∧ (s.peer 2).expectedFor = true
      ∧ 3 * (s.params.statusMs * 20000) ≤ ((6000000 : Tick) - 0).toNat
      ∧ ¬3 * (s.params.statusMs * 20000) ≤ ((6000000 : Tick) - 1).toNat := by decide

/-- The three timers with a tick left: they have run out a tick later. -/
theorem test_meets_HoldGuardAndHoldOffRunOut :
    let s := { run with
      alert := { run.alert with line := .holdoff, holdOff := some 1 },
      context := { run.context with hold := some ⟨1, .ownShock⟩, joltGuard := some 1 } }
    s.withdrawDue = false ∧ s.alert.line = .holdoff ∧ run.alert.line ≠ .holdoff
      ∧ ((s.advance 1).context.hold = some ⟨0, .ownShock⟩ ∧ (s.advance 1).context.joltGuard = some 0
        ∧ (s.advance 1).alert.holdOff = some 0)
      ∧ ((s.advance 0).context.hold = some ⟨1, .ownShock⟩ ∧ (s.advance 0).context.joltGuard ≠ some 0
        ∧ (s.advance 0).alert.holdOff ≠ some 0) := by decide

end Sys2Proof.Tests
end

/-! # Crank segment analysis: the misfire threshold (R52) -/

namespace Sys2Proof.Machine

/-- Two scales at 16 cancel the division by 256. -/
theorem scaled_by_sixteens {base : Nat} (hbase : base ≤ 32767) : min (base * 16 * 16 / 256) 32767 = base := by
  omega

/-- The product of R52 at its factors' upper limits. -/
theorem threshold_product_le {base load factor : Nat} (hbase : base ≤ 32767) (hload : load ≤ 31)
    (hfactor : factor ≤ 63) : base * load * factor ≤ 63993951 :=
  calc base * load * factor
      ≤ 32767 * 31 * 63 := Nat.mul_le_mul (Nat.mul_le_mul hbase hload) hfactor
    _ = 63993951 := by norm_num

theorem Image.threshold_of_mthr_zero {im : Image} {band : Nat} (h : im.mthr.getD band 0 = 0)
    (loadBand : Option Nat) (antiLag : Bool) : im.threshold band loadBand antiLag = 0 := by
  simp only [Image.threshold, h, Nat.zero_mul, Nat.zero_div, Nat.zero_min]

/-- R75: with neither a cut nor a shock, a record with a loss is FIRED exactly below its threshold. -/
theorem Record.misfirePart_eq_fired_iff {im : Image} {r : Record} {l : Int} (hcut : r.cut = false)
    (hshock : r.shock = false) (hloss : r.loss = some l) :
    r.misfirePart im = .fired ↔ l < (im.threshold r.band r.loadBand r.antiLag : Int) := by
  rw [← not_le]
  by_cases hmet : (im.threshold r.band r.loadBand r.antiLag : Int) ≤ l
  · cases hstale : r.stale <;> simp [Record.misfirePart, hcut, hshock, hloss, hmet, hstale]
  · simp [Record.misfirePart, hcut, hshock, hloss, hmet]

/-- R60: a record opened under a stale context captures no load band and a clear anti-lag flag. -/
theorem State.newRecord_of_stale {s : State} (h : s.context.stale = true) (slot k c : Nat) :
    (s.newRecord slot k c).loadBand = none ∧ (s.newRecord slot k c).antiLag = false := by
  simp [State.newRecord, h]

theorem State.newRecord_loadBand_of_fresh {s : State} (h : s.context.stale = false) (slot k c : Nat) :
    (s.newRecord slot k c).loadBand = some s.context.current.loadBand := by
  simp [State.newRecord, h]

/-- Settles O38: the threshold is R52's formula by definition, its limits are arithmetic on that formula, and the two extreme
thresholds follow from a FIRED part being a loss below the threshold. -/
theorem thresholdScalesTheConfiguredLoss : Obligations.ThresholdScalesTheConfiguredLoss := by
  intro s im r slot k c base load factor thr
  have formula : thr = min (base * load * factor / 256) 32767 := rfl
  refine ⟨formula, ?scalesAtSixteen, threshold_product_le, ?verdict, fun h => State.newRecord_of_stale h slot k c,
    fun h => State.newRecord_loadBand_of_fresh h slot k c, scaled_by_sixteens⟩
  case scalesAtSixteen =>
    intro hload hfactor hbase
    rw [formula, hload, hfactor, scaled_by_sixteens hbase]
  case verdict =>
    intro l hcut hshock hloss
    have fired : r.misfirePart im = .fired ↔ l < (thr : Int) := Record.misfirePart_eq_fired_iff hcut hshock hloss
    refine ⟨fun hbase hl => ?lowest, fun hl hthr hmet => ?highest, fired⟩
    case lowest =>
      have hthr : thr = 0 := Image.threshold_of_mthr_zero hbase r.loadBand r.antiLag
      refine ⟨hthr, fun hfired => ?_⟩
      have hbelow := fired.mp hfired
      omega
    case highest =>
      have hreached : (thr : Int) ≤ l := not_lt.mp (mt fired.mpr hmet)
      omega

end Sys2Proof.Machine

/-! # Combustion records: the combined score and the foreign test (R76, R77), and the VERDICT of a close (R74, R79) -/

namespace Sys2Proof.Machine

/-! ## Folds of `max` and `min` over a list's weights or ratios (R77) -/

/-- Started at or below the largest element, a fold of `max` ends at it. -/
theorem foldl_max_eq_of_greatest {l : List Nat} {a m : Nat} (hm : m ∈ l) (hle : ∀ x ∈ l, x ≤ m) (ha : a ≤ m) :
    l.foldl max a = m := by
  have hmax : l.max? = some m := List.max?_eq_some_iff.mpr ⟨hm, hle⟩
  rw [List.foldl_max, hmax]
  exact max_eq_right ha

/-- Started at or above the smallest element, a fold of `min` ends at it. -/
theorem foldl_min_eq_of_least {l : List Nat} {a m : Nat} (hm : m ∈ l) (hle : ∀ x ∈ l, m ≤ x) (ha : m ≤ a) :
    l.foldl min a = m := by
  have hmin : l.min? = some m := List.min?_eq_some_iff.mpr ⟨hm, hle⟩
  rw [List.foldl_min, hmin]
  exact min_eq_right ha

/-- The fold that R77's near ratio is taken with starts at the list's own head. -/
theorem foldl_min_headD_eq_of_least {l : List Nat} {m : Nat} (hm : m ∈ l) (hle : ∀ x ∈ l, m ≤ x) :
    l.foldl min (l.headD 0) = m := by
  refine foldl_min_eq_of_least hm hle ?_
  cases l with
  | nil => cases hm
  | cons x rest => exact hle x List.mem_cons_self

/-! ## The foreign test (R77) -/

/-- The ratios of the contributions of one weight: R77 compares the smallest of the largest weight's with the largest of
the smallest weight's. -/
def ratiosOfWeight (w : Nat) (cs : List Contribution) : List Nat :=
  (cs.filter (fun c => c.weight == w)).map (fun c => c.ratio)

theorem mem_ratiosOfWeight {w q : Nat} {cs : List Contribution} :
    q ∈ ratiosOfWeight w cs ↔ ∃ c ∈ cs, c.weight = w ∧ c.ratio = q := by
  simp only [ratiosOfWeight, List.mem_map, List.mem_filter, beq_iff_eq, and_assoc]

/-- The three conditions of the test, once the largest and the smallest weight are known. -/
theorem foreignTest_iff {cs : List Contribution} {largest smallest : Nat}
    (hlargest : (cs.map (fun c => c.weight)).foldl max 0 = largest)
    (hsmallest : (cs.map (fun c => c.weight)).foldl min largest = smallest) (factor : Nat) :
    foreignTest factor cs = true ↔ 2 ≤ cs.length ∧ largest ≠ smallest
      ∧ (ratiosOfWeight largest cs).foldl min ((ratiosOfWeight largest cs).headD 0) * factor
        ≤ (ratiosOfWeight smallest cs).foldl max 0 * 16 := by
  simp only [foreignTest, hlargest, hsmallest, ratiosOfWeight, Bool.and_eq_true, decide_eq_true_iff, and_assoc]

theorem foreignTest_of_length_lt {cs : List Contribution} (h : cs.length < 2) (factor : Nat) :
    foreignTest factor cs = false :=
  Bool.eq_false_iff.mpr fun hpass => absurd ((foreignTest_iff rfl rfl factor).mp hpass).1 (Nat.not_le.mpr h)

theorem two_le_length_of_weight_ne {cs : List Contribution} {near far : Contribution} (hnear : near ∈ cs) (hfar : far ∈ cs)
    (hne : far.weight ≠ near.weight) : 2 ≤ cs.length := by
  match cs with
  | [c] =>
    rw [List.mem_singleton.mp hnear, List.mem_singleton.mp hfar] at hne
    exact absurd rfl hne
  | _ :: _ :: rest => exact Nat.le_add_left 2 rest.length

/-- R77: the folds of the test find the near and the far contribution, so it compares these two. -/
theorem foreignTest_eq {cs : List Contribution} {near far : Contribution} (hnear : near ∈ cs) (hfar : far ∈ cs)
    (hweights : ∀ x ∈ cs, far.weight ≤ x.weight ∧ x.weight ≤ near.weight)
    (hnearest : ∀ x ∈ cs, x.weight = near.weight → near.ratio ≤ x.ratio)
    (hfarthest : ∀ x ∈ cs, x.weight = far.weight → x.ratio ≤ far.ratio) (factor : Nat) :
    foreignTest factor cs = decide (far.weight ≠ near.weight ∧ near.ratio * factor ≤ far.ratio * 16) := by
  have largest : (cs.map (fun c => c.weight)).foldl max 0 = near.weight :=
    foldl_max_eq_of_greatest (List.mem_map_of_mem hnear)
      (List.forall_mem_map.mpr fun x hx => (hweights x hx).2) (Nat.zero_le _)
  have smallest : (cs.map (fun c => c.weight)).foldl min near.weight = far.weight :=
    foldl_min_eq_of_least (List.mem_map_of_mem hfar)
      (List.forall_mem_map.mpr fun x hx => (hweights x hx).1) (hweights near hnear).1
  have nearRatio : (ratiosOfWeight near.weight cs).foldl min ((ratiosOfWeight near.weight cs).headD 0) = near.ratio := by
    refine foldl_min_headD_eq_of_least (mem_ratiosOfWeight.mpr ⟨near, hnear, rfl, rfl⟩) fun q hq => ?_
    obtain ⟨x, hx, hw, rfl⟩ := mem_ratiosOfWeight.mp hq
    exact hnearest x hx hw
  have farRatio : (ratiosOfWeight far.weight cs).foldl max 0 = far.ratio := by
    refine foldl_max_eq_of_greatest (mem_ratiosOfWeight.mpr ⟨far, hfar, rfl, rfl⟩) (fun q hq => ?_) (Nat.zero_le _)
    obtain ⟨x, hx, hw, rfl⟩ := mem_ratiosOfWeight.mp hq
    exact hfarthest x hx hw
  rw [Bool.eq_iff_iff, decide_eq_true_iff, foreignTest_iff largest smallest, nearRatio, farRatio, ne_comm]
  exact and_iff_right_of_imp fun h => two_le_length_of_weight_ne hnear hfar h.1

/-! ## The combined score (R76) -/

theorem combinedScore_nil : combinedScore [] = 0 := rfl

theorem combinedScore_of_ne_nil {cs : List Contribution} (h : cs ≠ []) :
    combinedScore cs = (cs.map (fun c => c.weight * c.ratio)).sum / (cs.map (fun c => c.weight)).sum := by
  simp [combinedScore, h]

/-- Ratios that stay at or below a value weigh in at most at that value. -/
theorem sum_products_le {cs : List Contribution} {hi : Nat} (h : ∀ c ∈ cs, c.ratio ≤ hi) :
    (cs.map (fun c => c.weight * c.ratio)).sum ≤ (cs.map (fun c => c.weight)).sum * hi := by
  rw [← List.sum_map_mul_right]
  exact List.sum_le_sum fun c hc => Nat.mul_le_mul_left c.weight (h c hc)

/-- Ratios that stay at or above a value weigh in at least at that value. -/
theorem le_sum_products {cs : List Contribution} {lo : Nat} (h : ∀ c ∈ cs, lo ≤ c.ratio) :
    (cs.map (fun c => c.weight)).sum * lo ≤ (cs.map (fun c => c.weight * c.ratio)).sum := by
  rw [← List.sum_map_mul_right]
  exact List.sum_le_sum fun c hc => Nat.mul_le_mul_left c.weight (h c hc)

/-- Weights of at least 1 add up to something to divide by. -/
theorem sum_weights_pos {cs : List Contribution} (hne : cs ≠ []) (h : ∀ c ∈ cs, 1 ≤ c.weight) :
    0 < (cs.map (fun c => c.weight)).sum := by
  obtain ⟨c, hc⟩ := List.exists_mem_of_ne_nil cs hne
  exact lt_of_lt_of_le (h c hc) (List.le_sum_of_mem (List.mem_map_of_mem hc))

theorem combinedScore_le {cs : List Contribution} {hi : Nat} (h : ∀ c ∈ cs, c.ratio ≤ hi) : combinedScore cs ≤ hi := by
  by_cases hne : cs = []
  · rw [hne, combinedScore_nil]
    exact Nat.zero_le hi
  · rw [combinedScore_of_ne_nil hne]
    exact Nat.div_le_of_le_mul (sum_products_le h)

theorem le_combinedScore {cs : List Contribution} {lo : Nat} (hne : cs ≠ []) (hweight : ∀ c ∈ cs, 1 ≤ c.weight)
    (h : ∀ c ∈ cs, lo ≤ c.ratio) : lo ≤ combinedScore cs := by
  rw [combinedScore_of_ne_nil hne, Nat.le_div_iff_mul_le (sum_weights_pos hne hweight), mul_comm]
  exact le_sum_products h

/-- A sum of bounded terms over a list of bounded length. -/
theorem sum_map_le_of_length_le {α : Type} {l : List α} {f : α → Nat} {n b : Nat} (hlen : l.length ≤ n)
    (h : ∀ x ∈ l, f x ≤ b) : (l.map f).sum ≤ n * b :=
  calc (l.map f).sum ≤ (l.map f).length * b :=
        List.sum_le_card_nsmul _ _ (List.forall_mem_map.mpr h)
    _ ≤ n * b := by rw [List.length_map]; exact Nat.mul_le_mul_right b hlen

/-! ## The usable contributions of a record (R76) -/

/-- R76: the own contributions, and the entries of the witness list whose learning flag is clear. -/
theorem Record.mem_usable {r : Record} {x : Contribution} :
    x ∈ r.usable ↔ x ∈ r.ownA.toList ++ r.ownB.toList
      ∨ ∃ w ∈ r.witnesses, w.learning = false ∧ x = { weight := w.weight, ratio := w.score } := by
  simp only [Record.usable, List.mem_append, List.mem_map, List.mem_filter, Bool.not_eq_true', and_assoc, eq_comm (a := x)]

/-- What holds of every own contribution and of what every witness contributes holds of every usable contribution. -/
theorem Record.usable_forall {r : Record} {p : Contribution → Prop} (hown : ∀ x ∈ r.ownA.toList ++ r.ownB.toList, p x)
    (hheard : ∀ w ∈ r.witnesses, p { weight := w.weight, ratio := w.score }) : ∀ x ∈ r.usable, p x := by
  intro x hx
  rcases Record.mem_usable.mp hx with hx | ⟨w, hw, -, rfl⟩
  · exact hown x hx
  · exact hheard w hw

theorem Record.length_own_le (r : Record) : (r.ownA.toList ++ r.ownB.toList).length ≤ 2 := by
  cases r.ownA <;> cases r.ownB <;> simp

/-- R76: two own weights of at most 15 and fifteen witness weights of at most 30. -/
theorem Record.sum_usable_weights_le {r : Record} (hown : ∀ x ∈ r.ownA.toList ++ r.ownB.toList, x.weight ≤ 15)
    (hheard : ∀ w ∈ r.witnesses, w.weight ≤ 30) (hlen : r.witnesses.length ≤ 15) :
    (r.usable.map (fun c => c.weight)).sum ≤ 480 := by
  have own : ((r.ownA.toList ++ r.ownB.toList).map (fun c => c.weight)).sum ≤ 2 * 15 :=
    sum_map_le_of_length_le r.length_own_le hown
  have heard : ((r.witnesses.filter (fun w => !w.learning)).map (fun w => w.weight)).sum ≤ 15 * 30 :=
    sum_map_le_of_length_le ((List.length_filter_le _ _).trans hlen) fun w hw => hheard w (List.mem_of_mem_filter hw)
  rw [Record.usable, List.map_append, List.sum_append, List.map_map]
  exact Nat.add_le_add own heard

/-! ## What queuing a report does (R145, R146) -/

/-- R145: the contents of the younger of two coalesced entries survive. -/
theorem coalesce_payload {a b : TxEntry} (h : a.age ≤ b.age) : (coalesce a b).payload = b.payload := by
  rw [coalesce, if_pos h]

/-- R145, R146: where the queue has a free place or an entry of the key, an entry younger than all in it is queued with its
contents. -/
theorem putEntry_queues {e : TxEntry} {q : List TxEntry} (hage : ∀ x ∈ q, x.age ≤ e.age)
    (hroom : q.length < 12 ∨ ∃ x ∈ q, x.sameKey e = true) :
    ∃ y ∈ (putEntry e q).1, y.kind = e.kind ∧ y.cyl = e.cyl ∧ y.payload = e.payload := by
  unfold putEntry
  split
  · next x hx =>
    have hkey := List.find?_some hx
    obtain ⟨hkind, hcyl⟩ := coalesce_kind x e hkey
    exact ⟨coalesce x e, (mem_insertEntry _ _ _).mpr (.inl rfl), hkind, hcyl,
      coalesce_payload (hage x (List.mem_of_find?_eq_some hx))⟩
  · next hnone =>
    have hfree : q.length < Config.queueSize :=
      hroom.resolve_right fun ⟨x, hx, hkey⟩ => List.find?_eq_none.mp hnone x hx hkey
    rw [if_pos hfree]
    exact ⟨e, (mem_insertEntry _ _ _).mpr (.inl rfl), rfl, rfl, rfl⟩

/-- R146: the entry a full queue drops ranks below the new one, so queuing keeps every entry that ranks above it. -/
theorem putEntry_keeps_higher {e x : TxEntry} {q : List TxEntry} (hx : x ∈ q) (hrank : x.kind.code < e.kind.code) :
    x ∈ (putEntry e q).1 := by
  unfold putEntry
  split
  · have hkey : x.sameKey e = false := by
      refine Bool.eq_false_iff.mpr fun h => ?_
      rw [((TxEntry.sameKey_iff x e).mp h).1] at hrank
      exact lt_irrefl _ hrank
    exact (mem_insertEntry _ _ _).mpr (.inr (List.mem_filter.mpr ⟨hx, by rw [hkey]; rfl⟩))
  · split
    · exact (mem_insertEntry _ _ _).mpr (.inr hx)
    · split
      · next last hlast =>
        split
        · next hdrop =>
          refine (mem_insertEntry _ _ _).mpr (.inr ?_)
          rw [← List.dropLast_append_getLast? last hlast, List.mem_append, List.mem_singleton] at hx
          refine hx.resolve_right fun h => ?_
          rw [h] at hrank
          exact lt_asymm hrank hdrop
        · exact hx
      · exact hx

/-- A report queued where there is room waits with its contents: the queue change comes before the occurrences it passes. -/
theorem State.putReport_queues {s : State} {k : Kind} {c : Option Nat} (payload : List Byte) (hq : s.link.QueueOk)
    (hroom : s.link.queue.length < 12 ∨ s.link.Waits k c) :
    ∃ e ∈ (s.putReport k c payload).1.link.queue, e.kind = k ∧ e.cyl = c ∧ e.payload = payload := by
  obtain ⟨-, -, -, hage, -⟩ := hq
  refine putEntry_queues (fun x hx => (hage x hx).le) (hroom.imp_right ?_)
  rintro ⟨x, hx, hkind, hcyl⟩
  exact ⟨x, hx, (TxEntry.sameKey_iff _ _).mpr ⟨hkind, hcyl⟩⟩

/-! ## The reports that no occurrence, raise or close takes from the queue

Occurrences and raises queue STATUS and LOG entries only (R150, R155), the two lowest kinds, so none of the reports above
them is displaced (R146). -/

/-- Every waiting report but a STATUS or LOG still waits, unchanged. -/
def State.KeepsReports (s t : State) : Prop :=
  ∀ e ∈ s.link.queue, e.kind ≠ .status → e.kind ≠ .log → e ∈ t.link.queue

theorem State.KeepsReports.refl (s : State) : s.KeepsReports s := fun _ he _ _ => he

theorem State.KeepsReports.trans {s t u : State} (h : s.KeepsReports t) (h' : t.KeepsReports u) : s.KeepsReports u :=
  fun e he hstatus hlog => h' e (h e he hstatus hlog) hstatus hlog

theorem State.KeepsReports.of_queue_eq {s t : State} (h : t.link.queue = s.link.queue) : s.KeepsReports t :=
  fun e he _ _ => by rw [h]; exact he

theorem foldl_keepsReports {α : Type} {f : State → α → State} (hf : ∀ (s : State) a, s.KeepsReports (f s a)) (l : List α)
    (s : State) : s.KeepsReports (l.foldl f s) := by
  induction l generalizing s with
  | nil => exact .refl s
  | cons a l ih => exact (hf s a).trans (ih (f s a))

/-- STATUS and LOG have the two largest kind numbers (R135). -/
theorem Kind.code_lt_status {k : Kind} (hstatus : k ≠ .status) (hlog : k ≠ .log) : k.code < Kind.status.code := by
  cases k with
  | status => exact absurd rfl hstatus
  | log => exact absurd rfl hlog
  | _ => decide

theorem State.putReport_keepsReports (s : State) {k : Kind} (hk : k = .status ∨ k = .log) (c : Option Nat)
    (p : List Byte) : s.KeepsReports (s.putReport k c p).1 := by
  intro e he hstatus hlog
  have hlow : Kind.status.code ≤ k.code := by rcases hk with rfl | rfl <;> decide
  exact putEntry_keeps_higher he ((Kind.code_lt_status hstatus hlog).trans_le hlow)

theorem State.raiseStep_keepsReports (s : State) (x : AlertSource) : s.KeepsReports (s.raiseStep x).1 :=
  State.putReport_keepsReports (s.onAlert (AlertUnit.latchSource x)) (.inl rfl) none []

theorem State.capture_keepsReports (s : State) (o : Occurrence) : s.KeepsReports (s.capture o).1 := by
  unfold State.capture
  split
  · exact .of_queue_eq rfl
  · exact (State.putReport_keepsReports (s.onFaults _) (.inr rfl) none _).trans (State.raiseStep_keepsReports _ _)

theorem State.takeOccurrence_keepsReports (s : State) (o : Occurrence) : s.KeepsReports (s.takeOccurrence o).1 := by
  have hcapture : s.KeepsReports ((s.onFaults (FaultUnit.countOccurrence o.cls)).capture o).1 :=
    State.capture_keepsReports (s.onFaults (FaultUnit.countOccurrence o.cls)) o
  unfold State.takeOccurrence
  dsimp only
  split
  · exact .of_queue_eq rfl
  · split
    · exact hcapture.trans (.of_queue_eq rfl)
    · exact hcapture

theorem State.occur_keepsReports (s : State) (o : Occurrence) : s.KeepsReports (s.occur o) :=
  (State.takeOccurrence_keepsReports s o).trans (foldl_keepsReports State.takeOccurrence_keepsReports _ _)

theorem State.fault_keepsReports (s : State) (cls : FaultClass) (st : Option Station) (k c : Option Nat) :
    s.KeepsReports (s.fault cls st k c) := State.occur_keepsReports s _

theorem State.raise_keepsReports (s : State) (x : AlertSource) : s.KeepsReports (s.raise x) :=
  (State.raiseStep_keepsReports s x).trans (foldl_keepsReports State.occur_keepsReports _ _)

theorem State.foldVerdict_keepsReports (s : State) (c : Nat) (v : Verdict) (a b : Option Evidence) :
    s.KeepsReports (s.foldVerdict c v a b) := by
  unfold State.foldVerdict
  dsimp only
  split
  · exact State.raise_keepsReports (s.onCyl c _) _
  · exact .of_queue_eq rfl

theorem State.onPeer_keepsReports (s : State) (st : Station) (f : PeerEntry → PeerEntry) :
    s.KeepsReports (s.onPeer st f) := .of_queue_eq rfl

theorem State.silencePeer_keepsReports (s : State) (st : Station) (c : Option Nat) :
    s.KeepsReports (s.silencePeer st c) := by
  have hfault : s.KeepsReports ((s.onPeer st PeerEntry.silence).fault .peerSilent (some st) none c) :=
    State.fault_keepsReports (s.onPeer st PeerEntry.silence) _ _ _ _
  unfold State.silencePeer
  dsimp only
  refine State.KeepsReports.trans ?_ (.of_queue_eq rfl)
  split
  · exact hfault.trans (State.raise_keepsReports _ _)
  · exact hfault

theorem State.missPeer_keepsReports (c : Nat) (s : State) (st : Station) : s.KeepsReports (State.missPeer c s st) := by
  unfold State.missPeer
  dsimp only
  split
  · split
    · exact State.silencePeer_keepsReports s st (some c)
    · exact .of_queue_eq rfl
  · exact .refl s

theorem State.absentPeer_keepsReports (c : Nat) (s : State) (st : Station) : s.KeepsReports (State.absentPeer c s st) := by
  unfold State.absentPeer
  split
  · exact State.silencePeer_keepsReports s st (some c)
  · exact .refl s

theorem State.accountWitnesses_keepsReports (s : State) (r : Record) : s.KeepsReports (s.accountWitnesses r) := by
  have hpresent : s.KeepsReports (r.onTime.foldl (fun s st => s.onPeer st (PeerEntry.onTime s.params)) s) :=
    foldl_keepsReports (fun s st => State.onPeer_keepsReports s st _) _ s
  exact (hpresent.trans (foldl_keepsReports (State.missPeer_keepsReports r.cyl) _ _)).trans
    (foldl_keepsReports (State.absentPeer_keepsReports r.cyl) _ _)

/-! ## The VERDICT of a close (R74, R79) -/

/-- R74: what waits once the VERDICT is put into the queue waits after the close: the occurrences the change passes, the
fold, a HEAVY_KNOCK and the accounting follow it. -/
theorem State.closeRecord_keepsReports (s : State) (r : Record) :
    (s.putReport .verdict (some r.cyl) (r.verdictReport s.params)).1.KeepsReports (s.closeRecord r) := by
  unfold State.closeRecord
  dsimp only
  have hfold := (foldl_keepsReports State.occur_keepsReports _ _ :
      (s.putReport .verdict (some r.cyl) (r.verdictReport s.params)).1.KeepsReports
        (s.queueReport .verdict (some r.cyl) (r.verdictReport s.params))).trans
    (State.foldVerdict_keepsReports _ r.cyl (r.verdict s.params) r.evidenceA r.evidenceB)
  refine State.KeepsReports.trans ?_ ((State.accountWitnesses_keepsReports _ r).trans (.of_queue_eq rfl))
  split
  · exact hfold.trans (State.raise_keepsReports _ _)
  · exact hfold

/-- R74, R79: a close leaves the VERDICT waiting where the queue has a free place or a VERDICT of the cylinder. -/
theorem State.closeRecord_queues {s : State} {r : Record} (hq : s.link.QueueOk)
    (hroom : s.link.queue.length < 12 ∨ s.link.Waits .verdict (some r.cyl)) :
    ∃ e ∈ (s.closeRecord r).link.queue, e.kind = .verdict ∧ e.cyl = some r.cyl
      ∧ e.payload = r.verdictReport s.params := by
  obtain ⟨e, he, hkind, hcyl, hpayload⟩ := State.putReport_queues (r.verdictReport s.params) hq hroom
  have hstatus : e.kind ≠ .status := by rw [hkind]; decide
  have hlog : e.kind ≠ .log := by rw [hkind]; decide
  exact ⟨e, State.closeRecord_keepsReports s r e he hstatus hlog, hkind, hcyl, hpayload⟩

/-- R168: bytes 2 and 3 of a VERDICT are its combined score. -/
theorem Record.verdictReport_score (im : Image) (r : Record) :
    ((r.verdictReport im).drop 2).take 2 = bytes16 (r.verdict im).score := rfl

/-- Settles O39: the score and the contributions are R76's by definition, its bounds are those of a weighted mean, the
foreign test finds near and far by its folds, and the VERDICT put into the queue outlasts the rest of the close. -/
theorem combinedScoreIsTheWeightedMean : Obligations.CombinedScoreIsTheWeightedMean := by
  intro s r heard cs weights products score
  have usable : r.usable = cs := rfl
  have scored : score = combinedScore cs := rfl
  refine ⟨usable, fun hnone => ?none, fun hsome => combinedScore_of_ne_nil hsome,
    fun factor hfew => foreignTest_of_length_lt hfew factor,
    fun factor near hnear far hfar hweights hnearest hfarthest =>
      foreignTest_eq hnear hfar hweights hnearest hfarthest factor,
    fun hown hheard hlen => ?bounds, fun hq hroom => ?verdict⟩
  case none => rw [scored, hnone, combinedScore_nil]
  case bounds =>
    have hweight : ∀ x ∈ cs, 1 ≤ x.weight :=
      Record.usable_forall (fun x hx => (hown x hx).1) fun w hw => (hheard w hw).1
    have hratio : ∀ x ∈ cs, x.ratio ≤ 1023 :=
      Record.usable_forall (fun x hx => (hown x hx).2.2) fun w hw => (hheard w hw).2.2
    have hweights : weights ≤ 480 :=
      Record.sum_usable_weights_le (fun x hx => (hown x hx).2.1) (fun w hw => (hheard w hw).2.1) hlen
    have hproducts : products ≤ 491040 :=
      calc products ≤ weights * 1023 := sum_products_le hratio
        _ ≤ 480 * 1023 := Nat.mul_le_mul_right 1023 hweights
        _ = 491040 := by norm_num
    exact ⟨hweights, hproducts, combinedScore_le hratio, fun hi h => combinedScore_le h,
      fun lo hne h => le_combinedScore hne hweight h⟩
  case verdict =>
    obtain ⟨e, he, hkind, hcyl, hpayload⟩ := State.closeRecord_queues hq hroom
    exact ⟨e, he, hkind, hcyl, by rw [hpayload, Record.verdictReport_score]⟩

end Sys2Proof.Machine

/-! # Cylinder table: the fold of a verdict (R85, R86, R89 to R93) -/

namespace Sys2Proof.Machine

/-! ## Entries of the Cylinder Table -/

theorem mem_allCylinders {c : Nat} : c ∈ allCylinders ↔ 1 ≤ c ∧ c ≤ 8 := by
  simp only [allCylinders, List.mem_cons, List.not_mem_nil, or_false]
  omega

theorem State.cyl_onCyl {s : State} {c : Nat} (hc : c ∈ allCylinders) (hlen : s.cylinders.length = 8)
    (f : CylEntry → CylEntry) : (s.onCyl c f).cyl c = f (s.cyl c) := by
  obtain ⟨hlow, hhigh⟩ := mem_allCylinders.mp hc
  exact getD_modify_eq _ _ f _ (by omega)

theorem State.cyl_onCyl_of_ne (s : State) {c c' : Nat} (hc : c ∈ allCylinders) (hc' : c' ∈ allCylinders) (hne : c' ≠ c)
    (f : CylEntry → CylEntry) : (s.onCyl c f).cyl c' = s.cyl c' := by
  obtain ⟨hlow, -⟩ := mem_allCylinders.mp hc
  obtain ⟨hlow', -⟩ := mem_allCylinders.mp hc'
  exact getD_modify_ne _ f _ (by omega)

/-! ## The misfire history and the dead flag (R90) -/

/-- R90: the misfire history after a misfire part. -/
def firesAfter (m : MisfirePart) (h : List FireEntry) : List FireEntry :=
  match m with
  | .fired => (.fired :: h).take 8
  | .misfire => (.misfire :: h).take 8
  | _ => h

/-- R90: the dead flag after a misfire part: judged after an addition only. -/
def deadAfter (m : MisfirePart) (h : List FireEntry) (was : Bool) : Bool :=
  if m = .fired ∨ m = .misfire then judgeDead (firesAfter m h) was else was

theorem CylEntry.foldMisfire_eq (m : MisfirePart) (e : CylEntry) :
    e.foldMisfire m = { e with
      misfireHistory := firesAfter m e.misfireHistory, dead := deadAfter m e.misfireHistory e.dead } := by
  cases m <;> rfl

theorem firesAfter_of_other {m : MisfirePart} (hm : m = .intended ∨ m = .suspect ∨ m = .unassessed)
    (h : List FireEntry) : firesAfter m h = h := by
  rcases hm with rfl | rfl | rfl <;> rfl

theorem deadAfter_of_other {m : MisfirePart} (hm : m = .intended ∨ m = .suspect ∨ m = .unassessed)
    (h : List FireEntry) (was : Bool) : deadAfter m h was = was := by
  rcases hm with rfl | rfl | rfl <;> rfl

/-- R90's table: full with six MISFIREs sets the flag, at most one clears it, anything else leaves it. -/
theorem judgeDead_cases (h : List FireEntry) (was : Bool) :
    (h.length = 8 ∧ 6 ≤ misfireCount h → judgeDead h was = true)
      ∧ (misfireCount h ≤ 1 → judgeDead h was = false)
      ∧ (¬(h.length = 8 ∧ 6 ≤ misfireCount h) → ¬misfireCount h ≤ 1 → judgeDead h was = was) := by
  unfold judgeDead
  refine ⟨fun hmany => if_pos hmany, fun hfew => ?_, fun hmany hfew => ?_⟩
  · rw [if_neg (by omega), if_pos hfew]
  · rw [if_neg hmany, if_neg hfew]

/-! ## The knock history (R91) -/

/-- R91: the knock history after a knock part. -/
def knockAfter (k : KnockPart) (h : Option KnockEntry) : Option KnockEntry :=
  match k with
  | .quiet => some .quiet
  | .light => some .knock
  | .heavy => some .knock
  | _ => h

theorem CylEntry.foldKnock_eq (k : KnockPart) (e : CylEntry) :
    e.foldKnock k = { e with knockHistory := knockAfter k e.knockHistory } := by
  cases k <;> rfl

theorem knockAfter_of_knock {k : KnockPart} (hk : k = .light ∨ k = .heavy) (h : Option KnockEntry) :
    knockAfter k h = some .knock := by
  rcases hk with rfl | rfl <;> rfl

theorem knockAfter_of_other {k : KnockPart} (hk : k = .foreign ∨ k = .learning ∨ k = .unassessed ∨ k = .none)
    (h : Option KnockEntry) : knockAfter k h = h := by
  rcases hk with rfl | rfl | rfl | rfl <;> rfl

/-- R91, R96: bit 6 of a TALLY's last byte is its knocking flag. -/
theorem CylEntry.tallyReport_knocking (im : Image) (c : Nat) (e : CylEntry) :
    ((e.tallyReport im c).getD 7 0).getLsbD 6 = decide (e.knockHistory = some .knock) := by
  have bit6 : ∀ b0 b1 b2 b3 b4 b5 b6 : Bool,
      (byteOf (bitAt 0 b0 + bitAt 1 b1 + bitAt 2 b2 + bitAt 3 b3 + bitAt 4 b4 + bitAt 5 b5 + bitAt 6 b6)).getLsbD 6
        = b6 := by decide
  exact (bit6 ..).trans (beq_eq_decide ..)

/-! ## The block counters (R93) -/

theorem CylEntry.foldBlock_eq (v : Verdict) (e : CylEntry) :
    e.foldBlock v = { e with
      block := if e.counted = false then e.block else e.block.countVerdict v.misfire v.knock } := by
  unfold CylEntry.foldBlock
  split
  · next h => rw [if_neg (by simp [h])]
  · next h => rw [if_pos (by simpa using h)]

/-- R93's table, by the misfire part. -/
theorem Block.countVerdict_eq (m : MisfirePart) (k : KnockPart) (b : Block) :
    b.countVerdict m k =
      if m = .fired then
        { b with assessed := b.assessed + 1, knocks := if k = .light ∨ k = .heavy then b.knocks + 1 else b.knocks }
      else if m = .misfire then { b with assessed := b.assessed + 1, misfires := b.misfires + 1 }
      else if m = .suspect then { b with suspects := b.suspects + 1 } else b := by
  cases m with
  | fired => by_cases hk : k = .light ∨ k = .heavy <;> simp [Block.countVerdict, hk]
  | _ => rfl

/-! ## The references (R85, R86) -/

/-- R86: the energy of a channel's evidence that counts for its reference. -/
def Evidence.usedEnergy (ev : Evidence) : Option Nat := if ev.weight = 0 then none else ev.energy

/-- R86: the energy that moves a channel's reference. -/
def refEnergy (k : KnockPart) (ev : Option Evidence) : Option Nat :=
  if k = .quiet ∨ k = .learning then ev.bind Evidence.usedEnergy else none

/-- R85: a channel's reference and learning count after the fold. -/
def movedRef (im : Image) (energy : Option Nat) (ref count : Nat) : Nat × Nat :=
  match energy with
  | some x => (newRef im ref count x, min (count + 1) im.learnLen)
  | none => (ref, count)

theorem CylEntry.updateFrom_of_none {ev : Option Evidence} (h : ev.bind Evidence.usedEnergy = none) (im : Image)
    (ch : Chan) (e : CylEntry) : e.updateFrom im ch ev = e := by
  unfold CylEntry.updateFrom
  split
  · next v =>
    split
    · next x hx =>
      refine if_neg fun hw => ?_
      simp [Evidence.usedEnergy, hw, hx] at h
    · rfl
  · rfl

theorem CylEntry.updateFrom_of_some {ev : Option Evidence} {x : Nat} (h : ev.bind Evidence.usedEnergy = some x)
    (im : Image) (ch : Chan) (e : CylEntry) : e.updateFrom im ch ev = e.updateRef im ch x := by
  obtain ⟨v, rfl, hv⟩ := Option.bind_eq_some_iff.mp h
  obtain ⟨hw, hx⟩ : v.weight ≠ 0 ∧ v.energy = some x := by simpa [Evidence.usedEnergy] using hv
  simp [CylEntry.updateFrom, hw, hx]

theorem CylEntry.updateFrom_a (im : Image) (ev : Option Evidence) (e : CylEntry) :
    e.updateFrom im .a ev = { e with
      refA := (movedRef im (ev.bind Evidence.usedEnergy) e.refA e.learnA).1,
      learnA := (movedRef im (ev.bind Evidence.usedEnergy) e.refA e.learnA).2 } := by
  cases h : ev.bind Evidence.usedEnergy with
  | none => exact CylEntry.updateFrom_of_none h im .a e
  | some x => exact CylEntry.updateFrom_of_some h im .a e

theorem CylEntry.updateFrom_b (im : Image) (ev : Option Evidence) (e : CylEntry) :
    e.updateFrom im .b ev = { e with
      refB := (movedRef im (ev.bind Evidence.usedEnergy) e.refB e.learnB).1,
      learnB := (movedRef im (ev.bind Evidence.usedEnergy) e.refB e.learnB).2 } := by
  cases h : ev.bind Evidence.usedEnergy with
  | none => exact CylEntry.updateFrom_of_none h im .b e
  | some x => exact CylEntry.updateFrom_of_some h im .b e

theorem CylEntry.foldRefs_eq (im : Image) (k : KnockPart) (a b : Option Evidence) (e : CylEntry) :
    e.foldRefs im k a b = { e with
      refA := (movedRef im (refEnergy k a) e.refA e.learnA).1,
      learnA := (movedRef im (refEnergy k a) e.refA e.learnA).2,
      refB := (movedRef im (refEnergy k b) e.refB e.learnB).1,
      learnB := (movedRef im (refEnergy k b) e.refB e.learnB).2 } := by
  unfold CylEntry.foldRefs refEnergy
  split
  · rw [CylEntry.updateFrom_a, CylEntry.updateFrom_b]
  · rfl

/-- R85: the new reference in one expression. -/
theorem newRef_eq (im : Image) (ref count energy : Nat) :
    newRef im ref count energy = if count = 0 then max 16 (energy * 16)
      else max 16 ((ref : Int) + ((energy * 16 : Nat) - (ref : Int)).tdiv
        (if count < im.learnLen then 2 else 2 ^ im.shift)).toNat := by
  unfold newRef moveRef
  split
  · rfl
  · split
    · rfl
    · rw [Nat.cast_pow]
      rfl

/-! ## The fold (R89) -/

/-- R89: each part of the verdict writes its own fields of the entry. -/
theorem CylEntry.foldVerdict_eq (im : Image) (v : Verdict) (a b : Option Evidence) (e : CylEntry) :
    e.foldVerdict im v a b = { e with
      misfireHistory := firesAfter v.misfire e.misfireHistory
      dead := deadAfter v.misfire e.misfireHistory e.dead
      knockHistory := knockAfter v.knock e.knockHistory
      block := if e.counted = false then e.block else e.block.countVerdict v.misfire v.knock
      counted := false
      refA := (movedRef im (refEnergy v.knock a) e.refA e.learnA).1
      learnA := (movedRef im (refEnergy v.knock a) e.refA e.learnA).2
      refB := (movedRef im (refEnergy v.knock b) e.refB e.learnB).1
      learnB := (movedRef im (refEnergy v.knock b) e.refB e.learnB).2 } := by
  rw [CylEntry.foldVerdict, CylEntry.foldRefs_eq, CylEntry.foldBlock_eq, CylEntry.foldKnock_eq, CylEntry.foldMisfire_eq]

/-- R90: after the fold, DEAD_CYLINDER is raised when the flag goes from clear to set. -/
theorem State.foldVerdict_eq (s : State) (c : Nat) (v : Verdict) (a b : Option Evidence) :
    s.foldVerdict c v a b =
      let u := s.onCyl c (CylEntry.foldVerdict s.params v a b)
      if (s.cyl c).dead = false ∧ (u.cyl c).dead = true then u.raise .deadCylinder else u := by
  simp only [State.foldVerdict, Bool.and_eq_true, Bool.not_eq_true']

theorem State.foldVerdict_cylinders (s : State) (c : Nat) (v : Verdict) (a b : Option Evidence) :
    (s.foldVerdict c v a b).cylinders = (s.onCyl c (CylEntry.foldVerdict s.params v a b)).cylinders := by
  rw [State.foldVerdict_eq]
  dsimp only
  split
  · exact State.body_cylinders (State.raise_body _ _)
  · rfl

/-- Settles O40: by R89 each part of the verdict writes its own fields of the entry, so the clauses about an entry are the
tables of those parts; the raise that may follow leaves the Cylinder Table alone. -/
theorem foldKeepsTheHistories : Obligations.FoldKeepsTheHistories := by
  intro s c v evA evB hc hlen t e e' misfires
  have table : ({ s with cylinders := t.cylinders } : State) = s.onCyl c (CylEntry.foldVerdict s.params v evA evB) :=
    congrArg (fun l => ({ s with cylinders := l } : State)) (State.foldVerdict_cylinders s c v evA evB)
  have entryOf : ∀ c', t.cyl c' = (s.onCyl c (CylEntry.foldVerdict s.params v evA evB)).cyl c' :=
    State.cyl_congr (State.foldVerdict_cylinders s c v evA evB)
  have folded : e' = e.foldVerdict s.params v evA evB := (entryOf c).trans (State.cyl_onCyl hc hlen _)
  rw [CylEntry.foldVerdict_eq] at folded
  have history : e'.misfireHistory = firesAfter v.misfire e.misfireHistory := by rw [folded]
  have dead : e'.dead = deadAfter v.misfire e.misfireHistory e.dead := by rw [folded]
  have knock : e'.knockHistory = knockAfter v.knock e.knockHistory := by rw [folded]
  have raised : t = if e.dead = false ∧ e'.dead = true
      then ({ s with cylinders := t.cylinders } : State).raise .deadCylinder else { s with cylinders := t.cylinders } := by
    rw [table, show e' = _ from entryOf c]
    exact State.foldVerdict_eq s c v evA evB
  have counted : misfires = misfireCount e'.misfireHistory := (List.countP_eq_length_filter ..).symm
  refine ⟨fun hm => ?fired, fun hm => ?misfire, fun hm => ?judged, fun hm => ?left, fun hwas his => ?raises,
    fun hstays => ?silent, fun hk => ?quiet, fun hk => ?knocking, fun hk => ?keptKnock,
    fun im => e'.tallyReport_knocking im c, ?flag, ?block, ?refs, ?frame, fun c' hc' hne => ?others⟩
  case fired => rw [history, hm]; rfl
  case misfire => rw [history, hm]; rfl
  case judged =>
    rw [counted, show e'.dead = judgeDead e'.misfireHistory e.dead by rw [dead, deadAfter, if_pos hm, history]]
    exact judgeDead_cases e'.misfireHistory e.dead
  case left => exact ⟨history.trans (firesAfter_of_other hm _), dead.trans (deadAfter_of_other hm _ _)⟩
  case raises => exact raised.trans (if_pos ⟨hwas, his⟩)
  case silent => exact raised.trans (if_neg hstays)
  case quiet => rw [knock, hk]; rfl
  case knocking => rw [knock, knockAfter_of_knock hk]
  case keptKnock => rw [knock, knockAfter_of_other hk]
  case flag => rw [folded]
  case block => rw [folded, Block.countVerdict_eq]
  case refs =>
    intro im energy moved
    have channel : ∀ ev ref count, movedRef im (refEnergy v.knock ev) ref count = match energy ev with
        | some x => (moved ref count x, min (count + 1) im.learnLen)
        | none => (ref, count) := by
      intro ev ref count
      rw [show energy ev = refEnergy v.knock ev from rfl]
      cases refEnergy v.knock ev with
      | none => rfl
      | some x => rw [movedRef, newRef_eq]
    rw [folded]
    exact ⟨channel evA e.refA e.learnA, channel evB e.refB e.learnB⟩
  case frame => rw [folded]
  case others => exact (entryOf c').trans (State.cyl_onCyl_of_ne s hc hc' hne _)

end Sys2Proof.Machine

/-! # Cylinder table: the end of a block (R92, R94 to R96) -/

namespace Sys2Proof.Machine

/-! ## Judging the alarms (R94, R95) -/

/-- R94: the misfire alarm and the clear-run counter after the block. -/
theorem CylEntry.judgeMisfire_eq (im : Image) (e : CylEntry) :
    e.judgeMisfire im = { e with
      misfireAlarm := (e.judgeMisfire im).misfireAlarm, clearRun := (e.judgeMisfire im).clearRun } := by
  unfold CylEntry.judgeMisfire
  split_ifs <;> rfl

theorem CylEntry.judgeKnock_eq (im : Image) (e : CylEntry) :
    e.judgeKnock im = { e with knockAlarm := (e.judgeKnock im).knockAlarm } := by
  unfold CylEntry.judgeKnock
  split_ifs <;> rfl

theorem CylEntry.thin_iff (im : Image) (e : CylEntry) : e.thin im = true ↔ e.block.assessed < im.blockLen / 4 := by
  rw [CylEntry.thin, decide_eq_true_iff]

theorem CylEntry.judgeMisfire_of_thin {im : Image} {e : CylEntry} (h : e.block.assessed < im.blockLen / 4) :
    e.judgeMisfire im = e := by
  rw [CylEntry.judgeMisfire, if_pos ((e.thin_iff im).mpr h)]

/-- R94: a block that is not thin is judged by its rate. -/
theorem CylEntry.judgeMisfire_of_not_thin {im : Image} {e : CylEntry} (h : ¬e.block.assessed < im.blockLen / 4) :
    e.judgeMisfire im =
      if im.rateLimit ≤ e.block.rate then { e with misfireAlarm := true, clearRun := 0 }
      else if e.block.rate < im.rateLimit / 2 then
        if im.clearCount ≤ e.clearRun + 1 then { e with misfireAlarm := false, clearRun := 0 }
        else { e with clearRun := e.clearRun + 1 }
      else { e with clearRun := 0 } := by
  rw [CylEntry.judgeMisfire, if_neg (mt (e.thin_iff im).mp h)]

/-- R95: the knock alarm after the block. -/
theorem CylEntry.judgeKnock_knockAlarm (im : Image) (e : CylEntry) :
    (e.judgeKnock im).knockAlarm =
      if e.block.assessed < im.blockLen / 4 then e.knockAlarm
      else if im.knockLimit ≤ e.block.knocks then true
      else if e.block.knocks < im.knockLimit / 2 then false else e.knockAlarm := by
  simp only [CylEntry.judgeKnock, CylEntry.thin_iff]
  split_ifs <;> rfl

/-- R94: no rate is below half a limit of 1, so such an alarm stays. -/
theorem CylEntry.judgeMisfire_keeps_of_limit_one {im : Image} {e : CylEntry} (hlimit : im.rateLimit = 1)
    (halarm : e.misfireAlarm = true) : (e.judgeMisfire im).misfireAlarm = true := by
  have never : ¬e.block.rate < im.rateLimit / 2 := by omega
  unfold CylEntry.judgeMisfire
  rw [if_neg never]
  split_ifs
  · exact halarm
  · rfl
  · exact halarm

/-- R95: no count of knocks is below half a limit of 1. -/
theorem CylEntry.judgeKnock_keeps_of_limit_one {im : Image} {e : CylEntry} (hlimit : im.knockLimit = 1)
    (halarm : e.knockAlarm = true) : (e.judgeKnock im).knockAlarm = true := by
  have never : ¬e.block.knocks < im.knockLimit / 2 := by omega
  rw [CylEntry.judgeKnock_knockAlarm, if_neg never, halarm, ite_self, ite_self]

/-- R92, R94, R95: the entry at the end of its block, before its counters are cleared. -/
def CylEntry.judgeBlock (im : Image) (e : CylEntry) : CylEntry := (e.judgeMisfire im).judgeKnock im

/-- R95: the knock alarm is judged from the block and the alarm before it. -/
theorem CylEntry.judgeKnock_knockAlarm_congr {x e : CylEntry} (hblock : x.block = e.block)
    (halarm : x.knockAlarm = e.knockAlarm) (im : Image) : (x.judgeKnock im).knockAlarm = (e.judgeKnock im).knockAlarm := by
  rw [CylEntry.judgeKnock_knockAlarm, CylEntry.judgeKnock_knockAlarm, hblock, halarm]

/-- R94, R95: the two judgements read and write different fields. -/
theorem CylEntry.judgeBlock_eq (im : Image) (e : CylEntry) :
    e.judgeBlock im = { e with
      misfireAlarm := (e.judgeMisfire im).misfireAlarm, clearRun := (e.judgeMisfire im).clearRun,
      knockAlarm := (e.judgeKnock im).knockAlarm } := by
  have knock : ((e.judgeMisfire im).judgeKnock im).knockAlarm = (e.judgeKnock im).knockAlarm :=
    CylEntry.judgeKnock_knockAlarm_congr (by rw [CylEntry.judgeMisfire_eq]) (by rw [CylEntry.judgeMisfire_eq]) im
  rw [CylEntry.judgeBlock, CylEntry.judgeKnock_eq, knock, CylEntry.judgeMisfire_eq]

/-! ## Sources of the Alert Unit (R155) -/

theorem AlertSource.index_lt (x : AlertSource) : x.index < 8 := by
  cases x <;> decide

theorem AlertSource.index_ne {x y : AlertSource} (h : x ≠ y) : x.index ≠ y.index := by
  have left : ∀ z : AlertSource, allSources[z.index]? = some z := by
    intro z
    cases z <;> rfl
  exact fun hindex => h (Option.some.inj ((left x).symm.trans (hindex ▸ left y)))

theorem AlertUnit.src_congr {a b : AlertUnit} (h : b.sources = a.sources) (x : AlertSource) : b.src x = a.src x := by
  rw [AlertUnit.src, AlertUnit.src, h]

theorem AlertUnit.src_latchSource {a : AlertUnit} (hlen : a.sources.length = 8) (x : AlertSource) :
    (a.latchSource x).src x = { a.src x with latch := true, latest := a.raiseSeq + 1 } :=
  getD_modify_eq _ _ _ _ (hlen ▸ x.index_lt)

theorem AlertUnit.src_latchSource_of_ne (a : AlertUnit) {x y : AlertSource} (h : y ≠ x) :
    (a.latchSource x).src y = a.src y :=
  getD_modify_ne _ _ _ (AlertSource.index_ne h.symm)

theorem AlertUnit.assertLine_raiseSeq (n : NodeState) (a : AlertUnit) : (a.assertLine n).raiseSeq = a.raiseSeq := by
  unfold AlertUnit.assertLine
  split <;> rfl

theorem State.raiseStep_raiseSeq (s : State) (x : AlertSource) :
    (s.raiseStep x).1.alert.raiseSeq = s.alert.raiseSeq + 1 := AlertUnit.assertLine_raiseSeq _ _

theorem State.raiseStep_src (s : State) (x y : AlertSource) :
    (s.raiseStep x).1.alert.src y = (s.alert.latchSource x).src y :=
  AlertUnit.src_congr (AlertUnit.assertLine_sources _ _) y

/-! ## A place in the queue for a report that ranks above STATUS and LOG (R145, R146) -/

/-- The queue, in order and with every age used up, takes a new report: it has a free place, an entry of the report's key, or
one that ranks below it. -/
def Link.Takes (l : Link) (k : Kind) (c : Option Nat) : Prop :=
  l.queue.Pairwise (fun a b => a.notAfter b = true) ∧ (∀ e ∈ l.queue, e.age < l.nextAge)
    ∧ (l.queue.length < 12 ∨ ∃ x ∈ l.queue, (x.kind = k ∧ x.cyl = c) ∨ k.code < x.kind.code)

theorem Link.QueueOk.takes {l : Link} {k : Kind} {c : Option Nat} (hq : l.QueueOk)
    (hroom : l.queue.length < 12 ∨ l.Waits k c) : l.Takes k c := by
  obtain ⟨-, hsorted, -, hage, -⟩ := hq
  exact ⟨hsorted, hage, hroom.imp_right fun ⟨x, hx, hkey⟩ => ⟨x, hx, .inl hkey⟩⟩

/-- R145, R146: queuing leaves the queue as it is, or leaves in it one entry of the new one's key, not younger than that,
beside entries that it held. -/
theorem putEntry_cases (e : TxEntry) (q : List TxEntry) :
    (putEntry e q).1 = q ∨ ∃ y ∈ (putEntry e q).1, y.kind = e.kind ∧ y.cyl = e.cyl ∧ y.age ≤ e.age
      ∧ ∀ x ∈ (putEntry e q).1, x = y ∨ x ∈ q := by
  unfold putEntry
  split
  · next x hx =>
    have hkey := List.find?_some hx
    obtain ⟨hkind, hcyl⟩ := coalesce_kind x e hkey
    exact .inr ⟨coalesce x e, (mem_insertEntry _ _ _).mpr (.inl rfl), hkind, hcyl,
      coalesce_age x e ▸ min_le_right _ _,
      fun z hz => ((mem_insertEntry _ _ _).mp hz).imp_right List.mem_of_mem_filter⟩
  · split
    · exact .inr ⟨e, (mem_insertEntry _ _ _).mpr (.inl rfl), rfl, rfl, le_rfl,
        fun z hz => (mem_insertEntry _ _ _).mp hz⟩
    · split
      · split
        · exact .inr ⟨e, (mem_insertEntry _ _ _).mpr (.inl rfl), rfl, rfl, le_rfl,
            fun z hz => ((mem_insertEntry _ _ _).mp hz).imp_right List.mem_of_mem_dropLast⟩
        · exact .inl rfl
      · exact .inl rfl

/-- R146: the last entry of the queue ranks no higher than any other. -/
theorem code_le_of_getLast? {q : List TxEntry} {last x : TxEntry} (hsorted : q.Pairwise (fun a b => a.notAfter b = true))
    (hlast : q.getLast? = some last) (hx : x ∈ q) : x.kind.code ≤ last.kind.code := by
  rw [← List.dropLast_append_getLast? last hlast] at hsorted hx
  rcases List.mem_append.mp hx with hx | hx
  · have hafter := (List.pairwise_append.mp hsorted).2.2 x hx last (List.mem_singleton_self last)
    rw [TxEntry.notAfter_iff] at hafter
    omega
  · rw [List.mem_singleton.mp hx]

/-- R146: a full queue gives up its last entry for one that ranks above it. -/
theorem putEntry_displaces {e last : TxEntry} {q : List TxEntry} (hnone : q.find? (fun x => x.sameKey e) = none)
    (hfull : ¬q.length < Config.queueSize) (hlast : q.getLast? = some last) (hrank : e.kind.code < last.kind.code) :
    (putEntry e q).1 = insertEntry e q.dropLast := by
  unfold putEntry
  rw [hnone]
  dsimp only
  rw [if_neg hfull, hlast]
  dsimp only
  rw [if_pos hrank]

/-- A report that the queue takes is queued with its contents. -/
theorem State.putReport_queues_of_takes {s : State} {k : Kind} {c : Option Nat} (h : s.link.Takes k c)
    (payload : List Byte) :
    ∃ e ∈ (s.putReport k c payload).1.link.queue, e.kind = k ∧ e.cyl = c ∧ e.payload = payload := by
  obtain ⟨hsorted, hage, hroom⟩ := h
  let e : TxEntry := { kind := k, cyl := c, payload := payload, age := s.link.nextAge }
  show ∃ y ∈ (putEntry e s.link.queue).1, y.kind = e.kind ∧ y.cyl = e.cyl ∧ y.payload = e.payload
  by_cases hsimple : s.link.queue.length < 12 ∨ ∃ x ∈ s.link.queue, x.sameKey e = true
  · exact putEntry_queues (fun x hx => (hage x hx).le) hsimple
  · obtain ⟨hfull, hkeys⟩ := not_or.mp hsimple
    have hnone : s.link.queue.find? (fun x => x.sameKey e) = none :=
      List.find?_eq_none.mpr fun x hx hkey => hkeys ⟨x, hx, hkey⟩
    obtain ⟨x, hx, hrank⟩ : ∃ x ∈ s.link.queue, k.code < x.kind.code := by
      obtain ⟨x, hx, hkey | hrank⟩ := hroom.resolve_left hfull
      · exact absurd ⟨x, hx, (TxEntry.sameKey_iff x e).mpr hkey⟩ hkeys
      · exact ⟨x, hx, hrank⟩
    have hlast := List.getLast?_eq_getLast_of_ne_nil (List.ne_nil_of_mem hx)
    rw [putEntry_displaces hnone hfull hlast (hrank.trans_le (code_le_of_getLast? hsorted hlast hx))]
    exact ⟨e, (mem_insertEntry _ _ _).mpr (.inl rfl), rfl, rfl, rfl⟩

/-- R146: a report leaves the place of one that ranks above it. -/
theorem State.putReport_takes {s : State} {k k' : Kind} {c : Option Nat} (hk : k.code < k'.code) (c' : Option Nat)
    (p : List Byte) (h : s.link.Takes k c) : (s.putReport k' c' p).1.link.Takes k c := by
  obtain ⟨hsorted, hage, hroom⟩ := h
  let e : TxEntry := { kind := k', cyl := c', payload := p, age := s.link.nextAge }
  suffices hq : (∀ x ∈ (putEntry e s.link.queue).1, x.age < s.link.nextAge + 1)
      ∧ ((putEntry e s.link.queue).1.length < 12
        ∨ ∃ x ∈ (putEntry e s.link.queue).1, (x.kind = k ∧ x.cyl = c) ∨ k.code < x.kind.code) from
    ⟨putEntry_sorted e _ hsorted, hq⟩
  rcases putEntry_cases e s.link.queue with hsame | ⟨y, hy, hkind, -, hyage, hfrom⟩
  · rw [hsame]
    exact ⟨fun x hx => Nat.lt_succ_of_lt (hage x hx), hroom⟩
  · refine ⟨fun x hx => ?_, .inr ⟨y, hy, .inr (hkind ▸ hk)⟩⟩
    rcases hfrom x hx with rfl | hx
    · exact Nat.lt_succ_of_le hyage
    · exact Nat.lt_succ_of_lt (hage x hx)

theorem State.raiseStep_takes {s : State} {k : Kind} {c : Option Nat} (hk : k.code < Kind.status.code)
    (x : AlertSource) (h : s.link.Takes k c) : (s.raiseStep x).1.link.Takes k c :=
  State.putReport_takes (s := s.onAlert (AlertUnit.latchSource x)) hk none [] h

/-! ## What occurrences leave alone (R150, R155) -/

/-- What any number of occurrences leaves alone: the place of a report that ranks above STATUS and LOG, every source
but FIRST_FAULT, and the raise sequence but for one raise, after which the first-fault record is FULL. -/
structure State.OccurredTo (s t : State) : Prop where
  takes : ∀ k c, k.code < Kind.status.code → s.link.Takes k c → t.link.Takes k c
  sources : ∀ x, x ≠ .firstFault → t.alert.src x = s.alert.src x
  full : s.faults.first.isSome = true → t.faults.first.isSome = true ∧ t.alert.raiseSeq = s.alert.raiseSeq
  once : t.alert.raiseSeq = s.alert.raiseSeq
    ∨ t.faults.first.isSome = true ∧ t.alert.raiseSeq = s.alert.raiseSeq + 1

/-- Neither the link, nor the Alert Unit, nor the first-fault record is written. -/
theorem State.OccurredTo.of_eq {s t : State} (hlink : t.link = s.link) (halert : t.alert = s.alert)
    (hfirst : t.faults.first.isSome = s.faults.first.isSome) : s.OccurredTo t := by
  refine ⟨fun k c _ h => ?_, fun x _ => ?_, fun h => ⟨hfirst.trans h, ?_⟩, .inl ?_⟩
  · rwa [hlink]
  · rw [halert]
  · rw [halert]
  · rw [halert]

theorem State.OccurredTo.trans {s t u : State} (h : s.OccurredTo t) (h' : t.OccurredTo u) : s.OccurredTo u := by
  refine ⟨fun k c hk hs => h'.takes k c hk (h.takes k c hk hs), fun x hx => (h'.sources x hx).trans (h.sources x hx),
    fun hs => ?_, ?_⟩
  · obtain ⟨ht, hseq⟩ := h.full hs
    obtain ⟨hu, hseq'⟩ := h'.full ht
    exact ⟨hu, hseq'.trans hseq⟩
  · rcases h.once with hseq | ⟨ht, hseq⟩
    · rw [← hseq]
      exact h'.once
    · obtain ⟨hu, hseq'⟩ := h'.full ht
      exact .inr ⟨hu, hseq'.trans hseq⟩

theorem foldl_occurredTo {α : Type} {f : State → α → State} (hf : ∀ (s : State) a, s.OccurredTo (f s a))
    (l : List α) (s : State) : s.OccurredTo (l.foldl f s) := by
  induction l generalizing s with
  | nil => exact .of_eq rfl rfl rfl
  | cons a l ih => exact (hf s a).trans (ih (f s a))

/-- R150: an EMPTY record is filled with one raise, of FIRST_FAULT; a FULL one only overflows. -/
theorem State.capture_occurredTo (s : State) (o : Occurrence) : s.OccurredTo (s.capture o).1 := by
  unfold State.capture
  split
  · exact .of_eq rfl rfl rfl
  · next hempty =>
    refine ⟨fun k c hk h => ?takes, fun x hx => ?sources, fun hfull => ?full, .inr ⟨rfl, ?once⟩⟩
    case takes =>
      refine State.raiseStep_takes hk .firstFault (State.putReport_takes (hk.trans (by decide)) none _ ?_)
      exact h
    case sources => exact (State.raiseStep_src _ .firstFault x).trans (AlertUnit.src_latchSource_of_ne _ hx)
    case full =>
      rw [hempty] at hfull
      cases hfull
    case once => exact State.raiseStep_raiseSeq _ .firstFault

theorem State.takeOccurrence_occurredTo (s : State) (o : Occurrence) : s.OccurredTo (s.takeOccurrence o).1 := by
  have counted : s.OccurredTo (s.onFaults (FaultUnit.countOccurrence o.cls)) := .of_eq rfl rfl rfl
  have captured := counted.trans (State.capture_occurredTo (s.onFaults (FaultUnit.countOccurrence o.cls)) o)
  unfold State.takeOccurrence
  dsimp only
  split
  · exact counted
  · split
    · exact captured.trans (.of_eq rfl rfl rfl)
    · exact captured

theorem State.occur_occurredTo (s : State) (o : Occurrence) : s.OccurredTo (s.occur o) :=
  (State.takeOccurrence_occurredTo s o).trans (foldl_occurredTo State.takeOccurrence_occurredTo _ _)

/-- A raise is its step and the occurrences of the STATUS it queues. -/
theorem State.raise_occurredTo (s : State) (x : AlertSource) : (s.raiseStep x).1.OccurredTo (s.raise x) :=
  foldl_occurredTo State.occur_occurredTo _ _

/-- The queue change comes first, and the occurrences it passes after it. -/
theorem State.queueReport_occurredTo (s : State) (k : Kind) (c : Option Nat) (p : List Byte) :
    (s.putReport k c p).1.OccurredTo (s.queueReport k c p) :=
  foldl_occurredTo State.occur_occurredTo _ _

/-! ## A raise (R155) -/

theorem State.raise_src {s : State} (hlen : s.alert.sources.length = 8) {x : AlertSource} (hx : x ≠ .firstFault) :
    (s.raise x).alert.src x = { s.alert.src x with latch := true, latest := s.alert.raiseSeq + 1 } :=
  calc (s.raise x).alert.src x = (s.alert.latchSource x).src x :=
        ((State.raise_occurredTo s x).sources x hx).trans (State.raiseStep_src s x x)
    _ = _ := AlertUnit.src_latchSource hlen x

theorem State.raise_src_of_ne (s : State) {x y : AlertSource} (hy : y ≠ .firstFault) (hne : y ≠ x) :
    (s.raise x).alert.src y = s.alert.src y :=
  calc (s.raise x).alert.src y = (s.alert.latchSource x).src y :=
        ((State.raise_occurredTo s x).sources y hy).trans (State.raiseStep_src s x y)
    _ = s.alert.src y := AlertUnit.src_latchSource_of_ne _ hne

/-- R150, R155: a raise takes one number of the raise sequence, and another where its STATUS brings the first fault. -/
theorem State.raise_raiseSeq (s : State) (x : AlertSource) :
    (s.raise x).alert.raiseSeq = s.alert.raiseSeq + 1 ∨ (s.raise x).alert.raiseSeq = s.alert.raiseSeq + 1 + 1 := by
  have step := State.raiseStep_raiseSeq s x
  rcases (State.raise_occurredTo s x).once with hseq | ⟨-, hseq⟩
  · exact .inl (hseq.trans step)
  · exact .inr (by rw [hseq, step])

theorem State.KeepsSetup.sources_length {s t : State} (h : s.KeepsSetup t) :
    t.alert.sources.length = s.alert.sources.length := by
  simpa using congrArg List.length h.alertMasks

theorem State.raise_takes {s : State} {k : Kind} {c : Option Nat} (hk : k.code < Kind.status.code) (x : AlertSource)
    (h : s.link.Takes k c) : (s.raise x).link.Takes k c :=
  (State.raise_occurredTo s x).takes k c hk (State.raiseStep_takes hk x h)

/-! ## The end of a block (R92, R94 to R96) -/

/-- R94, R95: an alarm that goes from clear to set raises its source. -/
def State.raiseWhen (b : Bool) (x : AlertSource) (s : State) : State := if b then s.raise x else s

theorem State.raiseWhen_body (b : Bool) (x : AlertSource) (s : State) : (s.raiseWhen b x).body = s.body := by
  cases b
  · rfl
  · exact State.raise_body s x

theorem State.raiseWhen_src_of_ne (b : Bool) (s : State) {x y : AlertSource} (hy : y ≠ .firstFault) (hne : y ≠ x) :
    (s.raiseWhen b x).alert.src y = s.alert.src y := by
  cases b
  · rfl
  · exact State.raise_src_of_ne s hy hne

theorem State.raiseWhen_src {s : State} {b : Bool} (hb : b = true) (hlen : s.alert.sources.length = 8) {x : AlertSource}
    (hx : x ≠ .firstFault) :
    (s.raiseWhen b x).alert.src x = { s.alert.src x with latch := true, latest := s.alert.raiseSeq + 1 } := by
  rw [State.raiseWhen, if_pos hb]
  exact State.raise_src hlen hx

theorem State.raiseWhen_of_not {b : Bool} (hb : ¬b = true) (x : AlertSource) (s : State) : s.raiseWhen b x = s :=
  if_neg hb

theorem State.raiseWhen_sources_length (b : Bool) (x : AlertSource) (s : State) :
    (s.raiseWhen b x).alert.sources.length = s.alert.sources.length := by
  cases b
  · rfl
  · exact (State.raise_keepsSetup s x).sources_length

theorem State.raiseWhen_takes {s : State} {k : Kind} {c : Option Nat} (hk : k.code < Kind.status.code) (b : Bool)
    (x : AlertSource) (h : s.link.Takes k c) : (s.raiseWhen b x).link.Takes k c := by
  cases b
  · exact h
  · exact State.raise_takes hk x h

/-- Two sources raised in turn: each is latched where it is raised and left where it is not, and the second raise takes the
next number of the sequence after the first, or the one after that. -/
theorem State.raiseWhen_raiseWhen_src {s : State} (hlen : s.alert.sources.length = 8) {x y : AlertSource}
    (hx : x ≠ .firstFault) (hy : y ≠ .firstFault) (hne : x ≠ y) (p q : Bool) :
    let t := (s.raiseWhen p x).raiseWhen q y
    (p = true → t.alert.src x = { s.alert.src x with latch := true, latest := s.alert.raiseSeq + 1 })
      ∧ (q = true → (t.alert.src y).latch = true)
      ∧ (¬p = true → t.alert.src x = s.alert.src x)
      ∧ (¬q = true → t.alert.src y = s.alert.src y)
      ∧ (p = true → q = true → (t.alert.src y).latest = (t.alert.src x).latest + 1
          ∨ (t.alert.src y).latest = (t.alert.src x).latest + 1 + 1) := by
  intro t
  have first : t.alert.src x = (s.raiseWhen p x).alert.src x := State.raiseWhen_src_of_ne q _ hx hne
  have second : q = true → t.alert.src y = { (s.raiseWhen p x).alert.src y with
      latch := true, latest := (s.raiseWhen p x).alert.raiseSeq + 1 } :=
    fun hq => State.raiseWhen_src hq ((State.raiseWhen_sources_length ..).trans hlen) hy
  refine ⟨fun hp => ?_, fun hq => ?_, fun hp => ?_, fun hq => ?_, fun hp hq => ?_⟩
  · rw [first, State.raiseWhen_src hp hlen hx]
  · rw [second hq]
  · rw [first, State.raiseWhen_of_not hp]
  · rw [show t = s.raiseWhen p x from State.raiseWhen_of_not hq y _, State.raiseWhen_src_of_ne p s hy hne.symm]
  · rw [second hq, first, State.raiseWhen_src hp hlen hx, State.raiseWhen, if_pos hp]
    exact (State.raise_raiseSeq s x).imp (congrArg (· + 1)) (congrArg (· + 1))

/-- A number one or two ahead in the raise sequence, which runs modulo 256. -/
theorem ahead_of_next {a b : BitVec 8} (h : b = a + 1 ∨ b = a + 1 + 1) : 1 ≤ (b - a).toNat ∧ (b - a).toNat ≤ 2 := by
  rcases h with rfl | rfl <;> bv_omega

/-- R92: the judged entry, with the raises that its judgement brings. -/
def State.judgedBlock (s : State) (c : Nat) : State :=
  let judged := (s.cyl c).judgeBlock s.params
  ((s.onCyl c (fun _ => judged)).raiseWhen (!(s.cyl c).misfireAlarm && judged.misfireAlarm) .misfireAlarm).raiseWhen
    (!(s.cyl c).knockAlarm && judged.knockAlarm) .knockAlarm

theorem State.endBlock_eq (s : State) (c : Nat) :
    s.endBlock c = ((s.judgedBlock c).queueReport .tally (some c)
      (((s.cyl c).judgeBlock s.params).tallyReport s.params c)).onCyl c CylEntry.clearBlock := rfl

/-- What the TALLY brings raises no alarm. -/
theorem State.endBlock_src (s : State) (c : Nat) {x : AlertSource} (hx : x ≠ .firstFault) :
    (s.endBlock c).alert.src x = (s.judgedBlock c).alert.src x :=
  (State.queueReport_occurredTo ..).sources x hx

/-- R94, R95, R97: the raises of a block end, by the alarms that its judgement sets. -/
theorem State.endBlock_raises (s : State) (c : Nat) (hlen : s.alert.sources.length = 8) :
    let e := s.cyl c
    let judged := e.judgeBlock s.params
    let t := s.endBlock c
    let misfireRaise := e.misfireAlarm = false ∧ judged.misfireAlarm = true
    let knockRaise := e.knockAlarm = false ∧ judged.knockAlarm = true
    (misfireRaise → t.alert.src .misfireAlarm =
        { s.alert.src .misfireAlarm with latch := true, latest := s.alert.raiseSeq + 1 })
      ∧ (knockRaise → (t.alert.src .knockAlarm).latch = true)
      ∧ (¬misfireRaise → t.alert.src .misfireAlarm = s.alert.src .misfireAlarm)
      ∧ (¬knockRaise → t.alert.src .knockAlarm = s.alert.src .knockAlarm)
      ∧ (misfireRaise → knockRaise →
          (t.alert.src .knockAlarm).latest = (t.alert.src .misfireAlarm).latest + 1
            ∨ (t.alert.src .knockAlarm).latest = (t.alert.src .misfireAlarm).latest + 1 + 1) := by
  intro e judged t misfireRaise knockRaise
  have sets_iff : ∀ was is : Bool, was = false ∧ is = true ↔ (!was && is) = true := by decide
  have misfireSource : t.alert.src .misfireAlarm = (s.judgedBlock c).alert.src .misfireAlarm :=
    State.endBlock_src s c (by decide)
  have knockSource : t.alert.src .knockAlarm = (s.judgedBlock c).alert.src .knockAlarm :=
    State.endBlock_src s c (by decide)
  rw [show misfireRaise ↔ _ from sets_iff .., show knockRaise ↔ _ from sets_iff .., misfireSource, knockSource]
  exact State.raiseWhen_raiseWhen_src (s := s.onCyl c (fun _ => judged)) hlen (by decide) (by decide) (by decide) _ _

theorem State.judgedBlock_cylinders (s : State) (c : Nat) :
    (s.judgedBlock c).cylinders = (s.onCyl c (fun _ => (s.cyl c).judgeBlock s.params)).cylinders :=
  State.body_cylinders ((State.raiseWhen_body ..).trans (State.raiseWhen_body ..))

theorem State.judgedBlock_takes {s : State} {k : Kind} {c' : Option Nat} (hk : k.code < Kind.status.code) (c : Nat)
    (h : s.link.Takes k c') : (s.judgedBlock c).link.Takes k c' :=
  State.raiseWhen_takes hk _ _ (State.raiseWhen_takes (s := s.onCyl c _) hk _ _ h)

/-- What is queued for the TALLY, and the occurrences after it, leave the Cylinder Table as the judgement left it. -/
theorem State.endBlock_cylinders (s : State) (c : Nat) :
    (s.endBlock c).cylinders
      = ((s.onCyl c (fun _ => (s.cyl c).judgeBlock s.params)).onCyl c CylEntry.clearBlock).cylinders := by
  rw [State.endBlock_eq, State.onCyl_cylinders, State.body_cylinders (State.queueReport_body ..),
    State.judgedBlock_cylinders, State.onCyl_cylinders]
  rfl

theorem State.endBlock_cyl {s : State} {c : Nat} (hc : c ∈ allCylinders) (hlen : s.cylinders.length = 8) :
    (s.endBlock c).cyl c = ((s.cyl c).judgeBlock s.params).clearBlock := by
  rw [State.cyl_congr (State.endBlock_cylinders s c) c, State.cyl_onCyl hc (by simpa using hlen),
    State.cyl_onCyl hc hlen]

theorem State.endBlock_cyl_of_ne (s : State) {c c' : Nat} (hc : c ∈ allCylinders) (hc' : c' ∈ allCylinders)
    (hne : c' ≠ c) : (s.endBlock c).cyl c' = s.cyl c' := by
  rw [State.cyl_congr (State.endBlock_cylinders s c) c', State.cyl_onCyl_of_ne _ hc hc' hne,
    State.cyl_onCyl_of_ne _ hc hc' hne]

/-- R96: where the queue takes it, the TALLY waits after the block end: raises and occurrences leave its place and then the
entry itself. -/
theorem State.endBlock_queues {s : State} {c : Nat} (h : s.link.Takes .tally (some c)) :
    ∃ x ∈ (s.endBlock c).link.queue, x.kind = .tally ∧ x.cyl = some c
      ∧ x.payload = ((s.cyl c).judgeBlock s.params).tallyReport s.params c := by
  obtain ⟨x, hx, hkind, hcyl, hpayload⟩ :=
    State.putReport_queues_of_takes (State.judgedBlock_takes (by decide) c h)
      (((s.cyl c).judgeBlock s.params).tallyReport s.params c)
  have hstatus : x.kind ≠ .status := by rw [hkind]; decide
  have hlog : x.kind ≠ .log := by rw [hkind]; decide
  exact ⟨x, foldl_keepsReports State.occur_keepsReports _ _ x hx hstatus hlog, hkind, hcyl, hpayload⟩

/-- R96: the TALLY of a judged block: its counts, and the flags by bits. -/
theorem CylEntry.tallyReport_judgeBlock (im : Image) (c : Nat) (e : CylEntry) :
    (e.judgeBlock im).tallyReport im c
      = [byteOf c] ++ bytes16 e.block.assessed ++ bytes16 e.block.misfires ++ bytes16 e.block.knocks
        ++ [byteOf ((if (e.judgeMisfire im).misfireAlarm then 1 else 0) + (if (e.judgeKnock im).knockAlarm then 2 else 0)
            + (if e.dead then 4 else 0) + (if e.block.assessed < im.blockLen / 4 then 8 else 0)
            + (if 1 ≤ e.block.suspects then 16 else 0) + (if 1 ≤ e.aborts then 32 else 0)
            + (if e.knockHistory = some .knock then 64 else 0))] := by
  rw [CylEntry.judgeBlock_eq]
  simp [CylEntry.tallyReport, tallyPayload, CylEntry.thin, bitAt]

/-- Settles O41: each alarm is judged by R94's and R95's tables over fields that the other judgement leaves; the raises, the
occurrences that they bring, and the TALLY touch neither the Cylinder Table nor each other's sources, and the TALLY's place
in the queue outlasts them. -/
theorem blockEndJudgesTheAlarms : Obligations.BlockEndJudgesTheAlarms := by
  intro s c hc hlen hsources im t e e' b thin rate run
  have cleared : e' = (e.judgeBlock im).clearBlock := State.endBlock_cyl hc hlen
  have ended := cleared
  rw [CylEntry.judgeBlock_eq] at ended
  have misfireAlarm : e'.misfireAlarm = (e.judgeMisfire im).misfireAlarm := by rw [ended]; rfl
  have clearRun : e'.clearRun = (e.judgeMisfire im).clearRun := by rw [ended]; rfl
  have judgedKnock : e'.knockAlarm = (e.judgeKnock im).knockAlarm := by rw [ended]; rfl
  have knockAlarm := judgedKnock.trans (CylEntry.judgeKnock_knockAlarm im e)
  have rated : ¬thin → e.judgeMisfire im = _ := CylEntry.judgeMisfire_of_not_thin
  rw [show e.block.rate = rate from rfl] at rated
  refine ⟨fun hthin => ?thin, fun hthin hhigh => ?high, fun hthin hhigh hlow => ?low, fun hthin hhigh hlow => ?between,
    fun hthin hmany => ?many, fun hthin hmany hfew => ?few, fun hthin hmany hfew => ?neither, ?raises,
    fun hblock hnone => ?empty, fun hlimit halarm => ?rateOne, fun hlimit halarm => ?knockOne, ?frame,
    fun c' hc' hne => State.endBlock_cyl_of_ne s hc hc' hne, fun hq hroom => ?tally⟩
  case thin =>
    rw [misfireAlarm, clearRun, knockAlarm, CylEntry.judgeMisfire_of_thin hthin, if_pos hthin]
    exact ⟨rfl, rfl, rfl⟩
  case high =>
    rw [misfireAlarm, clearRun, rated hthin, if_pos hhigh]
    exact ⟨rfl, rfl⟩
  case low =>
    rw [misfireAlarm, clearRun, rated hthin, if_neg hhigh, if_pos hlow]
    refine ⟨fun hclear => ?_, fun hclear => ?_⟩
    · rw [if_pos hclear]
      exact ⟨rfl, rfl⟩
    · rw [if_neg hclear]
      exact ⟨rfl, rfl⟩
  case between =>
    rw [misfireAlarm, clearRun, rated hthin, if_neg hhigh, if_neg hlow]
    exact ⟨rfl, rfl⟩
  case many => rw [knockAlarm, if_neg hthin, if_pos hmany]
  case few => rw [knockAlarm, if_neg hthin, if_neg hmany, if_pos hfew]
  case neither => rw [knockAlarm, if_neg hthin, if_neg hmany, if_neg hfew]
  case raises =>
    intro misfireRaise knockRaise
    have misfireSets : misfireRaise = (e.misfireAlarm = false ∧ (e.judgeBlock im).misfireAlarm = true) := by
      rw [show misfireRaise = (e.misfireAlarm = false ∧ e'.misfireAlarm = true) from rfl, cleared]
      rfl
    have knockSets : knockRaise = (e.knockAlarm = false ∧ (e.judgeBlock im).knockAlarm = true) := by
      rw [show knockRaise = (e.knockAlarm = false ∧ e'.knockAlarm = true) from rfl, cleared]
      rfl
    obtain ⟨raisesMisfire, raisesKnock, keepsMisfire, keepsKnock, inTurn⟩ := State.endBlock_raises s c hsources
    rw [misfireSets, knockSets]
    refine ⟨fun hm => ?_, raisesKnock, keepsMisfire, keepsKnock, fun hm hk => ahead_of_next (inTurn hm hk)⟩
    rw [show t.alert.src .misfireAlarm = _ from raisesMisfire hm]
    exact ⟨rfl, rfl⟩
  case empty =>
    show b.assessed < im.blockLen / 4
    omega
  case rateOne => exact misfireAlarm.trans (CylEntry.judgeMisfire_keeps_of_limit_one hlimit halarm)
  case knockOne => exact judgedKnock.trans (CylEntry.judgeKnock_keeps_of_limit_one hlimit halarm)
  case frame => rw [ended]; rfl
  case tally =>
    obtain ⟨x, hx, hkind, hcyl, hpayload⟩ := State.endBlock_queues (hq.takes hroom)
    rw [CylEntry.tallyReport_judgeBlock] at hpayload
    rw [misfireAlarm, judgedKnock]
    exact ⟨x, hx, hkind, hcyl, hpayload⟩

end Sys2Proof.Machine
/-! # What a command can do: the acts of the commands, and the moves they are made of

Every command brings the time forward, acts, and ends its event. An act is made of the few updates of `State.Moves`, or it is
one of the turns of Node Control, the Link Controller and the Alert Unit that `State.Turns` lists. What every step keeps is
then shown once for each of these, and not for each command. -/

namespace Sys2Proof

/-- What a command does between the passing of time and the end of its event. -/
def Instr.act : Instr → Machine.State → Machine.State
  | .resetNRelease t straps => Machine.resetRelease t straps
  | .configReadDone _ bytes => Machine.configReadDone bytes
  | .configRetryTimer _ => Machine.configRetry
  | .toothEdge _ order => Machine.toothEdge order
  | .stall _ => Machine.stall
  | .camEdge _ => Machine.camEdge
  | .interpolatedMark _ => Machine.interpolatedMark
  | .knockSample _ ch magnitude => fun s => s.onChan ch (Machine.Channel.sample s.now magnitude.toNat)
  | .probeEnd _ => Machine.probeEnd
  | .biasAboveThreshold _ ch => fun s => s.onChan ch Machine.Channel.levelRises
  | .biasBelowThreshold _ ch => fun s => s.onChan ch Machine.Channel.levelFalls
  | .qualificationExpiry _ ch => Machine.qualificationExpiry ch
  | .frameRejected _ chars ending => Machine.frameRejected chars ending
  | .ownStationFrame _ kind payload => fun s => s.takeFrame kind s.station payload id
  | .peerReportReceived _ st kind payload => fun s => s.takeFrame kind.kind st (Machine.payloadBytes payload) id
  | .joltReceived _ st peak hold => fun s =>
    s.takeFrame .jolt st (bytesOfWord peak ++ bytesOfWord hold) (fun s => s.takeJolt st hold.toNat)
  | .phaseReceived _ st cutMask flags => fun s =>
    s.takeFrame .phase st [cutMask, flags] (fun s => s.takePhase st (Machine.phaseContext cutMask flags))
  | .witnessReceived _ st cyl score flags => fun s =>
    s.takeFrame .witness st (cyl :: bytesOfWord score ++ [flags]) (fun s => s.takeWitness st cyl score flags)
  | .verdictReceived _ st b0 b1 score loss count => fun s =>
    s.takeFrame .verdict st (b0 :: b1 :: bytesOfWord score ++ bytesOfWord loss ++ [count])
      (fun s => s.takeVerdict st (Machine.verdictCyl b0))
  | .orderServe _ st target arg1 arg2 => fun s => s.takeOrderFrame st target 1#8 arg1 arg2
  | .orderClearCounts _ st target arg1 arg2 => fun s => s.takeOrderFrame st target 2#8 arg1 arg2
  | .orderRelearn _ st target arg1 arg2 => fun s => s.takeOrderFrame st target 3#8 arg1 arg2
  | .orderClearFaults _ st target arg1 arg2 => fun s => s.takeOrderFrame st target 4#8 arg1 arg2
  | .orderHold _ st target arg1 arg2 => fun s => s.takeOrderFrame st target 5#8 arg1 arg2
  | .orderResume _ st target arg1 arg2 => fun s => s.takeOrderFrame st target 6#8 arg1 arg2
  | .orderRestart _ st target arg1 arg2 => fun s => s.takeOrderFrame st target 7#8 arg1 arg2
  | .orderReport _ st target arg1 arg2 => fun s => s.takeOrderFrame st target 8#8 arg1 arg2
  | .orderUnknownCode _ st target code arg1 arg2 => fun s => s.takeOrderFrame st target code arg1 arg2
  | .interframeGapEnd _ => fun s => s.onLine (Machine.State.onLink Machine.Link.gapEnd)
  | .stuckLine _ => fun s => s.onLine Machine.stuckLine
  | .transmissionBegin _ => fun s => s.onLine Machine.transmissionBegin
  | .arbitrationLost _ cell => fun s => s.onLine (Machine.arbitrationLost cell)
  | .transmitClash _ cell => fun s => s.onLine (Machine.transmitClash cell)
  | .transmissionEnd _ => fun s => s.onLine Machine.transmissionEnd
  | .dwellTimerExpiry _ => fun s => s.onLine Machine.dwellTimerExpiry
  | .peerTimeoutTick _ => Machine.peerTimeoutTick
  | .shockHoldExpiry _ => Machine.State.onContext Machine.Context.holdExpires
  | .joltGuardExpiry _ => Machine.State.onContext Machine.Context.guardExpires
  | .holdOffExpiry _ => Machine.State.onAlert Machine.AlertUnit.holdOffExpires
  | .listenEnd _ => Machine.listenEnd
  | .statusTimerExpiry _ => Machine.statusTimerExpiry
  | .envelopeExceedsShockPeak _ ch envelope => fun s => s.onChan ch (Machine.Channel.envelope envelope.toNat)
  | .dominantCellBeforeGap _ => fun s => s.onLine (Machine.State.onLink Machine.Link.dominantInIdle)

end Sys2Proof

namespace Sys2Proof.Machine

/-- Every command but RESET_N_RELEASE is the passing of time, its act and the end of its event. -/
theorem exec_eq_act {c : Instr} (h : ∀ t straps, c ≠ .resetNRelease t straps) (s : State) :
    exec c s = .next (c.act (s.advance c.instant)).settle := by
  cases c with
  | resetNRelease t straps => exact absurd rfl (h t straps)
  | _ => rfl

theorem exec_reset (t : Tick) (straps : Station) (s : State) :
    exec (.resetNRelease t straps) s = .next (resetRelease t straps s) := rfl

/-- A command that is not RESET_N_RELEASE, or RESET_N_RELEASE. -/
theorem reset_or_not (c : Instr) : (∃ t straps, c = .resetNRelease t straps) ∨ ∀ t straps, c ≠ .resetNRelease t straps := by
  by_cases h : ∃ t straps, c = .resetNRelease t straps
  · exact .inl h
  · exact .inr fun t straps e => h ⟨t, straps, e⟩

theorem step_of_pending {s : State} {c : Instr} {rest : List Instr} (h : s.pending = c :: rest) :
    step s = exec c { s with pending := rest } := by
  unfold step
  rw [h]

theorem step_of_idle {s : State} (h : s.pending = []) : step s = .next s := by
  unfold step
  rw [h]

/-- An invariant that does not read the queue of commands, that holds after power-on and that time, every act and the end of an
event keep, is kept by every step. -/
theorem step_keeps {P : State → Prop} (queue : ∀ (s : State) (rest : List Instr), P s → P { s with pending := rest })
    (power : ∀ (t : Tick) (straps : Station) (s : State), P (resetRelease t straps s))
    (others : ∀ (c : Instr) (s : State), (∀ t straps, c ≠ .resetNRelease t straps) → P s →
      P (c.act (s.advance c.instant)).settle)
    {s t : State} (hs : P s) (h : step s = .next t) : P t := by
  cases hp : s.pending with
  | nil =>
    rw [step_of_idle hp] at h
    cases h
    exact hs
  | cons c rest =>
    rw [step_of_pending hp] at h
    rcases reset_or_not c with ⟨τ, straps, rfl⟩ | hc
    · cases h
      exact power τ straps _
    · rw [exec_eq_act hc] at h
      cases h
      exact others c _ hc (queue s rest hs)

/-! ## The moves -/

/-- The state without the blocks of chapters 1 to 7: Node Control, the parameters, the link, the Fault and the Alert Unit and
the model's own fields. -/
def State.control (s : State) : State :=
  { s with tracker := Tracker.powerOn, chanA := Channel.powerOn, chanB := Channel.powerOn, estimator := Estimator.empty,
           records := [], cylinders := [], markCounted := false, peers := [], context := Context.powerOn }

section Control

variable {s t : State} (h : t.control = s.control)

include h

theorem State.control_pending : t.pending = s.pending := by have e := congrArg State.pending h; exact e
theorem State.control_now : t.now = s.now := by have e := congrArg State.now h; exact e
theorem State.control_station : t.station = s.station := by have e := congrArg State.station h; exact e
theorem State.control_node : t.node = s.node := by have e := congrArg State.node h; exact e
theorem State.control_image : t.image = s.image := by have e := congrArg State.image h; exact e
theorem State.control_link : t.link = s.link := by have e := congrArg State.link h; exact e
theorem State.control_faults : t.faults = s.faults := by have e := congrArg State.faults h; exact e
theorem State.control_alert : t.alert = s.alert := by have e := congrArg State.alert h; exact e
theorem State.control_withdrawDue : t.withdrawDue = s.withdrawDue := by have e := congrArg State.withdrawDue h; exact e

end Control

/-- What events are made of. Always: occurrences, raises, reports queued and removed, the service level brought up to date, the
line evaluated, and those updates of the link and of Node Control that leave the queue and the node state as they were. Where
the parameter holds, also: updates of the blocks of chapters 1 to 7, the withdrawal at the end of an event, and the end of
the probe. -/
inductive State.MovesIn (blocksToo : Prop) : State → State → Prop
  | write {s t : State} (hb : blocksToo) (h : t.control = s.control) : State.MovesIn blocksToo s t
  | occur (s : State) (o : Occurrence) : State.MovesIn blocksToo s (s.occur o)
  | raise (s : State) (x : AlertSource) : State.MovesIn blocksToo s (s.raise x)
  | report (s : State) (k : Kind) (c : Option Nat) (payload : List Byte) :
      State.MovesIn blocksToo s (s.queueReport k c payload)
  | remove (s : State) (p : TxEntry → Bool) : State.MovesIn blocksToo s (s.removeReports p)
  | carry (s : State) (hb : blocksToo) : State.MovesIn blocksToo s s.carryWithdrawal
  | service (s : State) : State.MovesIn blocksToo s s.updateService
  | link (s : State) (f : Link → Link) (queue : (f s.link).queue = s.link.queue) (age : (f s.link).nextAge = s.link.nextAge)
      (tx : (f s.link).transmitter = s.link.transmitter ∨ (f s.link).transmitter = .idle) :
      State.MovesIn blocksToo s (s.onLink f)
  | node (s : State) (f : NodeCtl → NodeCtl) (h : (f s.node).state = s.node.state)
      (port : blocksToo ∨ (f s.node).port = s.node.port) : State.MovesIn blocksToo s (s.onNode f)
  | join (s : State) (hb : blocksToo) (h : s.node.state = .probing) :
      State.MovesIn blocksToo s (s.onNode (fun n => { n with state := .joining, probe := none }))
  | line (s : State) : State.MovesIn blocksToo s (s.onAlert (AlertUnit.assertLine s.node.state))
  | trans {s t u : State} (h : State.MovesIn blocksToo s t) (h' : State.MovesIn blocksToo t u) : State.MovesIn blocksToo s u

/-- Moves of every block. -/
abbrev State.Moves : State → State → Prop := State.MovesIn True

namespace State.MovesIn

variable {b : Prop} {s t u : State}

theorem refl (s : State) : State.MovesIn b s s := .link s id rfl rfl (.inl rfl)

/-- A move that comes after others. -/
theorem after (h' : State.MovesIn b t u) (h : State.MovesIn b s t) : State.MovesIn b s u := h.trans h'

theorem fault (s : State) (cls : FaultClass) (st : Option Station) (k c : Option Nat) :
    State.MovesIn b s (s.fault cls st k c) := .occur s _

theorem status (s : State) : State.MovesIn b s s.queueStatus := .report s _ _ _

theorem foldl {α : Type} {f : State → α → State} (h : ∀ (s : State) (a : α), State.MovesIn b s (f s a)) (l : List α)
    (s : State) : State.MovesIn b s (l.foldl f s) := by
  induction l generalizing s with
  | nil => exact refl s
  | cons a l ih => exact (h s a).trans (ih (f s a))

theorem blocks (h : t.control = s.control) : s.Moves t := .write trivial h

/-- Blocks updated after other moves. -/
theorem blocks_after (h' : u.control = t.control) (h : s.Moves t) : s.Moves u := h.trans (blocks h')

theorem onTracker {f : Tracker → Tracker} (h : s.Moves t) : s.Moves (t.onTracker f) := h.trans (blocks rfl)
theorem onChans {f : Channel → Channel} (h : s.Moves t) : s.Moves (t.onChans f) := h.trans (blocks rfl)
theorem onEstimator {f : Estimator → Estimator} (h : s.Moves t) : s.Moves (t.onEstimator f) := h.trans (blocks rfl)
theorem onRecords {f : List (Option Record) → List (Option Record)} (h : s.Moves t) : s.Moves (t.onRecords f) :=
  h.trans (blocks rfl)
theorem onCylinders {f : List CylEntry → List CylEntry} (h : s.Moves t) : s.Moves (t.onCylinders f) := h.trans (blocks rfl)
theorem onPeers {f : List PeerEntry → List PeerEntry} (h : s.Moves t) : s.Moves (t.onPeers f) := h.trans (blocks rfl)
theorem onContext {f : Context → Context} (h : s.Moves t) : s.Moves (t.onContext f) := h.trans (blocks rfl)
theorem setMarkCounted {b : Bool} (h : s.Moves t) : s.Moves (t.setMarkCounted b) := h.trans (blocks rfl)

theorem settle (s : State) : s.Moves s.settle := (carry s trivial).trans (.service _)

end State.MovesIn

theorem State.onChan_control (s : State) (ch : Chan) (f : Channel → Channel) : (s.onChan ch f).control = s.control := by
  cases ch <;> rfl

theorem State.onMasked_control (s : State) (mask : Byte) (f : CylEntry → CylEntry) :
    (s.onMasked mask f).control = s.control := by
  unfold State.onMasked
  induction allCylinders generalizing s with
  | nil => rfl
  | cons c l ih =>
    refine (ih _).trans ?_
    dsimp only
    split <;> rfl

theorem State.abortRecord_control (s : State) (c : Nat) : (s.abortRecord c).control = s.control := by
  unfold State.abortRecord
  split <;> rfl

theorem State.abortAll_control (s : State) : s.abortAll.control = s.control := by
  show (s.records.foldl State.countSlotAbort s).control = _
  generalize s.records = l
  induction l generalizing s with
  | nil => rfl
  | cons o l ih => exact (ih _).trans (by cases o <;> rfl)

theorem State.openRecord_control (s : State) (k c : Nat) : (s.openRecord k c).control = s.control := by
  unfold State.openRecord
  split
  · split <;> rfl
  · rfl

theorem State.hearPeer_control (s : State) (st : Station) (k : Kind) : (s.hearPeer st k).control = s.control := by
  unfold State.hearPeer
  split <;> rfl

theorem State.lossEvent_control (s : State) : s.lossEvent.control = s.control := s.abortAll_control

theorem State.windowOpen_control (s : State) (k c : Nat) : (s.windowOpen k c).control = s.control := by
  unfold State.windowOpen
  split <;> rfl

/-! ## The hand-offs of the Cylinder Table, the Peer Table and the closes -/

theorem State.foldVerdict_moves (s : State) (c : Nat) (v : Verdict) (a b : Option Evidence) :
    s.Moves (s.foldVerdict c v a b) := by
  have folded : s.Moves (s.onCyl c (CylEntry.foldVerdict s.params v a b)) := .blocks rfl
  unfold State.foldVerdict
  dsimp only
  split
  · exact .after (.raise _ _) folded
  · exact folded

theorem State.silencePeer_moves (s : State) (st : Station) (c : Option Nat) : s.Moves (s.silencePeer st c) := by
  have silenced : s.Moves ((s.onPeer st PeerEntry.silence).fault .peerSilent (some st) none c) :=
    .after (.fault _ _ _ _ _) (.blocks rfl)
  unfold State.silencePeer
  dsimp only
  refine MovesIn.onRecords ?_
  split
  · exact .after (.raise _ _) silenced
  · exact silenced

theorem State.missPeer_moves (c : Nat) (s : State) (st : Station) : s.Moves (State.missPeer c s st) := by
  unfold State.missPeer
  dsimp only
  split
  · split
    · exact s.silencePeer_moves _ _
    · exact .blocks rfl
  · exact .refl s

theorem State.absentPeer_moves (c : Nat) (s : State) (st : Station) : s.Moves (State.absentPeer c s st) := by
  unfold State.absentPeer
  split
  · exact s.silencePeer_moves _ _
  · exact .refl s

theorem State.accountWitnesses_moves (s : State) (r : Record) : s.Moves (s.accountWitnesses r) :=
  .after (.foldl (State.absentPeer_moves r.cyl) _ _)
    (.after (.foldl (State.missPeer_moves r.cyl) _ _)
      (.foldl (f := fun s st => s.onPeer st (PeerEntry.onTime s.params)) (fun _ _ => .blocks rfl) _ s))

theorem State.closeRecord_moves (s : State) (r : Record) : s.Moves (s.closeRecord r) := by
  have folded : s.Moves ((s.queueReport .verdict (some r.cyl) (r.verdictReport s.params)).foldVerdict r.cyl
      (r.verdict s.params) r.evidenceA r.evidenceB) := .after (State.foldVerdict_moves _ _ _ _ _) (.report _ _ _ _)
  unfold State.closeRecord
  dsimp only
  refine MovesIn.onRecords (.after (State.accountWitnesses_moves _ r) ?_)
  split
  · exact .after (.raise _ _) folded
  · exact folded

theorem State.closeComplete_moves (s : State) : s.Moves s.closeComplete :=
  State.closeReady_keeps (fun t => s.Moves t) (fun t h => h.trans (.settle t))
    (fun t r h => h.trans (t.closeRecord_moves r)) 8 s (.refl s)

theorem State.deadlineMark_moves (s : State) (k : Nat) : s.Moves (s.deadlineMark k) := by
  unfold State.deadlineMark
  split
  · exact (s.closeRecord_moves _).trans (State.closeComplete_moves _)
  · exact .refl s

theorem State.recordWindow_moves (s : State) (c : Nat) (a b : ChanResult) : s.Moves (s.recordWindow c a b) :=
  .after (State.closeComplete_moves _) (.blocks rfl)

theorem State.recordSegment_moves (s : State) (c : Nat) (loss : Option Int) (band : Nat) :
    s.Moves (s.recordSegment c loss band) :=
  .after (State.closeComplete_moves _) (.blocks rfl)

theorem State.timeoutPeer_moves (s : State) (st : Station) : s.Moves (s.timeoutPeer st) := by
  unfold State.timeoutPeer
  split
  · exact s.silencePeer_moves _ _
  · exact .refl s

theorem State.timeoutPeers_moves (s : State) : s.Moves s.timeoutPeers :=
  .after (State.closeComplete_moves _) (.foldl State.timeoutPeer_moves _ s)

theorem State.lateWitness_moves (s : State) (st : Station) (c : Nat) : s.Moves (s.lateWitness st c) :=
  MovesIn.onPeers (.fault _ _ _ _ _)

theorem State.placeWitness_moves (s : State) (st : Station) (c score weight : Nat) (learning : Bool) :
    s.Moves (s.placeWitness st c score weight learning) := by
  unfold State.placeWitness
  split
  · split
    · exact s.lateWitness_moves st c
    · split
      · exact s.lateWitness_moves st c
      · split
        · exact .fault _ _ _ _ _
        · exact .after (State.closeComplete_moves _) (.blocks rfl)
  · exact .refl s

/-! ## The marks -/

theorem State.raiseWhen_moves (b : Bool) (x : AlertSource) (s : State) : s.Moves (s.raiseWhen b x) := by
  cases b
  · exact .refl s
  · exact .raise s x

theorem State.judgedBlock_moves (s : State) (c : Nat) : s.Moves (s.judgedBlock c) :=
  .after (State.raiseWhen_moves _ _ _) (.after (State.raiseWhen_moves _ _ _) (.blocks rfl))

theorem State.endBlock_moves (s : State) (c : Nat) : s.Moves (s.endBlock c) := by
  rw [State.endBlock_eq]
  exact MovesIn.onCylinders (.after (.report _ _ _ _) (s.judgedBlock_moves c))

theorem State.countCycle_moves (s : State) (c : Nat) : s.Moves (s.countCycle c) := by
  unfold State.countCycle
  split
  · refine MovesIn.onCylinders ?_
    split
    · exact s.endBlock_moves c
    · exact .refl s
  · exact .refl s

theorem State.takeOverIfDue_moves (s : State) (c : Nat) : s.Moves (s.takeOverIfDue c) := by
  unfold State.takeOverIfDue
  split
  · exact .after (.raise _ _) (.blocks rfl)
  · exact .refl s

theorem State.countSilences_moves (s : State) : s.Moves s.countSilences :=
  .after (.foldl State.takeOverIfDue_moves _ _) (.blocks rfl)

theorem State.cylinderCycleMark_moves (s : State) : s.Moves s.cylinderCycleMark := by
  unfold State.cylinderCycleMark
  split
  · exact .after (.foldl State.countCycle_moves _ _) (.after (State.countSilences_moves _) (.blocks rfl))
  · exact .blocks rfl

theorem State.contextCycleMark_moves (s : State) : s.Moves s.contextCycleMark := by
  unfold State.contextCycleMark
  dsimp only
  split
  · exact .after (.fault _ _ _ _ _) (.blocks rfl)
  · exact .blocks rfl

theorem State.cycleMark_moves (s : State) : s.Moves s.cycleMark :=
  .after (State.cylinderCycleMark_moves _) (.after (State.contextCycleMark_moves _) (.blocks rfl))

theorem State.firingMark_moves (s : State) (k : Nat) : s.Moves (s.firingMark k) :=
  .blocks_after (State.openRecord_control _ _ _) (.remove s _)

theorem State.extendHold_control (s : State) (d : Nat) (cause : HoldCause) : (s.extendHold d cause).control = s.control := by
  unfold State.extendHold
  split
  · rfl
  · split <;> rfl

theorem State.considerJolt_moves (s : State) (peak : Nat) : s.Moves (s.considerJolt peak) := by
  unfold State.considerJolt
  split
  · exact MovesIn.onContext (.report _ _ _ _)
  · exact .refl s

theorem State.takePeak_moves (s : State) (peak : Nat) : s.Moves (s.takePeak peak) := by
  unfold State.takePeak
  split
  · exact .after (State.considerJolt_moves _ _) (.blocks (State.extendHold_control _ _ _))
  · exact .refl s

theorem State.boundaryPeak_moves (s : State) : s.Moves s.boundaryPeak := by
  unfold State.boundaryPeak
  split
  · exact .after (State.takePeak_moves _ _) (.blocks rfl)
  · exact .refl s

theorem State.takePeriod_moves (s : State) (p : Nat) (pos : Option Nat) : s.Moves (s.takePeriod p pos) := by
  cases pos with
  | none => exact .blocks rfl
  | some k => exact .after (State.recordSegment_moves _ _ _ _) (.blocks rfl)

theorem State.boundary_moves (s : State) (ended : Option Nat) (order : BoundaryOrder) : s.Moves (s.boundary ended order) := by
  unfold State.boundary
  dsimp only
  split
  · cases order with
    | segmentEndFirst => exact .after (State.boundaryPeak_moves _) (.after (State.takePeriod_moves _ _ _) (.blocks rfl))
    | peakFirst => exact .after (State.takePeriod_moves _ _ _) (.after (State.boundaryPeak_moves _) (.blocks rfl))
  · exact .after (State.boundaryPeak_moves _) (.blocks rfl)

theorem State.reportClip_moves (s : State) (c : Nat) (r : ChanResult) : s.Moves (s.reportClip c r) := by
  unfold State.reportClip
  split
  · exact .fault _ _ _ _ _
  · exact .refl s

theorem State.produceWitness_moves (s : State) (c : Nat) (a b : ChanResult) : s.Moves (s.produceWitness c a b) := by
  have queued : s.Moves (if 1 ≤ localWeight a b then s.queueReport .witness (some c)
      (witnessPayload c (localScore a b) (localWeight a b) (localLearning a b)) else s) := by
    split
    · exact .report _ _ _ _
    · exact .refl s
  unfold State.produceWitness
  dsimp only
  split
  · split
    · exact MovesIn.onCylinders queued
    · exact queued
  · exact .refl s

theorem State.windowClose_moves (s : State) (k c : Nat) : s.Moves (s.windowClose k c) := by
  have clipped : s.Moves (((s.onChans Channel.abandon).reportClip c (s.windowResult .a k c)).reportClip c
      (s.windowResult .b k c)) :=
    .after (State.reportClip_moves _ _ _) (.after (State.reportClip_moves _ _ _) (.blocks rfl))
  unfold State.windowClose
  dsimp only
  split
  · split
    · exact .after (State.recordWindow_moves _ _ _ _) clipped
    · exact .after (State.produceWitness_moves _ _ _ _) clipped
  · exact .refl s

theorem State.camMismatch_moves (s : State) : s.Moves s.camMismatch := by
  have dropped : s.Moves ((s.fault .camMismatch).onTracker Tracker.dropPhase) := MovesIn.onTracker (.fault _ _ _ _ _)
  unfold State.camMismatch
  dsimp only
  refine .blocks_after (State.lossEvent_control _) ?_
  split
  · exact MovesIn.onEstimator (MovesIn.onTracker dropped)
  · exact dropped

theorem State.camWindowEnd_moves (s : State) : s.Moves s.camWindowEnd := by
  unfold State.camWindowEnd
  split
  · exact .blocks rfl
  · split
    · exact .blocks rfl
    · exact s.camMismatch_moves

theorem State.deliverMark_moves (s : State) (m : PendingMark) (order : BoundaryOrder) : s.Moves (s.deliverMark m order) := by
  unfold State.deliverMark
  cases m.kind with
  | cycle => exact s.cycleMark_moves
  | firing => exact s.firingMark_moves _
  | segment => exact s.boundary_moves _ _
  | windowOpen => exact .blocks (s.windowOpen_control _ _)
  | windowClose => exact s.windowClose_moves _ _
  | camWindowEnd => exact s.camWindowEnd_moves
  | deadline => exact s.deadlineMark_moves _

theorem State.issueMark_moves (s : State) (m : PendingMark) (rest : List PendingMark) (order : BoundaryOrder) :
    s.Moves (s.issueMark m rest order) :=
  .after (.settle _) (.after (State.deliverMark_moves _ m order) (.blocks rfl))

theorem State.issueMarks_moves (fuel : Nat) (order : BoundaryOrder) (s : State) : s.Moves (s.issueMarks fuel order) := by
  induction fuel generalizing s with
  | zero => exact .refl s
  | succ n ih =>
    unfold State.issueMarks
    split
    · split
      · exact (s.issueMark_moves _ _ _).trans (ih _)
      · exact .refl s
    · exact .refl s

theorem State.issueDue_moves (s : State) (order : BoundaryOrder) : s.Moves (s.issueDue order) :=
  State.issueMarks_moves _ order s

/-! ## The engine inputs and the knock inputs -/

theorem State.lockedBoundary_moves (s : State) (order : BoundaryOrder) : s.Moves (s.lockedBoundary order) := by
  unfold State.lockedBoundary
  split
  · exact s.boundary_moves _ _
  · exact .refl s

theorem State.toothCountError_moves (s : State) (candidate : Bool) (lost : Occurrence) :
    s.Moves (s.toothCountError candidate lost) := by
  unfold State.toothCountError
  dsimp only
  split
  · exact .blocks_after (State.lossEvent_control _) (MovesIn.onEstimator (MovesIn.onTracker (MovesIn.onTracker (.occur s lost))))
  · exact MovesIn.onEstimator (MovesIn.onTracker (MovesIn.onTracker (.occur s lost)))

theorem State.takeTooth_moves (s : State) (order : BoundaryOrder) : s.Moves (s.takeTooth order) := by
  have measured : s.Moves (s.onTracker (Tracker.measure s.now)) := .blocks rfl
  unfold State.takeTooth
  dsimp only
  refine MovesIn.onTracker ?_
  split
  · exact .after (State.lockedBoundary_moves _ _) measured.onTracker
  · split
    · exact .after (State.lockedBoundary_moves _ _) measured.onTracker
    · exact .after (State.toothCountError_moves _ _ _) measured
  · split
    · unfold State.boundaryAfterDrop
      have issued := MovesIn.after (State.issueDue_moves _ order) (measured.onTracker (f := Tracker.acceptPhased s.params))
      split
      · exact issued
      · exact .after (State.lockedBoundary_moves _ _) issued
    · exact .after (State.toothCountError_moves _ _ _) measured
  · exact measured

theorem toothEdge_moves (order : BoundaryOrder) (s : State) : s.Moves (toothEdge order s) := by
  unfold toothEdge
  split
  · split
    · exact .blocks rfl
    · exact s.takeTooth_moves order
  · exact .refl s

theorem stall_control (s : State) : (stall s).control = s.control := by
  unfold stall
  split
  · split
    · rfl
    · exact State.lossEvent_control _
    · rfl
  · rfl

theorem camEdge_moves (s : State) : s.Moves (camEdge s) := by
  unfold camEdge
  dsimp only
  split
  · split
    · exact .blocks rfl
    · split
      · exact .blocks rfl
      · exact .refl s
  · split
    · exact .blocks rfl
    · exact s.camMismatch_moves
  · exact .refl s

theorem interpolatedMark_moves (s : State) : s.Moves (interpolatedMark s) := by
  unfold interpolatedMark
  split
  · exact s.issueDue_moves _
  · exact .refl s

theorem qualificationExpiry_moves (ch : Chan) (s : State) : s.Moves (qualificationExpiry ch s) := by
  unfold qualificationExpiry
  split
  · exact .after (.fault _ _ _ _ _) (.blocks (s.onChan_control ch _))
  · exact .refl s

theorem State.startListen_moves {b : Prop} (s : State) : State.MovesIn b s s.startListen := by
  unfold State.startListen
  split
  · exact .node s _ rfl (.inr rfl)
  · exact .refl s

theorem State.judgeChannel_moves (s : State) (ch : Chan) : s.Moves (s.judgeChannel ch) := by
  have judged : s.Moves (s.onChan ch Channel.judgeProbe) := .blocks (s.onChan_control ch _)
  unfold State.judgeChannel
  dsimp only
  split
  · exact .after (.fault _ _ _ _ _) judged
  · exact judged

end Sys2Proof.Machine

/-! # What a command can do: frames, the line, orders and start-up -/

namespace Sys2Proof.Machine

/-! ## Frames and the line -/

theorem State.frameRead_moves {b : Prop} (s : State) (cells : List Bool) (r : Receiver) : State.MovesIn b s (s.frameRead cells r) := by
  obtain ⟨d, n, h⟩ := Link.readFrame_keeps cells s.link
  unfold State.frameRead
  exact .link s _ (by rw [h]) (by rw [h]) (.inl (by rw [h]))

theorem Link.goodFrame_keeps (l : Link) :
    l.goodFrame.queue = l.queue ∧ l.goodFrame.nextAge = l.nextAge ∧ l.goodFrame.transmitter = l.transmitter := by
  unfold Link.goodFrame
  split
  · exact ⟨rfl, rfl, rfl⟩
  · exact ⟨rfl, rfl, rfl⟩
  · split <;> exact ⟨rfl, rfl, rfl⟩
  · exact ⟨rfl, rfl, rfl⟩

theorem State.goodFrame_moves {b : Prop} (s : State) : State.MovesIn b s s.goodFrame := by
  obtain ⟨hq, ha, ht⟩ := s.link.goodFrame_keeps
  exact .after (State.startListen_moves _) (.link s _ hq ha (.inl ht))

theorem State.heardFrame_moves (s : State) (k : Kind) (st : Station) (payload : List Byte) :
    s.Moves (s.heardFrame k st payload) :=
  .blocks_after (State.hearPeer_control _ _ _) (.after (State.goodFrame_moves _) (s.frameRead_moves _ _))

theorem Link.passFrame_moves {b : Prop} (s : State) (cells : List Bool) : State.MovesIn b s (s.onLink (Link.passFrame cells)) := by
  obtain ⟨d, n, h⟩ := Link.readCells_keeps cells s.link
  exact .link s _ (by unfold Link.passFrame; rw [h]) (by unfold Link.passFrame; rw [h])
    (.inl (by unfold Link.passFrame; rw [h]))

theorem State.receive_moves {b : Prop} {s : State} {cells : List Bool} {take : State → State}
    (h : State.MovesIn b s (take s)) : State.MovesIn b s (s.receive cells take) := by
  unfold State.receive
  split
  · exact .refl s
  · split
    · exact h
    · split
      · exact Link.passFrame_moves s cells
      · exact .refl s

theorem State.checkFault_moves {b : Prop} (s : State) (cls : FaultClass) (header : Option Byte) : State.MovesIn b s (s.checkFault cls header) := by
  unfold State.checkFault
  split
  · exact .fault _ _ _ _ _
  · exact .refl s

theorem State.loseRate_moves {b : Prop} (s : State) : State.MovesIn b s s.loseRate := by
  have lost : State.MovesIn b s ((s.fault .rateLost).onLink (fun l => { l with failures := 0 })) :=
    .after (.link _ _ rfl rfl (.inl rfl)) (.fault _ _ _ _ _)
  unfold State.loseRate
  dsimp only
  split
  · exact .after (.node _ _ rfl (.inr rfl)) (.after (.link _ _ rfl rfl (.inl rfl)) lost)
  · exact lost

theorem State.failingFrame_moves {b : Prop} (s : State) : State.MovesIn b s s.failingFrame := by
  unfold State.failingFrame
  split
  · split
    · exact s.loseRate_moves
    · exact .link _ _ rfl rfl (.inl rfl)
  · exact .link _ _ rfl rfl (.inl rfl)
  · exact .refl s

theorem State.judgeTaken_moves {b : Prop} (s : State) (chars : List Byte) (ending : FrameEnd) : State.MovesIn b s (s.judgeTaken chars ending) := by
  unfold State.judgeTaken
  dsimp only
  split
  · exact .after (State.failingFrame_moves _) (.after (State.checkFault_moves _ _ _) (s.frameRead_moves _ _))
  · exact .after (.fault _ _ _ _ _) (s.frameRead_moves _ _)
  · exact .after (State.failingFrame_moves _) (.after (State.checkFault_moves _ _ _) (s.frameRead_moves _ _))
  · exact .after (State.goodFrame_moves _) (.after (.fault _ _ _ _ _) (s.frameRead_moves _ _))
  · exact .refl s

/-- A frame command does what its block does with the heard frame, or it is a run of moves. -/
theorem State.takeFrame_cases {b : Prop} (s : State) (k : Kind) (st : Station) (payload : List Byte) (act : State → State) :
    State.MovesIn b s (s.takeFrame k st payload act)
      ∨ (s.Hears st ∧ s.takeFrame k st payload act = act (s.heardFrame k st payload)) := by
  by_cases hn : s.node.state = .loading
  · refine .inl ?_
    unfold State.takeFrame
    dsimp only
    rw [State.receive_loading _ _ hn]
    exact .refl s
  · by_cases ht : s.link.takesFrame = true
    · unfold State.takeFrame
      dsimp only
      rw [State.receive_taken _ _ hn ht]
      by_cases hst : st = s.station
      · rw [if_pos hst]
        exact .inl (.after (.fault _ _ _ _ _) (.after (State.goodFrame_moves _) (s.frameRead_moves _ _)))
      · rw [if_neg hst]
        exact .inr ⟨⟨hn, ht, hst⟩, rfl⟩
    · refine .inl ?_
      unfold State.takeFrame State.receive
      dsimp only
      rw [if_neg hn, if_neg ht]
      split
      · exact Link.passFrame_moves s _
      · exact .refl s

theorem State.takeFrame_moves (s : State) (k : Kind) (st : Station) (payload : List Byte) {act : State → State}
    (h : ∀ u : State, u.Moves (act u)) : s.Moves (s.takeFrame k st payload act) := by
  rcases s.takeFrame_cases k st payload act with hm | ⟨-, he⟩
  · exact hm
  · rw [he]
    exact (s.heardFrame_moves k st payload).trans (h _)

theorem State.takeJolt_control (s : State) (st : Station) (holdMs : Nat) : (s.takeJolt st holdMs).control = s.control := by
  unfold State.takeJolt
  split
  · exact State.extendHold_control _ _ _
  · rfl

theorem State.takePhase_control (s : State) (st : Station) (ctx : EngineContext) : (s.takePhase st ctx).control = s.control := by
  unfold State.takePhase
  split <;> rfl

theorem State.takeWitness_moves (s : State) (st : Station) (cyl : Byte) (score : BitVec 16) (flags : Byte) :
    s.Moves (s.takeWitness st cyl score flags) := by
  unfold State.takeWitness
  split
  · split
    · exact s.placeWitness_moves _ _ _ _ _
    · exact .fault _ _ _ _ _
  · exact .refl s

theorem State.yieldCylinder_moves (s : State) (c : Nat) : s.Moves (s.yieldCylinder c) :=
  .after (.raise _ _) (MovesIn.onCylinders (.after (.remove _ _) (.blocks (s.abortRecord_control c))))

theorem State.resolveConflict_moves (s : State) (st : Station) (c : Nat) : s.Moves (s.resolveConflict st c) := by
  unfold State.resolveConflict
  dsimp only
  split
  · exact .after (State.yieldCylinder_moves _ _) (.fault _ _ _ _ _)
  · exact .fault _ _ _ _ _

theorem State.takeVerdict_moves (s : State) (st : Station) (c : Nat) : s.Moves (s.takeVerdict st c) := by
  unfold State.takeVerdict
  split
  · split
    · dsimp only
      split
      · exact .after (State.resolveConflict_moves _ _ _) (.blocks rfl)
      · exact .blocks rfl
    · exact .fault _ _ _ _ _
  · exact .refl s

theorem State.onLine_moves {b : Prop} {s : State} {f : State → State} (h : State.MovesIn b s (f s)) :
    State.MovesIn b s (s.onLine f) := by
  unfold State.onLine
  split
  · exact .refl s
  · exact h

theorem stuckLine_moves {b : Prop} (s : State) : State.MovesIn b s (stuckLine s) := by
  unfold stuckLine
  split
  · exact .link _ _ rfl rfl (.inl rfl)
  · exact .after (.fault _ _ _ _ _) (.link _ _ rfl rfl (.inl rfl))

theorem Link.dominantInIdle_moves {b : Prop} (s : State) : State.MovesIn b s (s.onLink Link.dominantInIdle) := by
  have kept : s.link.dominantInIdle.queue = s.link.queue ∧ s.link.dominantInIdle.nextAge = s.link.nextAge
      ∧ s.link.dominantInIdle.transmitter = s.link.transmitter := by
    unfold Link.dominantInIdle
    split <;> exact ⟨rfl, rfl, rfl⟩
  exact .link s _ kept.1 kept.2.1 (.inl kept.2.2)

theorem State.clashAt_moves {b : Prop} (s : State) (e : TxEntry) (cell : Nat) : State.MovesIn b s (s.clashAt e cell) := by
  obtain ⟨d, n, h⟩ := Link.readFrame_keeps (mismatchCells (s.ownFrame e) cell) s.link
  unfold State.clashAt
  split
  · exact .after (.fault _ _ _ _ _) (.link s _ (by rw [h]) (by rw [h]) (.inr rfl))
  · exact .refl s

theorem transmitClash_moves {b : Prop} (cell : Nat) (s : State) : State.MovesIn b s (transmitClash cell s) := by
  unfold transmitClash
  split
  · exact s.clashAt_moves _ _
  · exact s.clashAt_moves _ _
  · exact .refl s

theorem State.endOwnFrame_moves {b : Prop} (s : State) (e : TxEntry) : State.MovesIn b s (s.endOwnFrame e) := by
  obtain ⟨d, n, h⟩ := Link.readFrame_keeps (frameCells (s.ownFrame e)) s.link
  exact .after (State.goodFrame_moves _) (.link s _ (by rw [h]) (by rw [h]) (.inr rfl))

theorem transmissionEnd_moves {b : Prop} (s : State) : State.MovesIn b s (transmissionEnd s) := by
  unfold transmissionEnd
  split
  · exact s.endOwnFrame_moves _
  · exact s.endOwnFrame_moves _
  · exact .refl s

theorem Link.dwellInHunt_keeps (l : Link) : l.dwellInHunt.queue = l.queue ∧ l.dwellInHunt.nextAge = l.nextAge
    ∧ l.dwellInHunt.transmitter = l.transmitter := by
  unfold Link.dwellInHunt
  split
  · split <;> exact ⟨rfl, rfl, rfl⟩
  · exact ⟨rfl, rfl, rfl⟩

theorem dwellTimerExpiry_moves {b : Prop} (s : State) : State.MovesIn b s (dwellTimerExpiry s) := by
  obtain ⟨hq, ha, ht⟩ := s.link.dwellInHunt_keeps
  unfold dwellTimerExpiry
  split
  · split
    · exact .after (State.startListen_moves _) (.link s _ hq ha (.inl ht))
    · exact .link _ _ rfl rfl (.inl rfl)
    · exact .refl s
  · exact .refl s

theorem peerTimeoutTick_moves (s : State) : s.Moves (peerTimeoutTick s) := by
  unfold peerTimeoutTick
  split
  · exact s.timeoutPeers_moves
  · exact .refl s

theorem statusTimerExpiry_moves {b : Prop} (s : State) : State.MovesIn b s (statusTimerExpiry s) := by
  unfold statusTimerExpiry
  split
  · exact .after (.node _ _ rfl (.inr rfl)) (.status s)
  · exact .refl s

theorem configRetry_moves (s : State) : s.Moves (configRetry s) := by
  unfold configRetry
  split
  · split
    · exact .node _ _ rfl (.inl trivial)
    · exact .refl s
  · exact .refl s

theorem probeEnd_moves (s : State) : s.Moves (probeEnd s) := by
  unfold probeEnd
  split
  · next h =>
    have judged : s.Moves ((s.judgeChannel .a).judgeChannel .b) :=
      .after (State.judgeChannel_moves _ _) (s.judgeChannel_moves _)
    have body : ∀ (u : State) (ch : Chan), (u.judgeChannel ch).node.state = u.node.state := by
      intro u ch
      unfold State.judgeChannel
      dsimp only
      split
      · rw [State.body_node (State.fault_body _ _ _ _ _), State.onChan_node]
      · rw [State.onChan_node]
    exact .after (State.startListen_moves _) (.after (.join _ trivial (by rw [body, body]; exact h.1)) judged)
  · exact .refl s

theorem State.startListen_keeps (s : State) : s.startListen.node.state = s.node.state ∧ s.startListen.node.port = s.node.port
    ∧ s.startListen.faults = s.faults ∧ s.startListen.alert = s.alert ∧ s.startListen.image = s.image
    ∧ s.startListen.withdrawDue = s.withdrawDue ∧ s.startListen.link = s.link := by
  unfold State.startListen
  split <;> exact ⟨rfl, rfl, rfl, rfl, rfl, rfl, rfl⟩

/-- What hearing a frame leaves as it was. -/
theorem State.heardFrame_keeps (s : State) (k : Kind) (st : Station) (payload : List Byte) :
    (s.heardFrame k st payload).node.state = s.node.state ∧ (s.heardFrame k st payload).node.port = s.node.port
      ∧ (s.heardFrame k st payload).faults = s.faults ∧ (s.heardFrame k st payload).alert = s.alert
      ∧ (s.heardFrame k st payload).image = s.image ∧ (s.heardFrame k st payload).withdrawDue = s.withdrawDue := by
  have h := State.hearPeer_control ((s.frameRead (frameCells (frameChars k st payload)) .idle).goodFrame) st k
  obtain ⟨hn, hp, hf, ha, hi, hw, -⟩ :=
    State.startListen_keeps ((s.frameRead (frameCells (frameChars k st payload)) .idle).onLink Link.goodFrame)
  unfold State.heardFrame
  rw [State.control_node h, State.control_faults h, State.control_alert h, State.control_image h, State.control_withdrawDue h]
  exact ⟨hn, hp, hf, ha, hi, hw⟩

/-! ## The start of RUNNING, of UNCONFIGURED, and a lost arbitration, each with the moves that end it -/

/-- The node as it stands in UNCONFIGURED before its reports are queued. -/
def State.unconfigured (s : State) : State :=
  (s.onNode (fun n => { n with
    state := .unconfigured, port := .idle, statusTimer := some (msTicks Config.unconfiguredStatusMs) })).onLink
      (Link.startAcquire .k500)

theorem State.enterUnconfigured_eq (s : State) :
    s.enterUnconfigured
      = (s.unconfigured.queueStatus.updateService.onAlert (AlertUnit.assertLine .unconfigured)).fault .configInvalid := rfl

theorem State.unconfigured_served_node (s : State) : s.unconfigured.queueStatus.updateService.node = s.unconfigured.node := by
  rw [State.body_node (State.updateService_body _), State.body_node (State.queueStatus_body _)]

theorem State.unconfigured_moves {b : Prop} (s : State) : State.MovesIn b s.unconfigured s.enterUnconfigured := by
  have line := State.MovesIn.line (blocksToo := b) s.unconfigured.queueStatus.updateService
  rw [State.unconfigured_served_node] at line
  rw [State.enterUnconfigured_eq]
  exact (((MovesIn.status _).trans (.service _)).trans line).trans (.fault _ _ _ _ _)

/-- The node as it stands in RUNNING before its STATUS is queued. -/
def State.listenEnded (s : State) : State :=
  s.onNode (fun n => { n with state := .running, listen := none, statusTimer := some (msTicks s.params.statusMs) })

theorem State.enterRunning_eq (s : State) :
    s.enterRunning = s.listenEnded.queueStatus.onAlert (AlertUnit.assertLine .running) := rfl

theorem State.listenEnded_moves {b : Prop} (s : State) : State.MovesIn b s.listenEnded s.enterRunning := by
  have line := State.MovesIn.line (blocksToo := b) s.listenEnded.queueStatus
  rw [State.body_node (State.queueStatus_body _)] at line
  rw [State.enterRunning_eq]
  exact (MovesIn.status _).trans line

/-- The queue with an entry put back into it, before the occurrences that this passes (R140). -/
def State.reinserted (s : State) (e : TxEntry) : State :=
  s.onLink (fun l => { l with
    queue := (putEntry (if e.kind = .status then { e with payload := [] } else e) s.link.queue).1 })

theorem State.reinserted_moves {b : Prop} (s : State) (e : TxEntry) : State.MovesIn b (s.reinserted e) (s.reinsert e) :=
  .foldl (fun _ o => .occur _ o) (s.overflowOf (putEntry (if e.kind = .status then { e with payload := [] } else e)
    s.link.queue).2) (s.reinserted e)

theorem State.reinserted_body (s : State) (e : TxEntry) : (s.reinsert e).body = (s.reinserted e).body :=
  foldl_body _ State.occur_body (s.overflowOf (putEntry (if e.kind = .status then { e with payload := [] } else e)
    s.link.queue).2) (s.reinserted e)

/-- The link once an arbitration has been lost, before the entry goes back. -/
def State.lost (s : State) (cells : List Bool) : State :=
  s.onLink (fun l => { l.readFrame cells with transmitter := .idle })

/-! ## The turns -/

/-- The command carries the order `o`, or it is ill formed. -/
def OrderCode.CarriedBy (o : OrderCode) (c : Instr) : Prop :=
  (∃ t st target a1 a2, c = o.command t st target a1 a2) ∨ WellFormed c = false

/-- The acts that are not mere moves: those that change the node state, the parameters, the Fault Unit's or the Alert Unit's
fields otherwise than by an occurrence or a raise, or the entry under way. -/
inductive State.Turns (c : Instr) : State → State → Prop
  | accept (s : State) (t : Tick) (bytes : List Byte) (second : Bool) (im : Image) (hc : c = .configReadDone t bytes)
      (hp : s.node.port = .reading second) (hj : judgeRead bytes s.station = some im) : State.Turns c s (s.acceptImage im)
  | unconfigure (s : State) (t : Tick) (bytes : List Byte) (hc : c = .configReadDone t bytes)
      (hp : s.node.port = .reading true) : State.Turns c s s.enterUnconfigured
  | run (s : State) (t : Tick) (hc : c = .listenEnd t) (hn : s.node.state = .joining) : State.Turns c s s.enterRunning
  | begin (s : State) (t : Tick) (e : TxEntry) (contents : List Byte) (hc : c = .transmissionBegin t)
      (hb : s.link.mayBegin = true) (he : e ∈ s.link.queue) (hk : s.node.state.permits e.kind = true)
      (hp : e.kind ≠ .status → contents = e.payload) : State.Turns c s (s.onLink (Link.begin e contents))
  | lose (s : State) (e : TxEntry) (left : Nat) (cells : List Bool) (ht : s.link.transmitter = .arbitrating e false left) :
      State.Turns c s ((s.lost cells).reinsert e)
  | holdOff (s : State) : State.Turns c s (s.onAlert AlertUnit.holdOffExpires)
  | serve (s : State) (seq : BitVec 8) (set : Byte) (holdOff : Nat) (ho : OrderCode.serve.CarriedBy c)
      (hn : s.node.state.configured = true) : State.Turns c s (s.onAlert (AlertUnit.serve seq set holdOff))
  | clear (s : State) (ho : OrderCode.clearFaults.CarriedBy c) (hn : s.node.state ≠ .loading) : State.Turns c s s.clearFaults
  | hold (s : State) (ho : OrderCode.hold.CarriedBy c) (hn : s.node.state = .running) : State.Turns c s s.enterHold
  | resume (s : State) (ho : OrderCode.resume.CarriedBy c) (hn : s.node.state = .hold) :
      State.Turns c s (s.onNode (fun n => { n with state := .running }))
  | restart (s : State) (ho : OrderCode.restart.CarriedBy c) (hn : s.node.state.configured = true) : State.Turns c s s.restart

/-- A turn comes at once, or the frame that carries its order is heard first. -/
def State.Prelude (c : Instr) (s u : State) : Prop :=
  u = s ∨ ∃ (o : OrderCode) (k : Kind) (st : Station) (payload : List Byte), o.CarriedBy c ∧ u = s.heardFrame k st payload

/-- What an act is: a run of moves, or a turn after its prelude. -/
def Instr.Acts (c : Instr) (s t : State) : Prop := s.Moves t ∨ ∃ u, State.Prelude c s u ∧ State.Turns c u t

theorem State.report_moves {b : Prop} (s : State) (st : Station) (selector : Nat) : State.MovesIn b s (s.report st selector) := by
  unfold State.report
  split
  · exact .report _ _ _ _
  · split
    · exact .report _ _ _ _
    · exact .fault _ _ _ _ _

/-- An accepted order turns the node or is a run of moves. -/
theorem State.actOn_acts {c : Instr} {o : OrderCode} (s : State) (st : Station) (a1 a2 : Byte) (ho : o.CarriedBy c)
    (h : o.acceptedIn s.node.state = true) : s.Moves (s.actOn o st a1 a2) ∨ State.Turns c s (s.actOn o st a1 a2) := by
  cases o with
  | serve => exact .inr (.serve s a1 a2 _ ho h)
  | clearCounts => exact .inl (.blocks (s.onMasked_control _ _))
  | relearn => exact .inl (MovesIn.onRecords (.blocks (s.onMasked_control _ _)))
  | clearFaults => exact .inr (.clear s ho (by simpa [OrderCode.acceptedIn] using h))
  | hold => exact .inr (.hold s ho (by simpa [OrderCode.acceptedIn] using h))
  | resume => exact .inr (.resume s ho (by simpa [OrderCode.acceptedIn] using h))
  | restart => exact .inr (.restart s ho h)
  | report => exact .inl (s.report_moves _ _)

theorem State.takeOrder_acts {c : Instr} (s : State) (st : Station) (target : Byte) (code : Nat) (a1 a2 : Byte)
    (hc : ∀ o, orderOfCode code = some o → o.CarriedBy c) :
    s.Moves (s.takeOrder st target code a1 a2)
      ∨ ((∃ o : OrderCode, o.CarriedBy c) ∧ State.Turns c s (s.takeOrder st target code a1 a2)) := by
  unfold State.takeOrder
  split
  · split
    · split
      · next o ho =>
        split
        · next h => exact (s.actOn_acts st a1 a2 (hc o ho) h).imp_right fun ht => ⟨⟨o, hc o ho⟩, ht⟩
        · exact .inl (.refl s)
      · exact .inl (.fault _ _ _ _ _)
    · exact .inl (.fault _ _ _ _ _)
  · exact .inl (.refl s)

theorem State.takeOrderFrame_acts {c : Instr} (s : State) (st : Station) (target code a1 a2 : Byte)
    (hc : ∀ o, orderOfCode code.toNat = some o → o.CarriedBy c) :
    Instr.Acts c s (s.takeOrderFrame st target code a1 a2) := by
  rcases s.takeFrame_cases .order st [target, code, a1, a2] (fun s => s.takeOrder st target code.toNat a1 a2) with
    hm | ⟨-, he⟩
  · exact .inl hm
  · rw [State.takeOrderFrame, he]
    refine (State.takeOrder_acts _ st target code.toNat a1 a2 hc).imp (s.heardFrame_moves _ _ _).trans ?_
    rintro ⟨⟨o, ho⟩, h⟩
    exact ⟨_, .inr ⟨o, _, _, _, ho, rfl⟩, h⟩

/-- The code of an order's command names the order. -/
theorem OrderCode.carriedBy_command {o o' : OrderCode} {code : Nat} {c : Instr} (ho' : orderOfCode code = some o')
    (hcode : orderOfCode code = some o) (hc : ∃ t st target a1 a2, c = o.command t st target a1 a2) : o'.CarriedBy c := by
  cases hcode.symm.trans ho'
  exact .inl hc

/-- A known code in an ORDER_UNKNOWN_CODE is ill formed. -/
theorem orderUnknownCode_carries {t : Tick} {st : Station} {target code a1 a2 : Byte} {o : OrderCode}
    (h : orderOfCode code.toNat = some o) : o.CarriedBy (.orderUnknownCode t st target code a1 a2) := by
  refine .inr ?_
  by_contra hw
  have hcode : code.toNat = 0 ∨ 8 < code.toNat := by
    rw [Bool.not_eq_false] at hw
    simpa only [WellFormed, codeUnknown, Bool.or_eq_true, beq_iff_eq, decide_eq_true_eq] using hw
  rcases hcode with hz | hbig
  · rw [hz] at h
    cases h
  · unfold orderOfCode at h
    split at h
    all_goals (try omega)
    cases h

theorem configReadDone_acts (t : Tick) (bytes : List Byte) (s : State) :
    Instr.Acts (.configReadDone t bytes) s (configReadDone bytes s) := by
  unfold configReadDone
  split
  · next second hp =>
    split
    · next im hj => exact .inr ⟨s, .inl rfl, .accept s t bytes second im rfl hp hj⟩
    · split
      · next hs =>
        rw [hs] at hp
        exact .inr ⟨s, .inl rfl, .unconfigure s t bytes rfl hp⟩
      · exact .inl (.node _ _ rfl (.inl trivial))
  · exact .inl (.refl s)

theorem transmissionBegin_acts (t : Tick) (s : State) :
    Instr.Acts (.transmissionBegin t) s (s.onLine transmissionBegin) := by
  unfold State.onLine transmissionBegin
  split
  · exact .inl (.refl s)
  · split
    · next hb =>
      split
      · next e he =>
        refine .inr ⟨s, .inl rfl, .begin s t e _ rfl hb (List.mem_of_find?_eq_some he) ?_ ?_⟩
        · exact List.find?_some (p := fun x : TxEntry => s.node.state.permits x.kind) he
        · exact fun hk => if_neg hk
      · exact .inl (.refl s)
    · exact .inl (.refl s)

theorem arbitrationLost_acts (c : Instr) (cell : Nat) (s : State) : Instr.Acts c s (s.onLine (arbitrationLost cell)) := by
  unfold State.onLine arbitrationLost
  split
  · exact .inl (.refl s)
  · split
    · next e removed left ht =>
      split
      · obtain ⟨d, n, h⟩ := Link.readFrame_keeps (mismatchCells (s.ownFrame e) cell) s.link
        cases removed with
        | true =>
          exact .inl (.link s (fun l => { l.readFrame (mismatchCells (s.ownFrame e) cell) with transmitter := .idle })
            (by rw [h]) (by rw [h]) (.inr rfl))
        | false => exact .inr ⟨s, .inl rfl, .lose s e left _ ht⟩
      · exact .inl (.refl s)
    · exact .inl (.refl s)

theorem listenEnd_acts (t : Tick) (s : State) : Instr.Acts (.listenEnd t) s (listenEnd s) := by
  unfold listenEnd
  split
  · next h => exact .inr ⟨s, .inl rfl, .run s t rfl h.1⟩
  · exact .inl (.refl s)

theorem frameRejected_moves {b : Prop} (chars : List Byte) (ending : FrameEnd) (s : State) : State.MovesIn b s (frameRejected chars ending s) :=
  State.receive_moves (s.judgeTaken_moves chars ending)

/-- Every act of a command that is not RESET_N_RELEASE is a run of moves, or a turn after its prelude. -/
theorem act_acts {c : Instr} (hc : ∀ t straps, c ≠ .resetNRelease t straps) (s : State) :
    Instr.Acts c s (c.act s) := by
  cases c with
  | resetNRelease t straps => exact absurd rfl (hc t straps)
  | configReadDone t bytes => exact configReadDone_acts t bytes s
  | configRetryTimer t => exact .inl (configRetry_moves s)
  | toothEdge t order => exact .inl (toothEdge_moves order s)
  | stall t => exact .inl (.blocks (stall_control s))
  | camEdge t => exact .inl (camEdge_moves s)
  | interpolatedMark t => exact .inl (interpolatedMark_moves s)
  | knockSample t ch magnitude => exact .inl (.blocks (s.onChan_control ch _))
  | probeEnd t => exact .inl (probeEnd_moves s)
  | biasAboveThreshold t ch => exact .inl (.blocks (s.onChan_control ch _))
  | biasBelowThreshold t ch => exact .inl (.blocks (s.onChan_control ch _))
  | qualificationExpiry t ch => exact .inl (qualificationExpiry_moves ch s)
  | frameRejected t chars ending => exact .inl (frameRejected_moves chars ending s)
  | ownStationFrame t kind payload => exact .inl (s.takeFrame_moves _ _ _ State.MovesIn.refl)
  | peerReportReceived t st kind payload => exact .inl (s.takeFrame_moves _ _ _ State.MovesIn.refl)
  | joltReceived t st peak hold =>
    exact .inl (s.takeFrame_moves _ _ _ (act := fun u => u.takeJolt st hold.toNat) fun u => .blocks (u.takeJolt_control _ _))
  | phaseReceived t st cutMask flags =>
    exact .inl (s.takeFrame_moves _ _ _ (act := fun u => u.takePhase st (phaseContext cutMask flags)) fun u => 
      .blocks (u.takePhase_control _ _))
  | witnessReceived t st cyl score flags =>
    exact .inl (s.takeFrame_moves _ _ _ (act := fun u => u.takeWitness st cyl score flags) fun u => u.takeWitness_moves _ _ _ _)
  | verdictReceived t st b0 b1 score loss count =>
    exact .inl (s.takeFrame_moves _ _ _ (act := fun u => u.takeVerdict st (verdictCyl b0)) fun u => u.takeVerdict_moves _ _)
  | orderServe t st target a1 a2 =>
    exact s.takeOrderFrame_acts _ _ _ _ _ fun o h => OrderCode.carriedBy_command (o := .serve) h rfl ⟨t, st, target, a1, a2, rfl⟩
  | orderClearCounts t st target a1 a2 =>
    exact s.takeOrderFrame_acts _ _ _ _ _ fun o h =>
      OrderCode.carriedBy_command (o := .clearCounts) h rfl ⟨t, st, target, a1, a2, rfl⟩
  | orderRelearn t st target a1 a2 =>
    exact s.takeOrderFrame_acts _ _ _ _ _ fun o h => OrderCode.carriedBy_command (o := .relearn) h rfl ⟨t, st, target, a1, a2, rfl⟩
  | orderClearFaults t st target a1 a2 =>
    exact s.takeOrderFrame_acts _ _ _ _ _ fun o h =>
      OrderCode.carriedBy_command (o := .clearFaults) h rfl ⟨t, st, target, a1, a2, rfl⟩
  | orderHold t st target a1 a2 =>
    exact s.takeOrderFrame_acts _ _ _ _ _ fun o h => OrderCode.carriedBy_command (o := .hold) h rfl ⟨t, st, target, a1, a2, rfl⟩
  | orderResume t st target a1 a2 =>
    exact s.takeOrderFrame_acts _ _ _ _ _ fun o h => OrderCode.carriedBy_command (o := .resume) h rfl ⟨t, st, target, a1, a2, rfl⟩
  | orderRestart t st target a1 a2 =>
    exact s.takeOrderFrame_acts _ _ _ _ _ fun o h => OrderCode.carriedBy_command (o := .restart) h rfl ⟨t, st, target, a1, a2, rfl⟩
  | orderReport t st target a1 a2 =>
    exact s.takeOrderFrame_acts _ _ _ _ _ fun o h => OrderCode.carriedBy_command (o := .report) h rfl ⟨t, st, target, a1, a2, rfl⟩
  | orderUnknownCode t st target code a1 a2 =>
    exact s.takeOrderFrame_acts _ _ _ _ _ fun o h => orderUnknownCode_carries h
  | interframeGapEnd t => exact .inl (State.onLine_moves (.link _ _ rfl rfl (.inl rfl)))
  | stuckLine t => exact .inl (State.onLine_moves (stuckLine_moves s))
  | transmissionBegin t => exact transmissionBegin_acts t s
  | arbitrationLost t cell => exact arbitrationLost_acts _ cell s
  | transmitClash t cell => exact .inl (State.onLine_moves (transmitClash_moves cell s))
  | transmissionEnd t => exact .inl (State.onLine_moves (transmissionEnd_moves s))
  | dwellTimerExpiry t => exact .inl (State.onLine_moves (dwellTimerExpiry_moves s))
  | peerTimeoutTick t => exact .inl (peerTimeoutTick_moves s)
  | shockHoldExpiry t => exact .inl (.blocks rfl)
  | joltGuardExpiry t => exact .inl (.blocks rfl)
  | holdOffExpiry t => exact .inr ⟨s, .inl rfl, .holdOff s⟩
  | listenEnd t => exact listenEnd_acts t s
  | statusTimerExpiry t => exact .inl (statusTimerExpiry_moves s)
  | envelopeExceedsShockPeak t ch envelope => exact .inl (.blocks (s.onChan_control ch _))
  | dominantCellBeforeGap t => exact .inl (State.onLine_moves (Link.dominantInIdle_moves s))

theorem State.Prelude.moves {c : Instr} {s u : State} (h : State.Prelude c s u) : s.Moves u := by
  rcases h with rfl | ⟨-, k, st, payload, -, rfl⟩
  · exact .refl _
  · exact s.heardFrame_moves k st payload

/-- What the prelude of a turn leaves as it was. -/
theorem State.Prelude.keeps {c : Instr} {s u : State} (h : State.Prelude c s u) :
    u.node.state = s.node.state ∧ u.node.port = s.node.port ∧ u.faults = s.faults ∧ u.alert = s.alert ∧ u.image = s.image
      ∧ u.withdrawDue = s.withdrawDue := by
  rcases h with rfl | ⟨-, k, st, payload, -, rfl⟩
  · exact ⟨rfl, rfl, rfl, rfl, rfl, rfl⟩
  · exact s.heardFrame_keeps k st payload

end Sys2Proof.Machine

/-! # Invariants of the link and of the Alert Unit -/

namespace Sys2Proof.Machine

/-! ## Invariants by moves and turns -/

/-- An invariant that time, moves and turns keep is kept by every step. -/
theorem step_keeps_of_moves {P : State → Prop} (queue : ∀ (s : State) (rest : List Instr), P s → P { s with pending := rest })
    (power : ∀ (t : Tick) (straps : Station) (s : State), P (resetRelease t straps s))
    (time : ∀ (s : State) (t : Tick), P s → P (s.advance t)) (moves : ∀ s t : State, s.Moves t → P s → P t)
    (turns : ∀ (c : Instr) (s t : State), State.Turns c s t → P s → P t) {s t : State} (hs : P s) (h : step s = .next t) :
    P t := by
  refine step_keeps queue power (fun c s hc hs => ?_) hs h
  refine moves _ _ (State.MovesIn.settle _) ?_
  rcases act_acts hc (s.advance c.instant) with hm | ⟨u, hp, ht⟩
  · exact moves _ _ hm (time s _ hs)
  · exact turns c u _ ht (moves _ _ hp.moves (time s _ hs))

/-- A property that each step of a hand-off keeps: the LOG of a capture put into the queue, a raise taken, an occurrence counted and
captured, the overflow flag set, and a withdrawal passed. -/
structure State.HandOffs (P : State → Prop) : Prop where
  put : ∀ (s : State) p, P s → P (s.putReport .log none p).1
  raise : ∀ (s : State) x, P s → P (s.raiseStep x).1
  count : ∀ (s : State) c, P s → P (s.onFaults (FaultUnit.countOccurrence c))
  first : ∀ (s : State) o, s.faults.first = none → P s →
    P (s.onFaults (fun f => { f with first := some (Occurrence.captured o f.service) }))
  overflow : ∀ s : State, P s → P (s.onFaults (fun f => { f with overflow := true }))
  due : ∀ s : State, P s → P (s.setWithdrawDue true)

namespace State.HandOffs

/-- A fold of steps that each keep a property keeps it. -/
theorem foldl {P : State → Prop} {α : Type} {f : State → α → State} (hf : ∀ (s : State) (a : α), P s → P (f s a))
    (l : List α) {s : State} (hs : P s) : P (l.foldl f s) := by
  induction l generalizing s with
  | nil => exact hs
  | cons a l ih => exact ih (hf s a hs)

variable {P : State → Prop} (h : HandOffs P)

include h

theorem capture {s : State} (o : Occurrence) (hs : P s) : P (s.capture o).1 := by
  unfold State.capture
  split
  · exact h.overflow s hs
  · next hn => exact h.raise _ _ (h.put _ _ (h.first s o hn hs))

theorem takeOccurrence {s : State} (o : Occurrence) (hs : P s) : P (s.takeOccurrence o).1 := by
  have captured := h.capture o (h.count s o.cls hs)
  unfold State.takeOccurrence
  dsimp only
  split
  · exact h.count s o.cls hs
  · split
    · exact h.due _ captured
    · exact captured

theorem occur {s : State} (o : Occurrence) (hs : P s) : P (s.occur o) :=
  foldl (f := fun s o => (s.takeOccurrence o).1) (fun _ o hs => h.takeOccurrence o hs) _ (h.takeOccurrence o hs)

theorem raised {s : State} (x : AlertSource) (hs : P s) : P (s.raise x) :=
  foldl (fun _ o hs => h.occur o hs) _ (h.raise s x hs)

theorem report {s : State} {k : Kind} {c : Option Nat} {p : List Byte} (hs : P (s.putReport k c p).1) :
    P (s.queueReport k c p) :=
  foldl (fun _ o hs => h.occur o hs) _ hs

end State.HandOffs

/-! ## The line of the Alert Unit (R157, R158) -/

/-- Some latched source is not masked. -/
theorem AlertUnit.unmaskedLatched_iff (a : AlertUnit) :
    a.unmaskedLatched = true ↔ ∃ (i : Nat) (x : SourceState), a.sources[i]? = some x ∧ x.latch = true ∧ x.mask = false := by
  simp only [AlertUnit.unmaskedLatched, List.any_eq_true, List.mem_iff_getElem?, Bool.and_eq_true, Bool.not_eq_true']
  exact ⟨fun ⟨x, ⟨i, h⟩, r⟩ => ⟨i, x, h, r⟩, fun ⟨i, x, h, r⟩ => ⟨x, ⟨i, h⟩, r⟩⟩

/-- What holds of the line in a node state even while the line is still to be evaluated. -/
structure AlertUnit.Steady (n : NodeState) (a : AlertUnit) : Prop where
  length : a.sources.length = 8
  asserted : a.line = .asserted → a.unmaskedLatched = true
  held : n.drivesAlert = false → a.line = .released
  timer : a.holdOff.isSome = true ↔ a.line = .holdoff

/-- The line rests as the unmasked latched set says. -/
def AlertUnit.Evaluated (n : NodeState) (a : AlertUnit) : Prop :=
  n.drivesAlert = true → a.line = .released → a.unmaskedLatched = false

theorem State.alertOk_iff (s : State) :
    s.AlertOk ↔ s.alert.Steady s.node.state ∧ s.alert.Evaluated s.node.state :=
  ⟨fun ⟨l, as, ev, hd, ti⟩ => ⟨⟨l, as, hd, ti⟩, ev⟩, fun ⟨⟨l, as, hd, ti⟩, ev⟩ => ⟨l, as, ev, hd, ti⟩⟩

namespace AlertUnit

theorem latchSource_unmaskedLatched (x : AlertSource) {a : AlertUnit} (h : a.unmaskedLatched = true) :
    (a.latchSource x).unmaskedLatched = true := by
  rw [unmaskedLatched_iff] at h ⊢
  obtain ⟨i, y, hy, hl, hm⟩ := h
  by_cases hi : x.index = i
  · exact ⟨i, { y with latch := true, latest := a.raiseSeq + 1 }, by simp [latchSource, hi, hy], rfl, hm⟩
  · exact ⟨i, y, by simp [latchSource, hi, hy], hl, hm⟩

theorem Steady.latchSource {n : NodeState} {a : AlertUnit} (h : a.Steady n) (x : AlertSource) : (a.latchSource x).Steady n where
  length := by simpa [AlertUnit.latchSource] using h.length
  asserted hl := latchSource_unmaskedLatched x (h.asserted hl)
  held := h.held
  timer := h.timer

/-- R157: once the line is evaluated it rests as the set says. -/
theorem Steady.assertLine {n : NodeState} {a : AlertUnit} (h : a.Steady n) :
    (a.assertLine n).Steady n ∧ (a.assertLine n).Evaluated n := by
  unfold AlertUnit.assertLine
  split
  · next hc =>
    simp only [Bool.and_eq_true, beq_iff_eq] at hc
    obtain ⟨⟨hd, hr⟩, hu⟩ := hc
    refine ⟨⟨h.length, fun _ => hu, fun hn => by simp [hd] at hn, ?_⟩, fun _ hl => by simp at hl⟩
    rw [h.timer, hr]
    simp
  · next hc =>
    refine ⟨h, fun hd hr => ?_⟩
    simpa [hd, hr] using hc

/-- In a state that holds the line RELEASED nothing is left to evaluate. -/
theorem Steady.released {n : NodeState} {a : AlertUnit} (hlen : a.sources.length = 8) (hl : a.line = .released)
    (ht : a.holdOff = none) : a.Steady n := by
  refine ⟨hlen, fun h => ?_, fun _ => hl, ?_⟩
  · rw [hl] at h
    cases h
  · rw [hl, ht]
    simp

theorem evaluated_of_not_drives {n : NodeState} (h : n.drivesAlert = false) (a : AlertUnit) : a.Evaluated n :=
  fun hd => by simp [h] at hd

/-- Between two states in which the line follows the set nothing changes for it. -/
theorem Steady.change {n n' : NodeState} {a : AlertUnit} (h : a.Steady n) (hn : n'.drivesAlert = true) : a.Steady n' :=
  ⟨h.length, h.asserted, fun hn' => by simp [hn] at hn', h.timer⟩

end AlertUnit

/-- The invariants of the Alert Unit read only that unit and the node state. -/
theorem State.alert_handOffs {Q : NodeState → AlertUnit → Prop}
    (raise : ∀ n a x, Q n a → Q n ((AlertUnit.latchSource x a).assertLine n)) :
    State.HandOffs (fun s => Q s.node.state s.alert) where
  put _ _ h := h
  raise _ _ h := raise _ _ _ h
  count _ _ h := h
  first _ _ _ h := h
  overflow _ h := h
  due _ h := h

theorem State.steady_handOffs : State.HandOffs (fun s => s.alert.Steady s.node.state) :=
  State.alert_handOffs fun _ _ x h => (h.latchSource x).assertLine.1

theorem State.alertOk_handOffs : State.HandOffs State.AlertOk := by
  have h := State.alert_handOffs (Q := fun n a => a.Steady n ∧ a.Evaluated n) fun _ _ x h => (h.1.latchSource x).assertLine
  simpa only [← State.alertOk_iff] using h

theorem State.AlertOk.congr {s t : State} (h : s.AlertOk) (ha : t.alert = s.alert) (hn : t.node.state = s.node.state) :
    t.AlertOk := by
  unfold State.AlertOk at h ⊢
  rwa [ha, hn]

theorem State.abortAll_alert (s : State) : s.abortAll.alert = s.alert :=
  State.control_alert s.abortAll_control

theorem State.abortAll_link (s : State) : s.abortAll.link = s.link :=
  State.control_link s.abortAll_control

theorem State.abortAll_faults (s : State) : s.abortAll.faults = s.faults :=
  State.control_faults s.abortAll_control

theorem State.enterWithdrawn_alert (s : State) :
    s.enterWithdrawn.alert = if s.node.state.drivesAlert then s.alert else s.alert.assertLine .withdrawn := by
  unfold State.enterWithdrawn
  dsimp only
  split
  · exact s.abortAll_alert
  · exact congrArg (AlertUnit.assertLine .withdrawn) s.abortAll_alert

theorem State.enterWithdrawn_alertOk {s : State} (h : s.AlertOk) : s.enterWithdrawn.AlertOk := by
  rw [State.alertOk_iff, State.enterWithdrawn_node, State.enterWithdrawn_alert] at *
  obtain ⟨hs, he⟩ := h
  split
  · next hd => exact ⟨hs.change rfl, fun _ hr => he hd hr⟩
  · exact (hs.change (n' := .withdrawn) rfl).assertLine

/-- A withdrawal is carried out in the four active states, and elsewhere its flag is cleared. -/
theorem State.carryWithdrawal_cases (s : State) :
    (s.withdrawDue = false ∧ s.carryWithdrawal = s)
      ∨ ((s.node.state = .loading ∨ s.node.state = .withdrawn ∨ s.node.state = .unconfigured)
        ∧ s.carryWithdrawal = s.setWithdrawDue false)
      ∨ ((s.node.state = .probing ∨ s.node.state = .joining ∨ s.node.state = .running ∨ s.node.state = .hold)
        ∧ s.carryWithdrawal = (s.setWithdrawDue false).enterWithdrawn) := by
  unfold State.carryWithdrawal
  split
  · refine .inr ?_
    cases s.node.state <;> simp
  · next h => exact .inl ⟨Bool.eq_false_iff.mpr h, rfl⟩

theorem State.carryWithdrawal_alertOk {s : State} (h : s.AlertOk) : s.carryWithdrawal.AlertOk := by
  rcases s.carryWithdrawal_cases with ⟨-, e⟩ | ⟨-, e⟩ | ⟨-, e⟩ <;> rw [e]
  · exact h
  · exact h
  · exact State.enterWithdrawn_alertOk (s := s.setWithdrawDue false) h

theorem State.updateService_handOffs {P : State → Prop} (hP : State.HandOffs P)
    (hf : ∀ (s : State) v, P s → P (s.onFaults (fun f => { f with service := v }))) {s : State} (h : P s) :
    P s.updateService := by
  unfold State.updateService
  split
  · exact h
  · exact hP.raised _ (hf s _ h)

theorem State.alertOk_of_moves {s t : State} (h : s.Moves t) (hs : s.AlertOk) : t.AlertOk := by
  induction h with
  | write _ h => exact hs.congr (State.control_alert h) (congrArg NodeCtl.state (State.control_node h))
  | occur s o => exact State.alertOk_handOffs.occur o hs
  | raise s x => exact State.alertOk_handOffs.raised x hs
  | report s k c p => exact State.alertOk_handOffs.report (s := s) hs
  | remove s p => exact hs
  | carry s _ => exact State.carryWithdrawal_alertOk hs
  | service s => exact State.updateService_handOffs State.alertOk_handOffs (fun _ _ h => h) hs
  | link s f _ _ _ => exact hs
  | node s f h _ => exact hs.congr rfl h
  | join s _ h =>
    rw [State.alertOk_iff] at hs ⊢
    rw [h] at hs
    exact ⟨⟨hs.1.length, hs.1.asserted, fun _ => hs.1.held rfl, hs.1.timer⟩, AlertUnit.evaluated_of_not_drives rfl _⟩
  | line s =>
    obtain ⟨hs, -⟩ := (State.alertOk_iff s).mp hs
    exact (State.alertOk_iff _).mpr hs.assertLine
  | trans _ _ ih ih' => exact ih' (ih hs)

/-! ### Turns -/

theorem AlertUnit.configure_length (im : Image) (a : AlertUnit) : (a.configure im).sources.length = 8 := by
  simp [AlertUnit.configure]

/-- Entry to PROBING holds the line RELEASED. -/
theorem State.enterProbing_alertOk {s : State} (h : s.alert.sources.length = 8) : s.enterProbing.AlertOk :=
  (State.alertOk_iff _).mpr ⟨.released h rfl rfl, AlertUnit.evaluated_of_not_drives rfl _⟩

theorem State.acceptImage_alertOk (s : State) (im : Image) : (s.acceptImage im).AlertOk :=
  State.enterProbing_alertOk (AlertUnit.configure_length im s.alert)

theorem State.enterUnconfigured_alertOk {s : State} (h : s.AlertOk) : s.enterUnconfigured.AlertOk := by
  obtain ⟨hs, -⟩ := (State.alertOk_iff s).mp h
  have steady : s.unconfigured.alert.Steady s.unconfigured.node.state := hs.change rfl
  have queued : s.unconfigured.queueStatus.alert.Steady s.unconfigured.queueStatus.node.state :=
    State.steady_handOffs.report (s := s.unconfigured) steady
  have evaluated := (State.updateService_handOffs State.steady_handOffs (fun _ _ h => h) queued).assertLine
  rw [State.unconfigured_served_node] at evaluated
  rw [State.enterUnconfigured_eq]
  refine State.alertOk_handOffs.occur _ ((State.alertOk_iff _).mpr ?_)
  rw [State.onAlert_node, State.unconfigured_served_node]
  exact evaluated

theorem State.enterRunning_alertOk {s : State} (h : s.AlertOk) : s.enterRunning.AlertOk := by
  obtain ⟨hs, -⟩ := (State.alertOk_iff s).mp h
  have steady : s.listenEnded.alert.Steady s.listenEnded.node.state := hs.change rfl
  have evaluated := (State.steady_handOffs.report (k := .status) (c := none) (p := []) (s := s.listenEnded) steady).assertLine
  rw [State.body_node (State.queueReport_body _ _ _ _)] at evaluated
  rw [State.enterRunning_eq, State.alertOk_iff, State.onAlert_node, State.body_node (State.queueStatus_body _)]
  exact evaluated

/-- R156: SERVE clears latches only. -/
theorem AlertUnit.serve_unmaskedLatched {seq : BitVec 8} {set : Byte} {holdOff : Nat} {a : AlertUnit}
    (h : (a.serve seq set holdOff).unmaskedLatched = true) : a.unmaskedLatched = true := by
  rw [unmaskedLatched_iff] at h ⊢
  obtain ⟨i, x, hx, hl, hm⟩ := h
  have hsources : (a.serve seq set holdOff).sources = (List.range 8).map (fun i =>
      if set.getLsbD i then (a.sources.getD i SourceState.powerOn).serve seq else a.sources.getD i SourceState.powerOn) := by
    unfold AlertUnit.serve
    dsimp only
    split <;> rfl
  rw [hsources, List.getElem?_map, Option.map_eq_some_iff] at hx
  obtain ⟨j, hj, hx⟩ := hx
  have hji : j = i := (List.getElem?_range (List.getElem?_eq_some_iff.mp hj).1 |>.symm.trans hj |> Option.some.inj).symm ▸ rfl
  subst hji
  have kept : (a.sources.getD j SourceState.powerOn).latch = true ∧ (a.sources.getD j SourceState.powerOn).mask = false := by
    subst hx
    split at hl
    · next hset =>
      rw [if_pos hset] at hm
      unfold SourceState.serve at hl hm
      split at hl
      · cases hl
      · next hseq =>
        rw [if_neg hseq] at hm
        exact ⟨hl, hm⟩
    · next hset =>
      rw [if_neg hset] at hm
      exact ⟨hl, hm⟩
  cases hget : a.sources[j]? with
  | none =>
    rw [List.getD_eq_getElem?_getD, hget] at kept
    cases kept.1
  | some y =>
    rw [List.getD_eq_getElem?_getD, hget] at kept
    exact ⟨j, y, hget, kept⟩

theorem State.serve_alertOk {s : State} (h : s.AlertOk) (seq : BitVec 8) (set : Byte) (holdOff : Nat) :
    (s.onAlert (AlertUnit.serve seq set holdOff)).AlertOk := by
  rw [State.alertOk_iff] at h ⊢
  obtain ⟨hs, he⟩ := h
  have cleared : s.alert.unmaskedLatched = false → (s.alert.serve seq set holdOff).unmaskedLatched = false := fun hr =>
    Bool.eq_false_iff.mpr (mt AlertUnit.serve_unmaskedLatched (Bool.eq_false_iff.mp hr))
  show (s.alert.serve seq set holdOff).Steady _ ∧ (s.alert.serve seq set holdOff).Evaluated _
  by_cases hl : s.alert.line = .asserted
  · have hline : (s.alert.serve seq set holdOff).line = .holdoff := by simp [AlertUnit.serve, hl]
    refine ⟨⟨by simp [AlertUnit.serve, hl], fun h => ?_, fun hd => ?_, ?_⟩, fun _ hr => ?_⟩
    · rw [hline] at h
      cases h
    · have := hs.held hd
      rw [hl] at this
      cases this
    · simp [AlertUnit.serve, hl]
    · rw [hline] at hr
      cases hr
  · have hline : (s.alert.serve seq set holdOff).line = s.alert.line := by simp [AlertUnit.serve, hl]
    refine ⟨⟨by simp [AlertUnit.serve, hl], fun h => ?_, fun hd => hline.trans (hs.held hd), ?_⟩, fun hd hr => ?_⟩
    · exact absurd (hline.symm.trans h) hl
    · rw [hline, ← hs.timer]
      simp [AlertUnit.serve, hl]
    · exact cleared (he hd (hline.symm.trans hr))

theorem State.holdOffExpires_alertOk {s : State} (h : s.AlertOk) : (s.onAlert AlertUnit.holdOffExpires).AlertOk := by
  rw [State.alertOk_iff] at h ⊢
  obtain ⟨hs, he⟩ := h
  show s.alert.holdOffExpires.Steady _ ∧ s.alert.holdOffExpires.Evaluated _
  unfold AlertUnit.holdOffExpires
  split
  · next hc =>
    have held : s.node.state.drivesAlert ≠ false := fun hd => by
      have := hs.held hd
      rw [hc.1] at this
      cases this
    cases hu : s.alert.unmaskedLatched with
    | true => exact ⟨⟨hs.length, fun _ => hu, fun hd => absurd hd held, by simp⟩, fun _ hr => by simp at hr⟩
    | false => exact ⟨⟨hs.length, fun hl => by simp at hl, fun hd => absurd hd held, by simp⟩, fun _ _ => hu⟩
  · exact ⟨hs, he⟩

theorem State.restart_alertOk {s : State} (h : s.AlertOk) : s.restart.AlertOk := by
  refine State.enterProbing_alertOk ?_
  show s.abortAll.alert.sources.length = 8
  rw [s.abortAll_alert]
  exact h.1

theorem State.clearFaults_alertOk {s : State} (h : s.AlertOk) : s.clearFaults.AlertOk := by
  unfold State.clearFaults
  dsimp only
  split
  · exact State.enterProbing_alertOk h.1
  · exact h

/-- In two states in which the line follows the set it follows it alike. -/
theorem State.AlertOk.change {s t : State} (h : s.AlertOk) (ha : t.alert = s.alert) (hs : s.node.state.drivesAlert = true)
    (ht : t.node.state.drivesAlert = true) : t.AlertOk := by
  rw [State.alertOk_iff] at h ⊢
  rw [ha]
  exact ⟨h.1.change ht, fun _ hr => h.2 hs hr⟩

theorem State.alertOk_of_turns {c : Instr} {s t : State} (h : State.Turns c s t) (hs : s.AlertOk) : t.AlertOk := by
  cases h with
  | accept t bytes second im hc hp hj => exact s.acceptImage_alertOk im
  | unconfigure t bytes hc hp => exact State.enterUnconfigured_alertOk hs
  | run t hc hn => exact State.enterRunning_alertOk hs
  | begin t e contents hc hb he hk hp => exact hs
  | lose e left cells ht => exact State.HandOffs.foldl (fun _ o hs => State.alertOk_handOffs.occur o hs) _ hs
  | holdOff => exact State.holdOffExpires_alertOk hs
  | serve seq set holdOff ho hn => exact State.serve_alertOk hs seq set holdOff
  | clear ho hn => exact State.clearFaults_alertOk hs
  | hold ho hn => exact hs.change s.abortAll_alert (by rw [hn]; rfl) rfl
  | resume ho hn => exact hs.change rfl (by rw [hn]; rfl) rfl
  | restart ho hn => exact State.restart_alertOk hs

theorem State.advance_alertOk {s : State} (h : s.AlertOk) (t : Tick) : (s.advance t).AlertOk := by
  rw [State.alertOk_iff] at h ⊢
  obtain ⟨hs, he⟩ := h
  refine ⟨⟨hs.length, hs.asserted, hs.held, ?_⟩, he⟩
  show (countDown _ s.alert.holdOff).isSome = true ↔ _
  rw [countDown, Option.isSome_map]
  exact hs.timer

/-- Settles O10: raises evaluate the line, and each turn leaves it as its new state asks. -/
theorem stepKeepsTheAlertLine : Obligations.StepKeepsTheAlertLine := by
  intro s t hs h
  exact step_keeps_of_moves (P := State.AlertOk) (fun _ _ h => h) (fun _ _ _ => (by decide : State.reset.AlertOk).congr rfl rfl)
    (fun _ t h => State.advance_alertOk h t)
    (fun _ _ => State.alertOk_of_moves) (fun _ _ _ => State.alertOk_of_turns) hs h

end Sys2Proof.Machine

/-! # What an occurrence leaves in the Fault Unit (R150) -/

namespace Sys2Proof.Machine

/-! ## Classes -/

theorem FaultClass.index_lt (c : FaultClass) : c.index < 16 := by cases c <;> decide

theorem allClasses_getD_index (c : FaultClass) : allClasses.getD c.index .check = c := by cases c <;> rfl

theorem FaultClass.index_injective {c d : FaultClass} (h : c.index = d.index) : c = d := by
  rw [← allClasses_getD_index c, h, allClasses_getD_index]

theorem mem_allClasses (c : FaultClass) : c ∈ allClasses := by cases c <;> decide

theorem FaultUnit.cls_countOccurrence {f : FaultUnit} (h : f.classes.length = 16) (c : FaultClass) :
    (f.countOccurrence c).cls c = (f.cls c).counted 1 :=
  getD_modify_eq _ _ _ _ (h ▸ c.index_lt)

theorem FaultUnit.cls_countOccurrence_of_ne (f : FaultUnit) {c d : FaultClass} (h : d ≠ c) :
    (f.countOccurrence c).cls d = f.cls d :=
  getD_modify_ne _ _ _ fun hi => h (FaultClass.index_injective hi).symm

/-- A part of a class that counting keeps is kept for every class. -/
theorem FaultUnit.cls_countOccurrence_keeps {α : Type} (g : ClassState → α) (hg : ∀ x : ClassState, g (x.counted 1) = g x)
    (f : FaultUnit) (c d : FaultClass) : g ((f.countOccurrence c).cls d) = g (f.cls d) := by
  by_cases hd : d = c
  · subst hd
    unfold FaultUnit.cls FaultUnit.countOccurrence
    rw [List.getD_eq_getElem?_getD, List.getD_eq_getElem?_getD, List.getElem?_modify_eq]
    cases f.classes[d.index]? with
    | none => rfl
    | some x => exact hg x
  · rw [FaultUnit.cls_countOccurrence_of_ne f hd]

theorem FaultUnit.cls_congr {f g : FaultUnit} (h : g.classes = f.classes) (c : FaultClass) : g.cls c = f.cls c := by
  unfold FaultUnit.cls
  rw [h]

theorem FaultUnit.degrades_congr {f g : FaultUnit} (h : ∀ d, d ≠ .queueOverflow → g.cls d = f.cls d) :
    g.degrades = f.degrades := by
  unfold FaultUnit.degrades
  simp only [List.any_cons, List.any_nil, h .peerSilent (by decide), h .clash (by decide)]

/-! ## Occurrences that capture nothing -/

/-- An occurrence of a masked class, or one that finds the record FULL, captures nothing: it counts, and unmasked it sets the
overflow flag. -/
theorem State.takeOccurrence_quiet {s : State} {o : Occurrence}
    (h : s.faults.first.isSome = true ∨ (s.faults.cls o.cls).mask = true) :
    (s.takeOccurrence o).2 = [] ∧ (s.takeOccurrence o).1.link = s.link ∧ (s.takeOccurrence o).1.alert = s.alert
      ∧ (s.takeOccurrence o).1.faults = { s.faults.countOccurrence o.cls with
          overflow := s.faults.overflow || !(s.faults.cls o.cls).mask } := by
  have hmask : ((s.onFaults (FaultUnit.countOccurrence o.cls)).faults.cls o.cls).mask = (s.faults.cls o.cls).mask :=
    FaultUnit.cls_countOccurrence_keeps (·.mask) (fun _ => rfl) s.faults o.cls o.cls
  unfold State.takeOccurrence
  dsimp only
  rw [hmask]
  cases hm : (s.faults.cls o.cls).mask with
  | true => simp [FaultUnit.countOccurrence]
  | false =>
    obtain ⟨x, hx⟩ := Option.isSome_iff_exists.mp (h.resolve_right (by simp [hm]))
    have captured : (s.onFaults (FaultUnit.countOccurrence o.cls)).capture o
        = ((s.onFaults (FaultUnit.countOccurrence o.cls)).onFaults (fun f => { f with overflow := true }), []) := by
      unfold State.capture
      rw [show (s.onFaults (FaultUnit.countOccurrence o.cls)).faults.first = some x from hx]
    rw [captured]
    simp only [Bool.false_eq_true, if_false, Bool.not_false, Bool.or_true]
    split <;> simp [FaultUnit.countOccurrence]

theorem State.occur_quiet {s : State} {o : Occurrence}
    (h : s.faults.first.isSome = true ∨ (s.faults.cls o.cls).mask = true) :
    (s.occur o).link = s.link ∧ (s.occur o).alert = s.alert
      ∧ (s.occur o).faults = { s.faults.countOccurrence o.cls with
          overflow := s.faults.overflow || !(s.faults.cls o.cls).mask } := by
  obtain ⟨hnil, rest⟩ := State.takeOccurrence_quiet h
  unfold State.occur
  dsimp only
  rw [hnil]
  exact rest

theorem FaultUnit.took_of_quiet {f : FaultUnit} {o : Occurrence} (hlen : f.classes.length = 16)
    (h : f.first.isSome = true ∨ (f.cls o.cls).mask = true) :
    FaultUnit.Took o f { f.countOccurrence o.cls with overflow := f.overflow || !(f.cls o.cls).mask } := by
  refine ⟨FaultUnit.cls_countOccurrence hlen o.cls, fun d _ hd _ => FaultUnit.cls_countOccurrence_of_ne f hd, fun hm hn => ?_,
    fun hm x hx => ⟨hx, by simp [hm]⟩⟩
  simp [hm, hn] at h

/-- R150: a quiet occurrence is taken, whatever its class. -/
theorem State.occur_took_quiet {s : State} {o : Occurrence} (hlen : s.faults.classes.length = 16)
    (h : s.faults.first.isSome = true ∨ (s.faults.cls o.cls).mask = true) : FaultUnit.Took o s.faults (s.occur o).faults := by
  rw [(State.occur_quiet h).2.2]
  exact FaultUnit.took_of_quiet hlen h

/-! ## What the hand-offs count -/

theorem State.mem_overflowOf {s : State} {lost : Option (Kind × Option Nat)} {o : Occurrence} (h : o ∈ s.overflowOf lost) :
    o.cls = .queueOverflow := by
  unfold State.overflowOf at h
  split at h
  · rw [List.mem_singleton.mp h]
    rfl
  · cases h

/-- Between two states no class but QUEUE_OVERFLOW was counted, and a FULL first-fault record was kept. -/
structure State.CountsOverflow (s t : State) : Prop where
  others : ∀ d, d ≠ .queueOverflow → t.faults.cls d = s.faults.cls d
  kept : ∀ x, s.faults.first = some x → t.faults.first = some x

theorem State.CountsOverflow.refl (s : State) : s.CountsOverflow s := ⟨fun _ _ => rfl, fun _ h => h⟩

theorem State.CountsOverflow.trans {s t u : State} (h : s.CountsOverflow t) (h' : t.CountsOverflow u) : s.CountsOverflow u :=
  ⟨fun d hd => (h'.others d hd).trans (h.others d hd), fun x hx => h'.kept x (h.kept x hx)⟩

theorem State.mem_capture {s : State} {o o' : Occurrence} (h : o' ∈ (s.capture o).2) : o'.cls = .queueOverflow := by
  unfold State.capture at h
  split at h
  · cases h
  · rcases List.mem_append.mp h with h | h
    · exact State.mem_overflowOf h
    · exact State.mem_overflowOf h

/-- Occurrences passed while one was taken are QUEUE_OVERFLOW's, for the LOG and the STATUS that a capture queues. -/
theorem State.mem_takeOccurrence {s : State} {o o' : Occurrence} (h : o' ∈ (s.takeOccurrence o).2) :
    o'.cls = .queueOverflow := by
  unfold State.takeOccurrence at h
  dsimp only at h
  split at h
  · cases h
  · exact State.mem_capture h

/-- What the capture of an occurrence leaves in the Fault Unit, once it has been counted. -/
theorem State.capture_faults (s : State) (o : Occurrence) :
    (s.capture o).1.faults.classes = s.faults.classes
      ∧ (s.faults.first = none → (s.capture o).1.faults.first = some (o.captured s.faults.service))
      ∧ (∀ x, s.faults.first = some x → (s.capture o).1.faults.first = some x ∧ (s.capture o).1.faults.overflow = true) := by
  unfold State.capture
  split
  · next x hx => exact ⟨rfl, fun hn => (by rw [hx] at hn; cases hn), fun y hy => ⟨hy, rfl⟩⟩
  · next hn => exact ⟨rfl, fun _ => rfl, fun x hx => (by rw [hn] at hx; cases hx)⟩

/-- What one occurrence leaves in the Fault Unit before those passed while it was taken. -/
theorem State.takeOccurrence_faults (s : State) (o : Occurrence) :
    (s.takeOccurrence o).1.faults.classes = (s.faults.countOccurrence o.cls).classes
      ∧ ((s.faults.cls o.cls).mask = false → s.faults.first = none →
          (s.takeOccurrence o).1.faults.first = some (o.captured s.faults.service))
      ∧ ((s.faults.cls o.cls).mask = false → ∀ x, s.faults.first = some x →
          (s.takeOccurrence o).1.faults.first = some x ∧ (s.takeOccurrence o).1.faults.overflow = true) := by
  have hmask : ((s.onFaults (FaultUnit.countOccurrence o.cls)).faults.cls o.cls).mask = (s.faults.cls o.cls).mask :=
    FaultUnit.cls_countOccurrence_keeps (·.mask) (fun _ => rfl) s.faults o.cls o.cls
  obtain ⟨hcls, hnone, hsome⟩ := (s.onFaults (FaultUnit.countOccurrence o.cls)).capture_faults o
  unfold State.takeOccurrence
  dsimp only
  rw [hmask]
  cases (s.faults.cls o.cls).mask with
  | true => exact ⟨rfl, nofun, nofun⟩
  | false =>
    simp only [Bool.false_eq_true, if_false]
    split <;> exact ⟨hcls, fun _ => hnone, fun _ => hsome⟩

theorem State.takeOccurrence_countsOverflow {s : State} {o : Occurrence} (h : o.cls = .queueOverflow) :
    s.CountsOverflow (s.takeOccurrence o).1 := by
  refine ⟨fun d hd => ?_, (State.takeOccurrence_keepsSetup s o).first⟩
  rw [FaultUnit.cls_congr (State.takeOccurrence_faults s o).1, h]
  exact FaultUnit.cls_countOccurrence_of_ne _ hd

theorem State.foldl_countsOverflow {f : State → Occurrence → State}
    (hf : ∀ (s : State) (o : Occurrence), o.cls = .queueOverflow → s.CountsOverflow (f s o)) {l : List Occurrence}
    (hl : ∀ o ∈ l, o.cls = .queueOverflow) (s : State) : s.CountsOverflow (l.foldl f s) := by
  induction l generalizing s with
  | nil => exact .refl s
  | cons o l ih => exact (hf s o (hl o (.head l))).trans (ih (fun o' h => hl o' (.tail o h)) _)

/-- The occurrences passed while one was taken count QUEUE_OVERFLOW only. -/
theorem State.occur_countsOverflow_after (s : State) (o : Occurrence) :
    (s.takeOccurrence o).1.CountsOverflow (s.occur o) :=
  State.foldl_countsOverflow (fun _ _ h => State.takeOccurrence_countsOverflow h) (fun _ h => State.mem_takeOccurrence h) _

theorem State.occur_countsOverflow {s : State} {o : Occurrence} (h : o.cls = .queueOverflow) : s.CountsOverflow (s.occur o) :=
  (State.takeOccurrence_countsOverflow h).trans (s.occur_countsOverflow_after o)

theorem State.raise_countsOverflow (s : State) (x : AlertSource) : s.CountsOverflow (s.raise x) :=
  State.CountsOverflow.trans (t := (s.raiseStep x).1) ⟨fun _ _ => rfl, fun _ h => h⟩
    (State.foldl_countsOverflow (fun _ _ h => State.occur_countsOverflow h) (fun _ h => State.mem_overflowOf h) _)

theorem State.queueReport_countsOverflow (s : State) (k : Kind) (c : Option Nat) (p : List Byte) :
    s.CountsOverflow (s.queueReport k c p) :=
  State.CountsOverflow.trans (t := (s.putReport k c p).1) ⟨fun _ _ => rfl, fun _ h => h⟩
    (State.foldl_countsOverflow (fun _ _ h => State.occur_countsOverflow h) (fun _ h => State.mem_overflowOf h) _)

/-- R150: the record captured by an occurrence that finds it EMPTY. -/
theorem State.occur_captures {s : State} {o : Occurrence} (hm : (s.faults.cls o.cls).mask = false)
    (hn : s.faults.first = none) : (s.occur o).faults.first = some (o.captured s.faults.service) :=
  (s.occur_countsOverflow_after o).kept _ ((s.takeOccurrence_faults o).2.1 hm hn)

/-- An overflow flag once set stays set. -/
theorem State.overflow_handOffs : State.HandOffs (fun s => s.faults.overflow = true) where
  put _ _ h := h
  raise _ _ h := h
  count _ _ h := h
  first _ _ _ h := h
  overflow _ _ := rfl
  due _ h := h

/-- R150: an occurrence of any class but QUEUE_OVERFLOW is taken. -/
theorem State.occur_took {s : State} {o : Occurrence} (hlen : s.faults.classes.length = 16) (ho : o.cls ≠ .queueOverflow) :
    FaultUnit.Took o s.faults (s.occur o).faults := by
  have after := s.occur_countsOverflow_after o
  obtain ⟨hcls, hnone, hsome⟩ := s.takeOccurrence_faults o
  refine ⟨?_, fun d _ hd hq => ?_, fun hm hn => State.occur_captures hm hn, fun hm x hx => ⟨?_, ?_⟩⟩
  · rw [after.others _ ho, FaultUnit.cls_congr hcls]
    exact FaultUnit.cls_countOccurrence hlen _
  · rw [after.others d hq, FaultUnit.cls_congr hcls]
    exact FaultUnit.cls_countOccurrence_of_ne _ hd
  · exact after.kept x (hsome hm x hx).1
  · rw [(State.occur_quiet (.inl (by rw [hx]; rfl))).2.2, hm]
    simp

theorem State.fault_took {s : State} {cls : FaultClass} (hlen : s.faults.classes.length = 16) (h : cls ≠ .queueOverflow)
    (st : Option Station) (k c : Option Nat) :
    FaultUnit.Took (s.occurrence cls st k c) s.faults (s.fault cls st k c).faults :=
  State.occur_took hlen h

end Sys2Proof.Machine

/-! # The transmit queue (R145, R146) -/

namespace Sys2Proof.Machine

/-! ## Every step keeps the queue -/

theorem Link.QueueOk.put {l : Link} (h : l.QueueOk) (e : TxEntry) (hage : e.age < l.nextAge) (n : Nat) (hn : l.nextAge ≤ n) :
    ({ l with queue := (putEntry e l.queue).1, nextAge := n } : Link).QueueOk := by
  obtain ⟨hlen, hsorted, hkeys, hq, ht⟩ := h
  refine ⟨putEntry_length e _ hlen, putEntry_sorted e _ hsorted, putEntry_keys e _ hkeys, fun x hx => ?_,
    fun x hx => (ht x hx).trans_le hn⟩
  rcases putEntry_cases e l.queue with he | ⟨y, -, -, -, hy, hall⟩
  · rw [he] at hx
    exact (hq x hx).trans_le hn
  · rcases hall x hx with rfl | hx
    · exact (hy.trans_lt hage).trans_le hn
    · exact (hq x hx).trans_le hn

theorem Link.QueueOk.younger {l : Link} (h : l.QueueOk) {n : Nat} (hn : l.nextAge ≤ n) :
    ({ l with nextAge := n } : Link).QueueOk := by
  obtain ⟨hlen, hsorted, hkeys, hq, ht⟩ := h
  exact ⟨hlen, hsorted, hkeys, fun x hx => (hq x hx).trans_le hn, fun x hx => (ht x hx).trans_le hn⟩

theorem State.putReport_queueOk {s : State} (h : s.link.QueueOk) (k : Kind) (c : Option Nat) (p : List Byte) :
    (s.putReport k c p).1.link.QueueOk :=
  (h.younger (Nat.le_succ _)).put { kind := k, cyl := c, payload := p, age := s.link.nextAge } (Nat.lt_succ_self _) _ le_rfl

theorem State.queueOk_handOffs : State.HandOffs (fun s => s.link.QueueOk) where
  put _ p h := State.putReport_queueOk h .log none p
  raise s x h := State.putReport_queueOk (s := s.onAlert (AlertUnit.latchSource x)) h .status none []
  count _ _ h := h
  first _ _ _ h := h
  overflow _ h := h
  due _ h := h

/-- A link with the same queue, the same place for the next entry and no other entry under way. -/
theorem Link.QueueOk.congr {l l' : Link} (h : l.QueueOk) (hq : l'.queue = l.queue) (ha : l'.nextAge = l.nextAge)
    (ht : l'.transmitter = l.transmitter ∨ l'.transmitter = .idle) : l'.QueueOk := by
  obtain ⟨hlen, hsorted, hkeys, hages, hunder⟩ := h
  unfold Link.QueueOk
  rw [hq, ha]
  refine ⟨hlen, hsorted, hkeys, hages, fun e he => ?_⟩
  rcases ht with ht | ht
  · rw [ht] at he
    exact hunder e he
  · rw [ht] at he
    cases he

/-- R147: a removal takes entries from the queue. -/
theorem Link.QueueOk.remove {l : Link} (h : l.QueueOk) (p : TxEntry → Bool) : (l.removeEntries p).QueueOk := by
  obtain ⟨hlen, hsorted, hkeys, hages, hunder⟩ := h
  refine ⟨(List.length_filter_le _ _).trans hlen, hsorted.filter _, hkeys.filter _,
    fun e he => hages e (List.mem_of_mem_filter he), fun e he => hunder e ?_⟩
  have entry : (l.removeEntries p).transmitter.entry = l.transmitter.entry := by
    unfold Link.removeEntries
    cases l.transmitter <;> rfl
  rwa [entry] at he

theorem State.enterWithdrawn_link (s : State) : s.enterWithdrawn.link = s.link.removeEntries purgedByWithdrawal := by
  unfold State.enterWithdrawn
  dsimp only
  split <;> exact congrArg (Link.removeEntries purgedByWithdrawal) s.abortAll_link

theorem State.carryWithdrawal_queueOk {s : State} (h : s.link.QueueOk) : s.carryWithdrawal.link.QueueOk := by
  rcases s.carryWithdrawal_cases with ⟨-, e⟩ | ⟨-, e⟩ | ⟨-, e⟩ <;> rw [e]
  · exact h
  · exact h
  · rw [State.enterWithdrawn_link]
    exact h.remove _

theorem State.queueOk_of_moves {s t : State} (h : s.Moves t) (hs : s.link.QueueOk) : t.link.QueueOk := by
  induction h with
  | write _ h => rw [State.control_link h]; exact hs
  | occur s o => exact State.queueOk_handOffs.occur o hs
  | raise s x => exact State.queueOk_handOffs.raised x hs
  | report s k c p => exact State.queueOk_handOffs.report (State.putReport_queueOk hs k c p)
  | remove s p => exact hs.remove p
  | carry s _ => exact State.carryWithdrawal_queueOk hs
  | service s => exact State.updateService_handOffs State.queueOk_handOffs (fun _ _ h => h) hs
  | link s f hq ha ht => exact hs.congr hq ha ht
  | node s f h _ => exact hs
  | join s _ h => exact hs
  | line s => exact hs
  | trans _ _ ih ih' => exact ih' (ih hs)

theorem Link.startFrom_keeps (im : Image) (l : Link) : (l.startFrom im).queue = l.queue ∧ (l.startFrom im).nextAge = l.nextAge
    ∧ (l.startFrom im).transmitter = l.transmitter := by
  unfold Link.startFrom
  split <;> exact ⟨rfl, rfl, rfl⟩

theorem Link.QueueOk.begin {l : Link} (h : l.QueueOk) {e : TxEntry} (he : e ∈ l.queue) (contents : List Byte) :
    (l.begin e contents).QueueOk := by
  obtain ⟨hlen, hsorted, hkeys, hages, -⟩ := h
  obtain ⟨d, r, hr⟩ := Link.readFrame_keeps [false] l
  unfold Link.begin
  rw [hr]
  have sub : (l.queue.erase e).Sublist l.queue := List.erase_sublist
  refine ⟨sub.length_le.trans hlen, hsorted.sublist sub, hkeys.sublist sub, fun x hx => hages x (sub.mem hx), fun x hx => ?_⟩
  cases Option.mem_toList.mp hx
  exact hages e he

theorem State.reinsert_queueOk {s : State} (h : s.link.QueueOk) {e : TxEntry} (he : e.age < s.link.nextAge) :
    (s.reinsert e).link.QueueOk := by
  refine State.HandOffs.foldl (P := fun s => s.link.QueueOk) (fun _ o h => State.queueOk_handOffs.occur o h) _ ?_
  refine h.put _ ?_ _ le_rfl
  split <;> exact he

theorem State.clearFaults_link (s : State) : s.clearFaults.link = s.link := by
  unfold State.clearFaults
  dsimp only
  split <;> rfl

theorem State.queueOk_of_turns {c : Instr} {s t : State} (h : State.Turns c s t) (hs : s.link.QueueOk) : t.link.QueueOk := by
  cases h with
  | accept t bytes second im hc hp hj =>
    obtain ⟨hq, ha, ht⟩ := Link.startFrom_keeps im s.link
    exact hs.congr hq ha (.inl ht)
  | unconfigure t bytes hc hp => exact State.queueOk_of_moves s.unconfigured_moves (hs.congr rfl rfl (.inl rfl))
  | run t hc hn => exact State.queueOk_of_moves s.listenEnded_moves hs
  | begin t e contents hc hb he hk hp => exact hs.begin he contents
  | lose e left cells ht =>
    obtain ⟨d, r, hr⟩ := Link.readFrame_keeps cells s.link
    have kept : (s.lost cells).link.QueueOk := hs.congr (by simp [State.lost, hr]) (by simp [State.lost, hr]) (.inr rfl)
    refine State.reinsert_queueOk kept ?_
    show e.age < (s.link.readFrame cells).nextAge
    rw [hr]
    exact hs.2.2.2.2 e (by rw [ht]; simp [Transmitter.entry])
  | holdOff => exact hs
  | serve seq set holdOff ho hn => exact hs
  | clear ho hn => rw [State.clearFaults_link]; exact hs
  | hold ho hn => exact (s.abortAll_link ▸ hs).remove _
  | resume ho hn => exact hs
  | restart ho hn => exact (s.abortAll_link ▸ hs).remove _

theorem Transmitter.elapse_entry (d : Nat) (x : Transmitter) : (x.elapse d).entry = x.entry := by
  cases x with
  | idle => rfl
  | sending e => rfl
  | arbitrating e removed left =>
    unfold Transmitter.elapse
    dsimp only
    split <;> rfl

theorem State.advance_queueOk {s : State} (h : s.link.QueueOk) (t : Tick) : (s.advance t).link.QueueOk := by
  obtain ⟨hlen, hsorted, hkeys, hages, hunder⟩ := h
  refine ⟨hlen, hsorted, hkeys, hages, fun e he => hunder e ?_⟩
  rwa [show (s.advance t).link.transmitter = s.link.transmitter.elapse _ from rfl, Transmitter.elapse_entry] at he

theorem step_keeps_queueOk {s t : State} (hs : s.link.QueueOk) (h : step s = .next t) : t.link.QueueOk :=
  step_keeps_of_moves (P := fun s => s.link.QueueOk) (fun _ _ h => h) (fun _ _ _ => (by decide : Link.powerOn.QueueOk))
    (fun _ t h => State.advance_queueOk h t) (fun _ _ => State.queueOk_of_moves) (fun _ _ _ => State.queueOk_of_turns) hs h

/-! ## What queuing a report does -/

/-- Of two entries with one key in a coalesced queue there is only one. -/
theorem eq_of_sameKey {q : List TxEntry} (hkeys : q.Pairwise (fun a b => a.sameKey b = false)) {x y : TxEntry} (hx : x ∈ q)
    (hy : y ∈ q) (h : x.sameKey y = true) : x = y := by
  by_contra hne
  have symmetric : Std.Symm (fun a b : TxEntry => a.sameKey b = false) :=
    ⟨fun a b hab => (TxEntry.sameKey_comm b a).trans hab⟩
  have apart := hkeys.forall hx hy hne
  rw [h] at apart
  cases apart

theorem TxEntry.sameKey_trans {a b c : TxEntry} (h : a.sameKey b = true) (h' : b.sameKey c = true) : a.sameKey c = true := by
  rw [TxEntry.sameKey_iff] at *
  exact ⟨h.1.trans h'.1, h.2.trans h'.2⟩

/-- Taking the entry of a key out of a coalesced queue. -/
theorem filter_key_perm_erase {q : List TxEntry} (hkeys : q.Pairwise (fun a b => a.sameKey b = false)) {x e : TxEntry}
    (hx : x ∈ q) (h : x.sameKey e = true) : (q.filter (fun y => !y.sameKey e)).Perm (q.erase x) := by
  have nodup : q.Nodup := hkeys.imp fun {a b} hab heq => by
    rw [heq, (TxEntry.sameKey_iff b b).mpr ⟨rfl, rfl⟩] at hab
    cases hab
  rw [nodup.erase_eq_filter]
  refine (List.filter_congr fun y hy => ?_).symm ▸ List.Perm.refl _
  rw [Bool.eq_iff_iff, Bool.not_eq_true', bne_iff_ne]
  constructor
  · rintro hk rfl
    rw [h] at hk
    cases hk
  · intro hne
    rw [Bool.eq_false_iff]
    intro hk
    exact hne (eq_of_sameKey hkeys hy hx (TxEntry.sameKey_trans hk ((TxEntry.sameKey_comm e x).trans h)))

/-- R145: an entry of a waiting key takes the place of the one that waits, with its own contents. -/
theorem putEntry_replaces {q : List TxEntry} (hkeys : q.Pairwise (fun a b => a.sameKey b = false)) {x e : TxEntry} (hx : x ∈ q)
    (h : x.sameKey e = true) (hage : x.age ≤ e.age) :
    (putEntry e q).1.Perm ({ x with payload := e.payload } :: q.erase x)
      ∧ (putEntry e q).2 = if replacementLost e.kind then some (e.kind, e.cyl) else none := by
  obtain ⟨y, hy⟩ := Option.isSome_iff_exists.mp (List.find?_isSome (p := fun y => y.sameKey e) |>.mpr ⟨x, hx, h⟩)
  have hk : y.sameKey e = true := List.find?_some (p := fun z : TxEntry => z.sameKey e) hy
  have hyx : y = x := eq_of_sameKey hkeys (List.mem_of_find?_eq_some hy) hx
    (TxEntry.sameKey_trans hk ((TxEntry.sameKey_comm e x).trans h))
  subst hyx
  unfold putEntry
  rw [hy]
  refine ⟨(insertEntry_perm _ _).trans ?_, rfl⟩
  rw [show coalesce y e = { y with payload := e.payload } from if_pos hage]
  exact (filter_key_perm_erase hkeys hx h).cons _

theorem putEntry_of_free {q : List TxEntry} {e : TxEntry} (hfree : ∀ x ∈ q, x.sameKey e = false) :
    q.find? (fun x => x.sameKey e) = none := by
  rw [List.find?_eq_none]
  intro x hx
  rw [hfree x hx]
  decide

/-- R145: an entry of a new key takes a free place. -/
theorem putEntry_takes_place {q : List TxEntry} {e : TxEntry} (hfree : ∀ x ∈ q, x.sameKey e = false) (hlen : q.length < 12) :
    (putEntry e q).1.Perm (e :: q) ∧ (putEntry e q).2 = none := by
  unfold putEntry
  rw [putEntry_of_free hfree]
  dsimp only
  rw [if_pos (show q.length < Config.queueSize from hlen)]
  exact ⟨insertEntry_perm _ _, rfl⟩

/-- R146: the entry that a full queue gives up stands last. -/
theorem TxEntry.Displaces.getLast? {q : List TxEntry} {e d : TxEntry} (h : e.Displaces d q)
    (hsorted : q.Pairwise (fun a b => a.notAfter b = true)) : q.getLast? = some d := by
  obtain ⟨hd, -, hall⟩ := h
  cases hl : q.getLast? with
  | none =>
    rw [List.getLast?_eq_none_iff.mp hl] at hd
    cases hd
  | some last =>
    have hq := List.dropLast_append_getLast? last hl
    by_contra hne
    have hlast : last ∈ q := List.mem_of_getLast? hl
    have hinit : d ∈ q.dropLast := by
      rw [← hq] at hd
      rcases List.mem_append.mp hd with hd | hd
      · exact hd
      · exact absurd (congrArg some (List.mem_singleton.mp hd).symm) hne
    rw [← hq] at hsorted
    have hafter := (List.pairwise_append.mp hsorted).2.2 d hinit last (List.mem_singleton_self last)
    rw [TxEntry.notAfter_iff] at hafter
    rcases hall last hlast with rfl | hlt | ⟨hk, hage⟩
    · exact hne rfl
    · omega
    · rw [hk] at hafter
      omega

/-- R146: a full queue gives up its last entry for one that ranks above it. -/
theorem putEntry_gives_up {q : List TxEntry} {e d : TxEntry} (hfree : ∀ x ∈ q, x.sameKey e = false) (hfull : 12 ≤ q.length)
    (hsorted : q.Pairwise (fun a b => a.notAfter b = true)) (h : e.Displaces d q) :
    (putEntry e q).1.Perm (e :: q.erase d) ∧ (putEntry e q).2 = some (d.kind, d.cyl) := by
  have hlast := h.getLast? hsorted
  have hq := List.dropLast_append_getLast? d hlast
  unfold putEntry
  rw [putEntry_of_free hfree]
  dsimp only
  rw [if_neg (show ¬q.length < Config.queueSize from Nat.not_lt.mpr hfull), hlast]
  dsimp only
  rw [if_pos h.2.1]
  refine ⟨(insertEntry_perm _ _).trans (.cons _ ?_), rfl⟩
  have whole : q.Perm (d :: q.dropLast) := by
    conv_lhs => rw [← hq]
    exact List.perm_append_comm
  have erased := whole.erase d
  rw [List.erase_cons_head] at erased
  exact erased.symm

/-- R146: a full queue of entries that rank no lower keeps them all. -/
theorem putEntry_refuses {q : List TxEntry} {e : TxEntry} (hfree : ∀ x ∈ q, x.sameKey e = false) (hfull : 12 ≤ q.length)
    (h : ∀ x ∈ q, x.kind.code ≤ e.kind.code) : (putEntry e q) = (q, some (e.kind, e.cyl)) := by
  unfold putEntry
  rw [putEntry_of_free hfree]
  dsimp only
  rw [if_neg (show ¬q.length < Config.queueSize from Nat.not_lt.mpr hfull)]
  split
  · next last hlast => rw [if_neg (Nat.not_lt.mpr (h last (List.mem_of_getLast? hlast)))]
  · rfl

/-- A report whose queuing passes no occurrence. -/
theorem State.queueReport_of_none {s : State} {k : Kind} {c : Option Nat} {payload : List Byte}
    (h : (putEntry { kind := k, cyl := c, payload := payload, age := s.link.nextAge } s.link.queue).2 = none) :
    s.queueReport k c payload = (s.putReport k c payload).1 := by
  unfold State.queueReport
  dsimp only
  rw [show (s.putReport k c payload).2 = [] from by unfold State.putReport; dsimp only; rw [h]; rfl]
  rfl

/-- A report whose queuing passes a QUEUE_OVERFLOW. -/
theorem State.queueReport_of_some {s : State} {k k' : Kind} {c c' : Option Nat} {payload : List Byte}
    (h : (putEntry { kind := k, cyl := c, payload := payload, age := s.link.nextAge } s.link.queue).2 = some (k', c')) :
    s.queueReport k c payload
      = (s.putReport k c payload).1.occur (s.occurrence .queueOverflow none (some k'.code) c') := by
  unfold State.queueReport
  dsimp only
  rw [show (s.putReport k c payload).2 = [s.occurrence .queueOverflow none (some k'.code) c'] from by
    unfold State.putReport; dsimp only; rw [h]; rfl]
  rfl

theorem replacementLost_iff (k : Kind) : replacementLost k = true ↔ k = .verdict ∨ k = .tally := by
  cases k <;> simp [replacementLost]

/-- Settles O9: the queue's invariant by moves and turns, and the four ways of `putEntry` with the occurrence each passes. -/
theorem stepKeepsTheQueue : Obligations.StepKeepsTheQueue := by
  refine ⟨fun s t hs h => step_keeps_queueOk hs h, fun s k c payload hf hq => ?_⟩
  intro e t free overflow masked full quiet
  obtain ⟨hlen, -⟩ := hf
  obtain ⟨-, hsorted, hkeys, hages, -⟩ := id hq
  let p := (s.putReport k c payload).1
  have passed : ∀ k' c', (putEntry e s.link.queue).2 = some (k', c') → t = p.occur (overflow k' c') :=
    fun k' c' h => State.queueReport_of_some h
  have whenQuiet : ∀ k' c', (putEntry e s.link.queue).2 = some (k', c') → quiet →
      t.link.queue = (putEntry e s.link.queue).1 ∧ FaultUnit.Took (overflow k' c') s.faults t.faults := by
    intro k' c' h hquiet
    rw [passed k' c' h]
    exact ⟨congrArg Link.queue (State.occur_quiet (s := p) (o := overflow k' c') hquiet).1, State.occur_took_quiet (s := p) (o := overflow k' c') hlen hquiet⟩
  have whenLoud : ∀ k' c', (putEntry e s.link.queue).2 = some (k', c') → ¬quiet →
      t.faults.first = some ((overflow k' c').captured s.faults.service) := by
    intro k' c' h hloud
    obtain ⟨hn, hm⟩ := not_or.mp hloud
    rw [passed k' c' h]
    exact State.occur_captures (s := p) (Bool.eq_false_iff.mpr hm) (Option.not_isSome_iff_eq_none.mp hn)
  refine ⟨State.queueReport_body _ _ _ _, fun x hx hkey => ?replace, fun hfree hfull => ?place, fun d hfree hfull hd hquiet => ?gives,
    fun hfree hfull hall hquiet => ?refuses, fun d hfree hfull hd hloud => ?givesLoud, fun hfree hfull hall hloud => ?refusesLoud⟩
  case replace =>
    obtain ⟨hperm, hlost⟩ := putEntry_replaces hkeys hx hkey (hages x hx).le
    have silent : k ≠ .verdict → k ≠ .tally → t = p := fun hv ht =>
      State.queueReport_of_none (hlost.trans (if_neg (mt (replacementLost_iff k).mp (by simp [hv, ht]))))
    have loses : k = .verdict ∨ k = .tally → (putEntry e s.link.queue).2 = some (k, c) := fun h =>
      hlost.trans (if_pos ((replacementLost_iff k).mpr h))
    refine ⟨fun h => ?_, fun hv ht => by rw [silent hv ht]; rfl, fun h hquiet => (whenQuiet k c (loses h) hquiet).2,
      fun h hloud => ⟨?_, whenLoud k c (loses h) hloud⟩⟩
    · by_cases hk : k = .verdict ∨ k = .tally
      · rw [(whenQuiet k c (loses hk) (h.resolve_left fun hn => hk.elim hn.1 hn.2)).1]
        exact hperm
      · rw [silent (fun hv => hk (.inl hv)) (fun ht => hk (.inr ht))]
        exact hperm
    · rw [passed k c (loses h)]
      refine State.occur_keepsReports p _ _ (hperm.mem_iff.mpr (.head _)) ?_ ?_
      · rw [show x.kind = k from ((TxEntry.sameKey_iff x e).mp hkey).1]
        rcases h with rfl | rfl <;> decide
      · rw [show x.kind = k from ((TxEntry.sameKey_iff x e).mp hkey).1]
        rcases h with rfl | rfl <;> decide
  case place =>
    obtain ⟨hperm, hnone⟩ := putEntry_takes_place hfree (Nat.not_le.mp hfull)
    rw [show t = p from State.queueReport_of_none hnone]
    exact ⟨hperm, rfl⟩
  case gives =>
    obtain ⟨hperm, hsome⟩ := putEntry_gives_up hfree hfull hsorted hd
    obtain ⟨hqueue, htook⟩ := whenQuiet _ _ hsome hquiet
    rw [hqueue]
    exact ⟨hperm, htook⟩
  case refuses =>
    have hput := putEntry_refuses hfree hfull hall
    obtain ⟨hqueue, htook⟩ := whenQuiet k c (by rw [hput]) hquiet
    rw [hqueue, hput]
    exact ⟨rfl, htook⟩
  case givesLoud => exact whenLoud _ _ (putEntry_gives_up hfree hfull hsorted hd).2 hloud
  case refusesLoud => exact whenLoud k c (by rw [putEntry_refuses hfree hfull hall]) hloud

end Sys2Proof.Machine

/-! # What every command keeps: the base, the parameters, the first fault, the transmitter, the node state -/

namespace Sys2Proof.Machine

/-! ## Aborts write the Record Table and the Cylinder Table only -/

theorem State.foldl_countSlotAbort (l : List (Option Record)) (s : State) :
    ∃ cs, l.foldl State.countSlotAbort s = { s with cylinders := cs } := by
  induction l generalizing s with
  | nil => exact ⟨_, rfl⟩
  | cons o l ih =>
    obtain ⟨cs, h⟩ := ih (s.countSlotAbort o)
    refine ⟨cs, h.trans ?_⟩
    cases o <;> rfl

theorem State.abortAll_eq (s : State) :
    ∃ cs, s.abortAll = { s with cylinders := cs, records := s.records.map (fun _ => none) } := by
  obtain ⟨cs, h⟩ := State.foldl_countSlotAbort s.records s
  refine ⟨cs, ?_⟩
  unfold State.abortAll
  rw [h]
  rfl

section Fields
variable (s : State)

theorem State.enterProbing_eq : s.enterProbing = { s with
    node := { s.node with state := .probing, probe := some Config.probeTicks, listen := none, statusTimer := none }
    chanA := s.chanA.atProbing, chanB := s.chanB.atProbing
    alert := { s.alert with line := .released, holdOff := none } } := rfl

theorem State.enterHold_eq : ∃ cs, s.enterHold = { s with
    cylinders := cs, records := s.records.map (fun _ => none)
    chanA := s.chanA.abandon, chanB := s.chanB.abandon
    link := s.link.removeEntries purgedByHold
    node := { s.node with state := .hold } } := by
  obtain ⟨cs, h⟩ := s.abortAll_eq
  refine ⟨cs, ?_⟩
  unfold State.enterHold
  rw [h]
  rfl

theorem State.restart_eq : s.restart = State.enterProbing { s with
    tracker := Tracker.powerOn, estimator := Estimator.empty
    cylinders := cylindersFromImage s.params s.station, records := s.records.map (fun _ => none)
    markCounted := false, peers := peersFromImage s.params s.station
    context := Context.powerOn, link := s.link.removeEntries (fun _ => true) } := by
  obtain ⟨cs, h⟩ := s.abortAll_eq
  unfold State.restart
  rw [h]
  rfl

theorem State.acceptImage_eq (im : Image) : s.acceptImage im = State.enterProbing { s with
    image := some im, node := { s.node with port := .idle }
    faults := s.faults.configure im, alert := s.alert.configure im
    cylinders := cylindersFromImage im s.station, peers := peersFromImage im s.station
    link := s.link.startFrom im } := rfl

end Fields

/-! ## The base: the queue of commands, the instant and the station -/

/-- Two states share the queue of commands, the instant and the station number. -/
structure State.SameBase (s t : State) : Prop where
  pending : t.pending = s.pending
  now : t.now = s.now
  station : t.station = s.station

theorem State.SameBase.of_ground {s t : State} (h : t.ground = s.ground) : s.SameBase t :=
  ⟨State.ground_pending h, State.ground_now h, State.ground_station h⟩

theorem State.SameBase.of_body {s t : State} (h : t.body = s.body) : s.SameBase t :=
  .of_ground (State.ground_of_outer (State.outer_of_body h))

theorem State.SameBase.trans {s t u : State} (h : s.SameBase t) (h' : t.SameBase u) : s.SameBase u :=
  ⟨h'.pending.trans h.pending, h'.now.trans h.now, h'.station.trans h.station⟩

theorem State.carryWithdrawal_ground (s : State) : s.carryWithdrawal.ground = s.ground := by
  rcases s.carryWithdrawal_cases with ⟨-, e⟩ | ⟨-, e⟩ | ⟨-, e⟩ <;> rw [e]
  · rfl
  · exact State.enterWithdrawn_ground (s.setWithdrawDue false)

theorem State.MovesIn.sameBase {s t : State} (h : s.Moves t) : s.SameBase t := by
  induction h with
  | write _ h => exact ⟨State.control_pending h, State.control_now h, State.control_station h⟩
  | occur s o => exact .of_body (s.occur_body o)
  | raise s x => exact .of_body (s.raise_body x)
  | report s k c p => exact .of_body (s.queueReport_body k c p)
  | remove s p => exact ⟨rfl, rfl, rfl⟩
  | carry s _ => exact .of_ground s.carryWithdrawal_ground
  | service s => exact .of_body s.updateService_body
  | link s f _ _ _ => exact ⟨rfl, rfl, rfl⟩
  | node s f h _ => exact ⟨rfl, rfl, rfl⟩
  | join s _ h => exact ⟨rfl, rfl, rfl⟩
  | line s => exact ⟨rfl, rfl, rfl⟩
  | trans _ _ ih ih' => exact ih.trans ih'

theorem State.enterUnconfigured_node (s : State) : s.enterUnconfigured.node = s.unconfigured.node := by
  rw [State.enterUnconfigured_eq, State.body_node (State.fault_body _ _ _ _ _), State.onAlert_node,
    State.unconfigured_served_node]

theorem State.Turns.sameBase {c : Instr} {s t : State} (h : State.Turns c s t) : s.SameBase t := by
  cases h with
  | accept t bytes second im hc hp hj =>
    rw [s.acceptImage_eq im]
    exact ⟨rfl, rfl, rfl⟩
  | unconfigure t bytes hc hp => exact .trans (t := s.unconfigured) ⟨rfl, rfl, rfl⟩ s.unconfigured_moves.sameBase
  | run t hc hn => exact .trans (t := s.listenEnded) ⟨rfl, rfl, rfl⟩ s.listenEnded_moves.sameBase
  | begin t e contents hc hb he hk hp => exact ⟨rfl, rfl, rfl⟩
  | lose e left cells ht =>
    exact .trans (t := (s.lost cells).reinserted e) ⟨rfl, rfl, rfl⟩ ((s.lost cells).reinserted_moves e).sameBase
  | holdOff => exact ⟨rfl, rfl, rfl⟩
  | serve seq set holdOff ho hn => exact ⟨rfl, rfl, rfl⟩
  | clear ho hn =>
    unfold State.clearFaults
    dsimp only
    split <;> exact ⟨rfl, rfl, rfl⟩
  | hold ho hn =>
    obtain ⟨cs, h⟩ := s.enterHold_eq
    rw [h]
    exact ⟨rfl, rfl, rfl⟩
  | resume ho hn => exact ⟨rfl, rfl, rfl⟩
  | restart ho hn =>
    rw [s.restart_eq]
    exact ⟨rfl, rfl, rfl⟩

/-- A relation that moves, and a turn after its prelude, bring about is brought about by a whole command. -/
theorem exec_related {R : State → State → Prop} (trans : ∀ {s t u : State}, R s t → R t u → R s u)
    (moves : ∀ {s t : State}, s.Moves t → R s t) {c : Instr} (hc : ∀ t straps, c ≠ .resetNRelease t straps) (s : State)
    (turns : ∀ u t : State, State.Turns c u t → R u t) :
    R (s.advance c.instant) (c.act (s.advance c.instant)).settle := by
  refine trans ?_ (moves (State.MovesIn.settle _))
  rcases act_acts hc (s.advance c.instant) with hm | ⟨u, hp, ht⟩
  · exact moves hm
  · exact trans (moves hp.moves) (turns u _ ht)

/-- Settles O2: RESET_N_RELEASE by its definition, every other command as time, moves and turns. -/
theorem everyCommandCompletes : Obligations.EveryCommandCompletes := by
  intro c s
  rcases reset_or_not c with ⟨τ, straps, rfl⟩ | hc
  · exact ⟨_, exec_reset τ straps s, rfl, rfl, fun h => absurd rfl (h τ straps)⟩
  · have same : (s.advance c.instant).SameBase (c.act (s.advance c.instant)).settle :=
      exec_related (R := State.SameBase) State.SameBase.trans State.MovesIn.sameBase hc s (fun _ _ h => h.sameBase)
    exact ⟨_, exec_eq_act hc s, same.pending, same.now, fun _ => same.station⟩

/-- Settles O1, by the definition of a step. -/
theorem stepRunsTheFrontCommand : Obligations.StepRunsTheFrontCommand :=
  fun _ _ _ => ⟨step_of_pending, step_of_idle⟩

/-! ## The parameters (R23, R54, R103, R148, R155) -/

/-- Two states hold the same image, masks and severities. -/
structure State.SameSetup (s t : State) : Prop where
  image : t.image = s.image
  classes : ∀ k, (t.faults.cls k).mask = (s.faults.cls k).mask ∧ (t.faults.cls k).severity = (s.faults.cls k).severity
  sources : ∀ x, (t.alert.src x).mask = (s.alert.src x).mask

theorem State.SameSetup.trans {s t u : State} (h : s.SameSetup t) (h' : t.SameSetup u) : s.SameSetup u :=
  ⟨h'.image.trans h.image, fun k => ⟨(h'.classes k).1.trans (h.classes k).1, (h'.classes k).2.trans (h.classes k).2⟩,
    fun x => (h'.sources x).trans (h.sources x)⟩

theorem State.SameSetup.of_eq {s t : State} (hi : t.image = s.image) (hf : t.faults.classes = s.faults.classes)
    (ha : t.alert.sources = s.alert.sources) : s.SameSetup t := by
  refine ⟨hi, fun k => ?_, fun x => by rw [AlertUnit.src_congr ha]⟩
  rw [FaultUnit.cls_congr hf]
  exact ⟨rfl, rfl⟩

/-- A part of an entry read by number agrees where the lists of that part do. -/
theorem getD_map_eq {α β : Type} (g : α → β) (l : List α) (i : Nat) (d : α) : g (l.getD i d) = (l.map g).getD i (g d) := by
  rw [List.getD_eq_getElem?_getD, List.getD_eq_getElem?_getD, List.getElem?_map]
  cases l[i]? <;> rfl

theorem State.SameSetup.of_keepsSetup {s t : State} (h : s.KeepsSetup t) (hi : t.image = s.image) : s.SameSetup t := by
  refine ⟨hi, fun k => ⟨?_, ?_⟩, fun x => ?_⟩
  · unfold FaultUnit.cls
    rw [getD_map_eq ClassState.mask, getD_map_eq ClassState.mask, h.masks]
  · unfold FaultUnit.cls
    rw [getD_map_eq ClassState.severity, getD_map_eq ClassState.severity, h.severities]
  · unfold AlertUnit.src
    rw [getD_map_eq SourceState.mask, getD_map_eq SourceState.mask, h.alertMasks]

theorem State.enterWithdrawn_faults (s : State) : s.enterWithdrawn.faults = s.faults := by
  unfold State.enterWithdrawn
  dsimp only
  split <;> exact s.abortAll_faults

theorem State.carryWithdrawal_faults (s : State) : s.carryWithdrawal.faults = s.faults := by
  rcases s.carryWithdrawal_cases with ⟨-, e⟩ | ⟨-, e⟩ | ⟨-, e⟩ <;> rw [e]
  · rfl
  · exact State.enterWithdrawn_faults (s.setWithdrawDue false)

theorem State.carryWithdrawal_sources (s : State) : s.carryWithdrawal.alert.sources = s.alert.sources := by
  rcases s.carryWithdrawal_cases with ⟨-, e⟩ | ⟨-, e⟩ | ⟨-, e⟩ <;> rw [e]
  · rfl
  · rw [State.enterWithdrawn_alert]
    split
    · rfl
    · exact AlertUnit.assertLine_sources _ _

theorem State.updateService_sameSetup (s : State) : s.SameSetup s.updateService := by
  unfold State.updateService
  split
  · exact .of_eq rfl rfl rfl
  · exact .trans (t := s.onFaults _) (.of_eq rfl rfl rfl)
      (.of_keepsSetup (State.raise_keepsSetup _ _) (State.body_image (State.raise_body _ _)))

theorem State.MovesIn.sameSetup {s t : State} (h : s.Moves t) : s.SameSetup t := by
  induction h with
  | write _ h =>
    exact .of_eq (State.control_image h) (by rw [State.control_faults h]) (by rw [State.control_alert h])
  | occur s o => exact .of_keepsSetup (s.occur_keepsSetup o) (State.body_image (s.occur_body o))
  | raise s x => exact .of_keepsSetup (s.raise_keepsSetup x) (State.body_image (s.raise_body x))
  | report s k c p => exact .of_keepsSetup (s.queueReport_keepsSetup k c p) (State.body_image (s.queueReport_body k c p))
  | remove s p => exact .of_eq rfl rfl rfl
  | carry s _ =>
    exact .of_eq (State.ground_image s.carryWithdrawal_ground) (by rw [State.carryWithdrawal_faults])
      s.carryWithdrawal_sources
  | service s => exact s.updateService_sameSetup
  | link s f _ _ _ => exact .of_eq rfl rfl rfl
  | node s f h _ => exact .of_eq rfl rfl rfl
  | join s _ h => exact .of_eq rfl rfl rfl
  | line s => exact .of_eq rfl rfl (AlertUnit.assertLine_sources _ _)
  | trans _ _ ih ih' => exact ih.trans ih'

theorem getD_map_range {α : Type} {n i : Nat} (h : i < n) (f : Nat → α) (d : α) : ((List.range n).map f).getD i d = f i := by
  simp [List.getD_eq_getElem?_getD, h]

/-- R156: a source after SERVE. -/
theorem AlertUnit.src_serve (seq : BitVec 8) (set : Byte) (holdOff : Nat) (a : AlertUnit) (x : AlertSource) :
    (a.serve seq set holdOff).src x = if set.getLsbD x.index then (a.src x).serve seq else a.src x := by
  have hsources : (a.serve seq set holdOff).sources = (List.range 8).map (fun i =>
      if set.getLsbD i then (a.sources.getD i SourceState.powerOn).serve seq else a.sources.getD i SourceState.powerOn) := by
    unfold AlertUnit.serve
    dsimp only
    split <;> rfl
  unfold AlertUnit.src
  rw [hsources, getD_map_range x.index_lt]

/-- R153: a class after CLEAR FAULTS. -/
theorem FaultUnit.cls_clear (keep : Bool) (f : FaultUnit) (c : FaultClass) :
    (f.clear keep).cls c
      = if keep && c.index == 4 then f.cls c else { f.cls c with status := false, count := 0 } := by
  unfold FaultUnit.clear FaultUnit.cls
  dsimp only
  rw [getD_map_range c.index_lt]

theorem State.clearFaults_faults (s : State) : s.clearFaults.faults = s.faults.clear (s.node.state == .unconfigured) := by
  unfold State.clearFaults
  dsimp only
  split <;> rfl

theorem State.clearFaults_sources (s : State) : s.clearFaults.alert.sources = s.alert.sources := by
  unfold State.clearFaults
  dsimp only
  split <;> rfl

theorem State.clearFaults_image (s : State) : s.clearFaults.image = s.image := by
  unfold State.clearFaults
  dsimp only
  split <;> rfl

theorem State.Turns.sameSetup {c : Instr} {s t : State} (h : State.Turns c s t) (hc : ∀ τ bytes, c ≠ .configReadDone τ bytes) :
    s.SameSetup t := by
  cases h with
  | accept t bytes second im hc' hp hj => exact absurd hc' (hc t bytes)
  | unconfigure t bytes hc' hp => exact absurd hc' (hc t bytes)
  | run t hc hn => exact .trans (t := s.listenEnded) (.of_eq rfl rfl rfl) s.listenEnded_moves.sameSetup
  | begin t e contents hc hb he hk hp => exact .of_eq rfl rfl rfl
  | lose e left cells ht =>
    exact .trans (t := (s.lost cells).reinserted e) (.of_eq rfl rfl rfl) ((s.lost cells).reinserted_moves e).sameSetup
  | holdOff =>
    refine .of_eq rfl rfl ?_
    show s.alert.holdOffExpires.sources = _
    unfold AlertUnit.holdOffExpires
    split <;> rfl
  | serve seq set holdOff ho hn =>
    refine ⟨rfl, fun _ => ⟨rfl, rfl⟩, fun x => ?_⟩
    show ((s.alert.serve seq set holdOff).src x).mask = _
    rw [AlertUnit.src_serve]
    split
    · unfold SourceState.serve
      split <;> rfl
    · rfl
  | clear ho hn =>
    refine ⟨s.clearFaults_image, fun k => ?_, fun x => by rw [AlertUnit.src_congr s.clearFaults_sources]⟩
    rw [State.clearFaults_faults, FaultUnit.cls_clear]
    split <;> exact ⟨rfl, rfl⟩
  | hold ho hn =>
    obtain ⟨cs, h⟩ := s.enterHold_eq
    rw [h]
    exact .of_eq rfl rfl rfl
  | resume ho hn => exact .of_eq rfl rfl rfl
  | restart ho hn =>
    rw [s.restart_eq]
    exact .of_eq rfl rfl rfl

/-- Settles O4: moves keep the setup, and so does every turn but those of an image read. -/
theorem parametersAreHeld : Obligations.ParametersAreHeld := by
  intro c s t h hread hreset
  rw [exec_eq_act hreset] at h
  cases h
  have same : (s.advance c.instant).SameSetup (c.act (s.advance c.instant)).settle :=
    exec_related (R := State.SameSetup) State.SameSetup.trans State.MovesIn.sameSetup hreset s (fun _ _ h => h.sameSetup hread)
  exact ⟨same.image, fun k _ => same.classes k, fun x _ => same.sources x⟩

/-! ## The first fault (R150) -/

theorem State.firstIs_handOffs (x : FirstFault) : State.HandOffs (fun s => s.faults.first = some x) where
  put _ _ h := h
  raise _ _ h := h
  count _ _ h := h
  first s o hn h := by rw [hn] at h; cases h
  overflow _ h := h
  due _ h := h

/-- A FULL first-fault record keeps its contents. -/
def State.KeepsFirst (s t : State) : Prop := ∀ x, s.faults.first = some x → t.faults.first = some x

theorem State.KeepsFirst.trans {s t u : State} (h : s.KeepsFirst t) (h' : t.KeepsFirst u) : s.KeepsFirst u :=
  fun x hx => h' x (h x hx)

theorem State.KeepsFirst.of_eq {s t : State} (h : t.faults.first = s.faults.first) : s.KeepsFirst t :=
  fun _ hx => h.trans hx

theorem State.updateService_keepsFirst (s : State) : s.KeepsFirst s.updateService := fun x hx =>
  State.updateService_handOffs (State.firstIs_handOffs x) (fun _ _ h => h) hx

theorem State.MovesIn.keepsFirst {s t : State} (h : s.Moves t) : s.KeepsFirst t := by
  induction h with
  | write _ h => exact .of_eq (by rw [State.control_faults h])
  | occur s o => exact (s.occur_keepsSetup o).first
  | raise s x => exact (s.raise_keepsSetup x).first
  | report s k c p => exact (s.queueReport_keepsSetup k c p).first
  | remove s p => exact .of_eq rfl
  | carry s _ => exact .of_eq (by rw [State.carryWithdrawal_faults])
  | service s => exact s.updateService_keepsFirst
  | link s f _ _ _ => exact .of_eq rfl
  | node s f h _ => exact .of_eq rfl
  | join s _ h => exact .of_eq rfl
  | line s => exact .of_eq rfl
  | trans _ _ ih ih' => exact ih.trans ih'

theorem State.Turns.keepsFirst {c : Instr} {s t : State} (h : State.Turns c s t) (hc : ¬OrderCode.clearFaults.CarriedBy c) :
    s.KeepsFirst t := by
  cases h with
  | accept t bytes second im hc hp hj => exact .of_eq rfl
  | unconfigure t bytes hc hp => exact .trans (t := s.unconfigured) (.of_eq rfl) s.unconfigured_moves.keepsFirst
  | run t hc hn => exact .trans (t := s.listenEnded) (.of_eq rfl) s.listenEnded_moves.keepsFirst
  | begin t e contents hc hb he hk hp => exact .of_eq rfl
  | lose e left cells ht =>
    exact .trans (t := (s.lost cells).reinserted e) (.of_eq rfl) ((s.lost cells).reinserted_moves e).keepsFirst
  | holdOff => exact .of_eq rfl
  | serve seq set holdOff ho hn => exact .of_eq rfl
  | clear ho hn => exact absurd ho hc
  | hold ho hn =>
    obtain ⟨cs, h⟩ := s.enterHold_eq
    rw [h]
    exact .of_eq rfl
  | resume ho hn => exact .of_eq rfl
  | restart ho hn =>
    rw [s.restart_eq]
    exact .of_eq rfl

/-- Settles O5: only CLEAR FAULTS empties the record. -/
theorem firstFaultIsKept : Obligations.FirstFaultIsKept := by
  intro c s t f hw h hf hreset hclear
  rw [exec_eq_act hreset] at h
  cases h
  have notClear : ¬OrderCode.clearFaults.CarriedBy c := by
    rintro (⟨τ, st, target, a1, a2, rfl⟩ | hill)
    · exact hclear τ st target a1 a2 rfl
    · rw [hw] at hill
      cases hill
  exact exec_related (R := State.KeepsFirst) State.KeepsFirst.trans State.MovesIn.keepsFirst hreset s
    (fun _ _ h => h.keepsFirst notClear) f hf

/-! ## The transmitter (R139) -/

/-- A transmitter at rest stays at rest. -/
def State.StaysIdle (s t : State) : Prop := s.link.transmitter = .idle → t.link.transmitter = .idle

theorem State.StaysIdle.trans {s t u : State} (h : s.StaysIdle t) (h' : t.StaysIdle u) : s.StaysIdle u := fun hi => h' (h hi)

theorem State.StaysIdle.of_eq {s t : State} (h : t.link.transmitter = s.link.transmitter) : s.StaysIdle t :=
  fun hi => h.trans hi

theorem State.StaysIdle.of_body {s t : State} (h : t.body = s.body) : s.StaysIdle t := .of_eq (State.body_transmitter h)

theorem Link.removeEntries_transmitter_idle {l : Link} (p : TxEntry → Bool) (h : l.transmitter = .idle) :
    (l.removeEntries p).transmitter = .idle := by
  unfold Link.removeEntries
  dsimp only
  rw [h]

theorem State.MovesIn.staysIdle {s t : State} (h : s.Moves t) : s.StaysIdle t := by
  induction h with
  | write _ h => exact .of_eq (by rw [State.control_link h])
  | occur s o => exact .of_body (s.occur_body o)
  | raise s x => exact .of_body (s.raise_body x)
  | report s k c p => exact .of_body (s.queueReport_body k c p)
  | remove s p => exact Link.removeEntries_transmitter_idle p
  | carry s _ =>
    rcases s.carryWithdrawal_cases with ⟨-, e⟩ | ⟨-, e⟩ | ⟨-, e⟩ <;> rw [e]
    · exact .of_eq rfl
    · exact .of_eq rfl
    · intro hi
      rw [State.enterWithdrawn_link]
      exact Link.removeEntries_transmitter_idle _ hi
  | service s => exact .of_body s.updateService_body
  | link s f _ _ ht => exact fun hi => ht.elim (fun h => h.trans hi) id
  | node s f h _ => exact .of_eq rfl
  | join s _ h => exact .of_eq rfl
  | line s => exact .of_eq rfl
  | trans _ _ ih ih' => exact ih.trans ih'

/-- Every turn but the beginning of a transmission leaves a transmitter at rest. -/
theorem State.Turns.staysIdle {c : Instr} {s t : State} (h : State.Turns c s t) :
    s.StaysIdle t ∨ ∃ τ e contents, c = .transmissionBegin τ ∧ s.link.mayBegin = true ∧ e ∈ s.link.queue
      ∧ s.node.state.permits e.kind = true ∧ (e.kind ≠ .status → contents = e.payload)
      ∧ t = s.onLink (Link.begin e contents) := by
  cases h with
  | begin τ e contents hc hb he hk hp => exact .inr ⟨τ, e, contents, hc, hb, he, hk, hp, rfl⟩
  | accept t bytes second im hc hp hj => exact .inl (.of_eq (Link.startFrom_keeps im s.link).2.2)
  | unconfigure t bytes hc hp => exact .inl (.trans (t := s.unconfigured) (.of_eq rfl) s.unconfigured_moves.staysIdle)
  | run t hc hn => exact .inl (.trans (t := s.listenEnded) (.of_eq rfl) s.listenEnded_moves.staysIdle)
  | lose e left cells ht =>
    refine .inl fun hi => ?_
    rw [ht] at hi
    cases hi
  | holdOff => exact .inl (.of_eq rfl)
  | serve seq set holdOff ho hn => exact .inl (.of_eq rfl)
  | clear ho hn => exact .inl (.of_eq (by rw [State.clearFaults_link]))
  | hold ho hn =>
    obtain ⟨cs, h⟩ := s.enterHold_eq
    rw [h]
    exact .inl (Link.removeEntries_transmitter_idle _)
  | resume ho hn => exact .inl (.of_eq rfl)
  | restart ho hn =>
    rw [s.restart_eq]
    exact .inl (Link.removeEntries_transmitter_idle _)

/-- The end of an event keeps the entry under way. -/
theorem State.settle_entry (s : State) : s.settle.link.transmitter.entry = s.link.transmitter.entry := by
  unfold State.settle
  rw [State.body_transmitter (State.updateService_body _)]
  rcases s.carryWithdrawal_cases with ⟨-, e⟩ | ⟨-, e⟩ | ⟨-, e⟩ <;> rw [e]
  · rfl
  · rw [State.enterWithdrawn_link]
    unfold Link.removeEntries
    dsimp only [State.setWithdrawDue_link]
    cases s.link.transmitter <;> rfl

theorem Link.mayBegin_iff (l : Link) : l.mayBegin = true ↔ l.acq = some .locked ∧ l.inhibit = false ∧ l.receiver = .idle
    ∧ l.transmitter = .idle ∧ 11 ≤ l.recessiveRun := by
  rw [Link.mayBegin, Bool.and_eq_true, decide_eq_true_iff]
  simp only [Config.gapCells, Bool.and_eq_true, beq_iff_eq, Bool.not_eq_true', and_assoc]

theorem NodeState.permits_iff (n : NodeState) (k : Kind) : n.permits k = true ↔ n = .running ∨ n = .hold
    ∨ ((n = .withdrawn ∨ n = .unconfigured) ∧ (k = .status ∨ k = .log)) := by
  cases n <;> simp [NodeState.permits]

/-- Settles O6: nothing but the beginning of a transmission moves a transmitter at rest. -/
theorem transmissionBeginsOnlyWhenAllowed : Obligations.TransmissionBeginsOnlyWhenAllowed := by
  intro c s t h hidle hbusy
  rcases reset_or_not c with ⟨τ, straps, rfl⟩ | hc
  · cases h
    exact absurd rfl hbusy
  rw [exec_eq_act hc] at h
  cases h
  have started : (s.advance c.instant).link.transmitter = .idle := (Transmitter.elapse_idle _ _).mpr hidle
  have settled := (State.MovesIn.settle (c.act (s.advance c.instant))).staysIdle
  rcases act_acts hc (s.advance c.instant) with hm | ⟨u, hp, ht⟩
  · exact absurd (settled (hm.staysIdle started)) hbusy
  rcases ht.staysIdle with hstay | ⟨τ, e, contents, rfl, hb, he, hk, hcontents, hact⟩
  · exact absurd (settled (hstay (hp.moves.staysIdle started))) hbusy
  rcases hp with rfl | ⟨o, -, -, -, ho, -⟩
  · obtain ⟨hacq, hinhibit, hreceiver, -, hrun⟩ := (Link.mayBegin_iff _).mp hb
    refine ⟨⟨τ, rfl⟩, hacq, hinhibit, hreceiver, hrun, e, he, contents, ?_, hcontents, (NodeState.permits_iff _ _).mp hk⟩
    rw [State.settle_entry, hact]
    rfl
  · rcases ho with ⟨_, _, _, _, _, hcommand⟩ | hill
    · cases o <;> cases hcommand
    · cases hill

/-! ## The node state (Figure 10-1) -/

/-- The states that a withdrawal leaves. -/
def NodeState.active : NodeState → Bool
  | .probing => true | .joining => true | .running => true | .hold => true
  | _ => false

/-- What moves can do to the node state: nothing, the end of the probe, or the withdrawal of an active node. -/
def NodeState.MovesTo (n m : NodeState) : Prop :=
  m = n ∨ (n = .probing ∧ m = .joining) ∨ (n.active = true ∧ m = .withdrawn)

theorem NodeState.MovesTo.trans {n m k : NodeState} (h : n.MovesTo m) (h' : m.MovesTo k) : n.MovesTo k := by
  rcases h with rfl | ⟨rfl, rfl⟩ | ⟨hn, rfl⟩
  · exact h'
  · rcases h' with rfl | ⟨h, -⟩ | ⟨-, rfl⟩
    · exact .inr (.inl ⟨rfl, rfl⟩)
    · cases h
    · exact .inr (.inr ⟨rfl, rfl⟩)
  · rcases h' with rfl | ⟨h, -⟩ | ⟨h, -⟩
    · exact .inr (.inr ⟨hn, rfl⟩)
    · cases h
    · cases h

theorem NodeState.MovesTo.of_body {s t : State} (h : t.body = s.body) : s.node.state.MovesTo t.node.state :=
  .inl (by rw [State.body_node h])

theorem State.MovesIn.nodeState {s t : State} (h : s.Moves t) : s.node.state.MovesTo t.node.state := by
  induction h with
  | write _ h => exact .inl (by rw [State.control_node h])
  | occur s o => exact .of_body (s.occur_body o)
  | raise s x => exact .of_body (s.raise_body x)
  | report s k c p => exact .of_body (s.queueReport_body k c p)
  | remove s p => exact .inl rfl
  | carry s _ =>
    rcases s.carryWithdrawal_cases with ⟨-, e⟩ | ⟨-, e⟩ | ⟨hn, e⟩ <;> rw [e]
    · exact .inl rfl
    · exact .inl rfl
    · rw [State.enterWithdrawn_node]
      refine .inr (.inr ⟨?_, rfl⟩)
      rcases hn with hn | hn | hn | hn <;> rw [hn] <;> rfl
  | service s => exact .of_body s.updateService_body
  | link s f _ _ _ => exact .inl rfl
  | node s f h _ => exact .inl h
  | join s _ h => exact .inr (.inl ⟨h, rfl⟩)
  | line s => exact .inl rfl
  | trans _ _ ih ih' => exact ih.trans ih'

/-- The ways of Figure 10-1 that a turn takes, each with the command that brings it. -/
def NodeState.TurnsTo (c : Instr) (n m : NodeState) : Prop :=
  m = n ∨ (n = .loading ∧ m = .probing) ∨ (n = .loading ∧ m = .unconfigured)
    ∨ (n = .joining ∧ m = .running ∧ ∃ τ, c = .listenEnd τ)
    ∨ (n = .withdrawn ∧ m = .probing)
    ∨ (n = .running ∧ m = .hold ∧ OrderCode.hold.CarriedBy c)
    ∨ (n = .hold ∧ m = .running ∧ OrderCode.resume.CarriedBy c)
    ∨ (n.configured = true ∧ m = .probing)

/-- A turn takes one of its ways; and no withdrawal is passed in it but where the node keeps its state, ends the listen or is
left UNCONFIGURED. -/
theorem State.Turns.nodeState {c : Instr} {s t : State} (h : State.Turns c s t) (hport : s.node.port ≠ .idle → s.node.state = .loading) :
    s.node.state.TurnsTo c t.node.state
      ∧ (t.withdrawDue = s.withdrawDue ∨ t.node.state = s.node.state
        ∨ (s.node.state = .joining ∧ t.node.state = .running) ∨ t.node.state = .unconfigured) := by
  cases h with
  | accept t bytes second im hc hp hj =>
    rw [s.acceptImage_eq im]
    exact ⟨.inr (.inl ⟨hport (by rw [hp]; nofun), rfl⟩), .inl rfl⟩
  | unconfigure t bytes hc hp =>
    have hn : s.enterUnconfigured.node.state = .unconfigured := by
      rw [State.enterUnconfigured_node]
      rfl
    exact ⟨.inr (.inr (.inl ⟨hport (by rw [hp]; nofun), hn⟩)), .inr (.inr (.inr hn))⟩
  | run t hc hn =>
    have hr : s.enterRunning.node.state = .running :=
      congrArg NodeCtl.state (State.body_node (State.queueStatus_body s.listenEnded))
    exact ⟨.inr (.inr (.inr (.inl ⟨hn, hr, t, hc⟩))), .inr (.inr (.inl ⟨hn, hr⟩))⟩
  | begin t e contents hc hb he hk hp => exact ⟨.inl rfl, .inl rfl⟩
  | lose e left cells ht =>
    have hn : ((s.lost cells).reinsert e).node.state = s.node.state := by
      rw [State.body_node ((s.lost cells).reinserted_body e)]
      rfl
    exact ⟨.inl hn, .inr (.inl hn)⟩
  | holdOff => exact ⟨.inl rfl, .inl rfl⟩
  | serve seq set holdOff ho hn => exact ⟨.inl rfl, .inl rfl⟩
  | clear ho hn =>
    unfold State.clearFaults
    dsimp only
    split
    · next hw => exact ⟨.inr (.inr (.inr (.inr (.inl ⟨hw, rfl⟩)))), .inl rfl⟩
    · exact ⟨.inl rfl, .inl rfl⟩
  | hold ho hn =>
    obtain ⟨cs, h⟩ := s.enterHold_eq
    rw [h]
    exact ⟨.inr (.inr (.inr (.inr (.inr (.inl ⟨hn, rfl, ho⟩))))), .inl rfl⟩
  | resume ho hn => exact ⟨.inr (.inr (.inr (.inr (.inr (.inr (.inl ⟨hn, rfl, ho⟩)))))), .inl rfl⟩
  | restart ho hn =>
    rw [s.restart_eq]
    exact ⟨.inr (.inr (.inr (.inr (.inr (.inr (.inr ⟨hn, rfl⟩)))))), .inl rfl⟩

/-- The end of an event moves the node state only by the withdrawal of an active node. -/
theorem State.settle_nodeState (s : State) : s.settle.node.state = s.node.state
    ∨ (s.withdrawDue = true ∧ s.node.state.active = true ∧ s.settle.node.state = .withdrawn) := by
  unfold State.settle
  rw [State.body_node (State.updateService_body _)]
  rcases s.carryWithdrawal_cases with ⟨-, e⟩ | ⟨-, e⟩ | ⟨hn, e⟩
  · rw [e]
    exact .inl rfl
  · rw [e]
    exact .inl rfl
  · cases hd : s.withdrawDue with
    | false =>
      left
      unfold State.carryWithdrawal
      rw [hd]
      rfl
    | true =>
      rw [e, State.enterWithdrawn_node]
      refine .inr ⟨rfl, ?_, rfl⟩
      rcases hn with hn | hn | hn | hn <;> rw [hn] <;> rfl

/-- A well-formed command that carries an order is the command of that order. -/
theorem OrderCode.CarriedBy.command {o : OrderCode} {c : Instr} (h : o.CarriedBy c) (hw : WellFormed c = true) :
    ∃ t st target a1 a2, c = o.command t st target a1 a2 := by
  rcases h with h | h
  · exact h
  · rw [hw] at h
    cases h

/-- The ways of Figure 10-1. -/
def NodeState.ways : List (NodeState × NodeState) :=
  [ (.loading, .probing), (.loading, .unconfigured), (.probing, .joining), (.probing, .withdrawn), (.joining, .running),
    (.joining, .withdrawn), (.joining, .probing), (.running, .hold), (.running, .withdrawn), (.running, .probing),
    (.hold, .running), (.hold, .withdrawn), (.hold, .probing), (.withdrawn, .probing) ]

theorem NodeState.withdrawn_mem_ways (n : NodeState) : n.active = true → (n, .withdrawn) ∈ NodeState.ways := by
  cases n <;> decide

theorem NodeState.probing_mem_ways (n : NodeState) : n.configured = true → .probing ≠ n → (n, .probing) ∈ NodeState.ways := by
  cases n <;> decide

/-- Settles O7: the ways of moves and turns, and the withdrawal that may end the event. -/
theorem nodeStateMovesByTheFigure : Obligations.NodeStateMovesByTheFigure := by
  intro c s t hw h hdue hport hreset hne
  rw [exec_eq_act hreset] at h
  cases h
  have toHold : OrderCode.hold.CarriedBy c → ∃ τ st target a1 a2, c = .orderHold τ st target a1 a2 := fun ho => ho.command hw
  have toResume : OrderCode.resume.CarriedBy c → ∃ τ st target a1 a2, c = .orderResume τ st target a1 a2 := fun ho => ho.command hw
  rcases act_acts hreset (s.advance c.instant) with hm | ⟨u, hp, ht⟩
  · have moved : s.node.state.MovesTo _ := (hm.trans (State.MovesIn.settle _)).nodeState
    rcases moved with he | ⟨hs, he⟩ | ⟨hs, he⟩
    · exact absurd he hne
    · rw [hs, he]
      exact ⟨by decide, nofun, nofun⟩
    · rw [he]
      exact ⟨NodeState.withdrawn_mem_ways _ hs, nofun, nofun⟩
  · obtain ⟨hun, hup, -, -, -, hud⟩ := hp.keeps
    have hstate : u.node.state = s.node.state := hun
    obtain ⟨way, due⟩ := ht.nodeState (fun hp' => by
      rw [hstate]
      exact hport fun hi => hp' (hup.trans ((ConfigPort.elapse_idle _ _).mpr hi)))
    rw [hstate, hud.trans hdue] at due
    rw [hstate] at way
    rcases State.settle_nodeState (c.act (s.advance c.instant)) with he | ⟨hd, ha, he⟩
    · rw [he] at hne ⊢
      rcases way with h | ⟨hs, h⟩ | ⟨hs, h⟩ | ⟨hs, h, hc⟩ | ⟨hs, h⟩ | ⟨hs, h, hc⟩ | ⟨hs, h, hc⟩ | ⟨hs, h⟩
      · exact absurd h hne
      · rw [hs, h]
        exact ⟨by decide, nofun, nofun⟩
      · rw [hs, h]
        exact ⟨by decide, nofun, nofun⟩
      · rw [hs, h]
        exact ⟨by decide, fun _ => .inl hc, nofun⟩
      · rw [hs, h]
        exact ⟨by decide, nofun, nofun⟩
      · rw [hs, h]
        exact ⟨by decide, nofun, fun _ => toHold hc⟩
      · rw [hs, h]
        exact ⟨by decide, fun _ => .inr (toResume hc), nofun⟩
      · rw [h] at hne ⊢
        exact ⟨NodeState.probing_mem_ways _ hs hne, nofun, nofun⟩
    · rw [he] at hne ⊢
      refine ⟨?_, nofun, nofun⟩
      rcases due with hd' | h | ⟨hs, -⟩ | h
      · rw [hd] at hd'
        cases hd'
      · exact NodeState.withdrawn_mem_ways _ (h ▸ ha)
      · rw [hs]
        decide
      · rw [h] at ha
        cases ha

end Sys2Proof.Machine

/-! # The Fault Unit and the service level under every command (R148 to R152) -/

namespace Sys2Proof.Machine

/-! ## The classes stay well formed -/

/-- What `State.FaultsOk` says of the Fault Unit itself. -/
structure FaultUnit.Sound (f : FaultUnit) : Prop where
  length : f.classes.length = 16
  counts : ∀ c, (f.cls c).count ≤ 255
  severities : ∀ c, c ≠ .peerSilent → c ≠ .clash → (f.cls c).severity = c.powerOnSeverity
  unmasked : (f.cls .configInvalid).mask = false

theorem State.faultsOk_iff (s : State) : s.FaultsOk ↔ s.faults.Sound ∧ s.withdrawDue = false :=
  ⟨fun ⟨hl, hc, hs, hm, hd⟩ => ⟨⟨hl, fun c => hc c (mem_allClasses c), fun c => hs c (mem_allClasses c), hm⟩, hd⟩,
    fun ⟨⟨hl, hc, hs, hm⟩, hd⟩ => ⟨hl, fun c _ => hc c, fun c _ => hs c, hm, hd⟩⟩

theorem FaultUnit.Sound.congr {f g : FaultUnit} (h : f.Sound) (hg : g.classes = f.classes) : g.Sound where
  length := by rw [hg]; exact h.length
  counts c := by rw [FaultUnit.cls_congr hg]; exact h.counts c
  severities c := by rw [FaultUnit.cls_congr hg]; exact h.severities c
  unmasked := by rw [FaultUnit.cls_congr hg]; exact h.unmasked

theorem FaultUnit.Sound.count {f : FaultUnit} (h : f.Sound) (c : FaultClass) : (f.countOccurrence c).Sound where
  length := by simpa [FaultUnit.countOccurrence] using h.length
  counts d := by
    by_cases hd : d = c
    · subst hd
      rw [FaultUnit.cls_countOccurrence h.length]
      exact Nat.min_le_right _ _
    · rw [FaultUnit.cls_countOccurrence_of_ne f hd]
      exact h.counts d
  severities d hp hc := by
    rw [FaultUnit.cls_countOccurrence_keeps (·.severity) (fun _ => rfl)]
    exact h.severities d hp hc
  unmasked := by
    rw [FaultUnit.cls_countOccurrence_keeps (·.mask) (fun _ => rfl)]
    exact h.unmasked

theorem State.sound_handOffs : State.HandOffs (fun s => s.faults.Sound) where
  put _ _ h := h
  raise _ _ h := h
  count _ c h := h.count c
  first _ _ _ h := h.congr rfl
  overflow _ h := h.congr rfl
  due _ h := h

theorem State.MovesIn.sound {s t : State} (h : s.Moves t) (hs : s.faults.Sound) : t.faults.Sound := by
  induction h with
  | write _ h => rw [State.control_faults h]; exact hs
  | occur s o => exact State.sound_handOffs.occur o hs
  | raise s x => exact State.sound_handOffs.raised x hs
  | report s k c p => exact State.sound_handOffs.report (s := s) hs
  | remove s p => exact hs
  | carry s _ => rw [State.carryWithdrawal_faults]; exact hs
  | service s => exact State.updateService_handOffs State.sound_handOffs (fun _ _ h => h.congr rfl) hs
  | link s f _ _ _ => exact hs
  | node s f h _ => exact hs
  | join s _ h => exact hs
  | line s => exact hs
  | trans _ _ ih ih' => exact ih' (ih hs)

theorem FaultUnit.cls_configure (im : Image) (f : FaultUnit) (c : FaultClass) :
    (f.configure im).cls c = { f.cls c with
      mask := im.faultMask.testBit c.index && c.index != 4
      severity := if c.index = 6 then severityOfCode im.sevSilent
        else if c.index = 8 then severityOfCode im.sevClash else (f.cls c).severity } := by
  unfold FaultUnit.configure FaultUnit.cls
  dsimp only
  rw [getD_map_range c.index_lt]

theorem FaultUnit.Sound.configure {f : FaultUnit} (h : f.Sound) (im : Image) : (f.configure im).Sound where
  length := by simp [FaultUnit.configure]
  counts c := by
    rw [FaultUnit.cls_configure]
    exact h.counts c
  severities c hp hc := by
    have hp' : c.index ≠ 6 := fun hi => hp (FaultClass.index_injective hi)
    have hc' : c.index ≠ 8 := fun hi => hc (FaultClass.index_injective hi)
    rw [FaultUnit.cls_configure]
    show (if c.index = 6 then _ else if c.index = 8 then _ else _) = _
    rw [if_neg hp', if_neg hc']
    exact h.severities c hp hc
  unmasked := by
    rw [FaultUnit.cls_configure]
    exact Bool.and_false _

theorem FaultUnit.Sound.clear {f : FaultUnit} (h : f.Sound) (keep : Bool) : (f.clear keep).Sound where
  length := by simp [FaultUnit.clear]
  counts c := by
    rw [FaultUnit.cls_clear]
    split
    · exact h.counts c
    · exact Nat.zero_le _
  severities c hp hc := by
    rw [FaultUnit.cls_clear]
    split <;> exact h.severities c hp hc
  unmasked := by
    rw [FaultUnit.cls_clear]
    split <;> exact h.unmasked

/-- What a turn may do to the Fault Unit and the alert sources before the moves that end it. -/
structure State.Refits (s m : State) : Prop where
  sound : s.faults.Sound → m.faults.Sound
  counts : ∀ k, (m.faults.cls k).count ≤ (s.faults.cls k).count
  service : m.faults.service = s.faults.service
  sources : s.alert.sources.length = 8 → m.alert.sources.length = 8

theorem State.Refits.of_eq {s m : State} (hf : m.faults = s.faults) (ha : m.alert.sources.length = s.alert.sources.length) :
    s.Refits m where
  sound h := hf ▸ h
  counts k := by rw [hf]
  service := by rw [hf]
  sources h := ha.trans h

theorem AlertUnit.serve_length (seq : BitVec 8) (set : Byte) (holdOff : Nat) (a : AlertUnit) :
    (a.serve seq set holdOff).sources.length = 8 := by
  unfold AlertUnit.serve
  dsimp only
  split <;> simp

/-- A turn counts nothing itself, and leaves the service level to the moves that end it. -/
theorem State.Turns.refits {c : Instr} {s t : State} (h : State.Turns c s t) : ∃ m : State, m.Moves t ∧ s.Refits m := by
  cases h with
  | accept t bytes second im hc hp hj =>
    rw [s.acceptImage_eq im]
    refine ⟨_, .refl _, fun h => h.configure im, fun k => ?_, rfl, fun _ => AlertUnit.configure_length im s.alert⟩
    show ((s.faults.configure im).cls k).count ≤ _
    rw [FaultUnit.cls_configure]
  | unconfigure t bytes hc hp => exact ⟨s.unconfigured, s.unconfigured_moves, .of_eq rfl rfl⟩
  | run t hc hn => exact ⟨s.listenEnded, s.listenEnded_moves, .of_eq rfl rfl⟩
  | begin t e contents hc hb he hk hp => exact ⟨_, .refl _, .of_eq rfl rfl⟩
  | lose e left cells ht => exact ⟨(s.lost cells).reinserted e, (s.lost cells).reinserted_moves e, .of_eq rfl rfl⟩
  | holdOff =>
    refine ⟨_, .refl _, .of_eq rfl ?_⟩
    show s.alert.holdOffExpires.sources.length = _
    unfold AlertUnit.holdOffExpires
    split <;> rfl
  | serve seq set holdOff ho hn =>
    exact ⟨_, .refl _, id, fun _ => le_rfl, rfl, fun _ => AlertUnit.serve_length seq set holdOff s.alert⟩
  | clear ho hn =>
    refine ⟨_, .refl _, fun h => ?_, fun k => ?_, ?_, fun h => ?_⟩
    · rw [State.clearFaults_faults]
      exact h.clear _
    · rw [State.clearFaults_faults, FaultUnit.cls_clear]
      split
      · exact le_rfl
      · exact Nat.zero_le _
    · rw [State.clearFaults_faults]
      rfl
    · rw [State.clearFaults_sources]
      exact h
  | hold ho hn =>
    obtain ⟨cs, h⟩ := s.enterHold_eq
    exact ⟨_, .refl _, .of_eq (by rw [h]) (by rw [h])⟩
  | resume ho hn => exact ⟨_, .refl _, .of_eq rfl rfl⟩
  | restart ho hn => exact ⟨_, .refl _, .of_eq (by rw [s.restart_eq]; rfl) (by rw [s.restart_eq]; rfl)⟩

/-- An act is made of moves, after what a turn may do to the Fault Unit and the alert sources. -/
theorem act_refits {c : Instr} (hc : ∀ t straps, c ≠ .resetNRelease t straps) (s : State) :
    ∃ m : State, m.Moves (c.act (s.advance c.instant)) ∧ s.Refits m := by
  rcases act_acts hc (s.advance c.instant) with hm | ⟨u, hp, ht⟩
  · exact ⟨s.advance c.instant, hm, .of_eq rfl rfl⟩
  · obtain ⟨-, -, hf, ha, -, -⟩ := hp.keeps
    obtain ⟨m, moved, sound, counts, service, sources⟩ := ht.refits
    rw [show u.faults = s.faults from hf] at sound counts service
    exact ⟨m, moved, sound, counts, service, fun h => sources (by rw [ha]; exact h)⟩

/-! ## Withdrawals (R151) -/

theorem State.capture_due (s : State) (o : Occurrence) : (s.capture o).1.withdrawDue = s.withdrawDue := by
  unfold State.capture
  split <;> rfl

/-- R150, step 2: an unmasked occurrence of a WITHDRAWING class passes a withdrawal, and no other does. -/
theorem State.takeOccurrence_due (s : State) (o : Occurrence) :
    (s.takeOccurrence o).1.withdrawDue = (s.withdrawDue
      || (!(s.faults.cls o.cls).mask && decide ((s.faults.cls o.cls).severity = .withdrawing))) := by
  have hmask : ((s.onFaults (FaultUnit.countOccurrence o.cls)).faults.cls o.cls).mask = (s.faults.cls o.cls).mask :=
    FaultUnit.cls_countOccurrence_keeps (·.mask) (fun _ => rfl) s.faults o.cls o.cls
  have hseverity : ((s.onFaults (FaultUnit.countOccurrence o.cls)).faults.cls o.cls).severity
      = (s.faults.cls o.cls).severity :=
    FaultUnit.cls_countOccurrence_keeps (·.severity) (fun _ => rfl) s.faults o.cls o.cls
  unfold State.takeOccurrence
  dsimp only
  rw [hmask, hseverity]
  cases (s.faults.cls o.cls).mask with
  | true => simp
  | false =>
    by_cases hw : (s.faults.cls o.cls).severity = .withdrawing
    · simp [hw]
    · simp [hw, State.capture_due]

/-- Between two states an unmasked occurrence of a WITHDRAWING class is counted only with a withdrawal passed, which is still due
unless the node is in a state that a withdrawal leaves alone. -/
structure State.Withdraws (s t : State) : Prop where
  setup : ∀ k, (t.faults.cls k).mask = (s.faults.cls k).mask ∧ (t.faults.cls k).severity = (s.faults.cls k).severity
  rests : s.node.state.active = false → t.node.state.active = false
  due : s.withdrawDue = true → t.withdrawDue = true ∨ t.node.state.active = false
  counted : ∀ k, (t.faults.cls k).severity = .withdrawing → (t.faults.cls k).mask = false →
    (s.faults.cls k).count < (t.faults.cls k).count → t.withdrawDue = true ∨ t.node.state.active = false

theorem State.Withdraws.trans {s t u : State} (h : s.Withdraws t) (h' : t.Withdraws u) : s.Withdraws u := by
  have kept : t.withdrawDue = true ∨ t.node.state.active = false → u.withdrawDue = true ∨ u.node.state.active = false :=
    fun ht => ht.elim h'.due fun hr => .inr (h'.rests hr)
  refine ⟨fun k => ⟨(h'.setup k).1.trans (h.setup k).1, (h'.setup k).2.trans (h.setup k).2⟩, fun hr => h'.rests (h.rests hr),
    fun hd => kept (h.due hd), fun k hw hm hk => ?_⟩
  by_cases ht : (s.faults.cls k).count < (t.faults.cls k).count
  · exact kept (h.counted k ((h'.setup k).2 ▸ hw) ((h'.setup k).1 ▸ hm) ht)
  · exact h'.counted k hw hm (by omega)

theorem State.Withdraws.of_eq {s t : State} (hf : t.faults.classes = s.faults.classes)
    (hn : s.node.state.active = false → t.node.state.active = false)
    (hd : s.withdrawDue = true → t.withdrawDue = true ∨ t.node.state.active = false) : s.Withdraws t := by
  refine ⟨fun k => ?_, hn, hd, fun k _ _ hk => ?_⟩
  · rw [FaultUnit.cls_congr hf]
    exact ⟨rfl, rfl⟩
  · rw [FaultUnit.cls_congr hf] at hk
    omega

/-- A fold of steps that each pass their withdrawals. -/
theorem foldl_withdraws {α : Type} {f : State → α → State} (hf : ∀ (s : State) a, s.Withdraws (f s a)) (l : List α) (s : State) :
    s.Withdraws (l.foldl f s) := by
  induction l generalizing s with
  | nil => exact .of_eq rfl id .inl
  | cons a l ih => exact (hf s a).trans (ih (f s a))

theorem State.takeOccurrence_withdraws (s : State) (o : Occurrence) : s.Withdraws (s.takeOccurrence o).1 := by
  have hn : (s.takeOccurrence o).1.node = s.node := State.body_node (State.takeOccurrence_body s o)
  have hdue := s.takeOccurrence_due o
  have cls : ∀ k, (s.takeOccurrence o).1.faults.cls k = (s.faults.countOccurrence o.cls).cls k :=
    FaultUnit.cls_congr (s.takeOccurrence_faults o).1
  have setup : ∀ k, ((s.takeOccurrence o).1.faults.cls k).mask = (s.faults.cls k).mask
      ∧ ((s.takeOccurrence o).1.faults.cls k).severity = (s.faults.cls k).severity := fun k => by
    rw [cls k]
    exact ⟨FaultUnit.cls_countOccurrence_keeps (·.mask) (fun _ => rfl) _ _ _,
      FaultUnit.cls_countOccurrence_keeps (·.severity) (fun _ => rfl) _ _ _⟩
  refine ⟨setup, fun hr => by rw [hn]; exact hr, fun hd => .inl (by rw [hdue, hd]; rfl), fun k hw hm hk => ?_⟩
  by_cases hko : k = o.cls
  · subst hko
    rw [(setup _).2] at hw
    rw [(setup _).1] at hm
    exact .inl (by rw [hdue, hw, hm]; simp)
  · rw [cls k, FaultUnit.cls_countOccurrence_of_ne _ hko] at hk
    omega

theorem State.occur_withdraws (s : State) (o : Occurrence) : s.Withdraws (s.occur o) :=
  (s.takeOccurrence_withdraws o).trans (foldl_withdraws (f := fun s o => (s.takeOccurrence o).1) State.takeOccurrence_withdraws _ _)

theorem State.raise_withdraws (s : State) (x : AlertSource) : s.Withdraws (s.raise x) :=
  State.Withdraws.trans (t := (s.raiseStep x).1) (.of_eq rfl id .inl) (foldl_withdraws State.occur_withdraws _ _)

theorem State.queueReport_withdraws (s : State) (k : Kind) (c : Option Nat) (p : List Byte) :
    s.Withdraws (s.queueReport k c p) :=
  State.Withdraws.trans (t := (s.putReport k c p).1) (.of_eq rfl id .inl) (foldl_withdraws State.occur_withdraws _ _)

theorem State.updateService_withdraws (s : State) : s.Withdraws s.updateService := by
  unfold State.updateService
  split
  · exact .of_eq rfl id .inl
  · exact State.Withdraws.trans (t := s.onFaults _) (.of_eq rfl id .inl) (State.raise_withdraws _ _)

theorem State.carryWithdrawal_withdraws (s : State) : s.Withdraws s.carryWithdrawal := by
  have hf : s.carryWithdrawal.faults.classes = s.faults.classes := by rw [State.carryWithdrawal_faults]
  rcases s.carryWithdrawal_cases with ⟨hd, e⟩ | ⟨hn, e⟩ | ⟨-, e⟩
  · rw [e]
    exact .of_eq rfl id .inl
  · rw [e]
    have hrest : s.node.state.active = false := by rcases hn with hn | hn | hn <;> rw [hn] <;> rfl
    exact .of_eq rfl id fun _ => .inr hrest
  · have hrest : s.carryWithdrawal.node.state.active = false := by
      rw [e, State.enterWithdrawn_node]
      rfl
    exact .of_eq hf (fun _ => hrest) fun _ => .inr hrest

theorem State.MovesIn.withdraws {s t : State} (h : s.Moves t) : s.Withdraws t := by
  induction h with
  | write _ h =>
    refine .of_eq (by rw [State.control_faults h]) (fun hr => ?_) (fun hd => .inl ?_)
    · rw [State.control_node h]
      exact hr
    · rw [State.control_withdrawDue h]
      exact hd
  | occur s o => exact s.occur_withdraws o
  | raise s x => exact s.raise_withdraws x
  | report s k c p => exact s.queueReport_withdraws k c p
  | remove s p => exact .of_eq rfl id .inl
  | carry s _ => exact s.carryWithdrawal_withdraws
  | service s => exact s.updateService_withdraws
  | link s f _ _ _ => exact .of_eq rfl id .inl
  | node s f h _ =>
    refine .of_eq rfl (fun hr => ?_) .inl
    show (f s.node).state.active = false
    rw [h]
    exact hr
  | join s _ h =>
    refine .of_eq rfl (fun hr => ?_) .inl
    rw [h] at hr
    cases hr
  | line s => exact .of_eq rfl id .inl
  | trans _ _ ih ih' => exact ih.trans ih'

/-- QUEUE_OVERFLOW does not withdraw, and no withdrawal is due. -/
structure State.AtRest (s : State) : Prop where
  advisory : (s.faults.cls .queueOverflow).severity ≠ .withdrawing
  due : s.withdrawDue = false

theorem State.takeOccurrence_atRest {s : State} {o : Occurrence} (h : s.AtRest) (ho : o.cls = .queueOverflow) :
    (s.takeOccurrence o).1.AtRest := by
  refine ⟨?_, ?_⟩
  · rw [((s.takeOccurrence_withdraws o).setup _).2]
    exact h.advisory
  · rw [s.takeOccurrence_due, ho, h.due]
    simp [h.advisory]

theorem foldl_atRest {f : State → Occurrence → State}
    (hf : ∀ {s : State} {o : Occurrence}, s.AtRest → o.cls = .queueOverflow → (f s o).AtRest) {l : List Occurrence}
    (hl : ∀ o ∈ l, o.cls = .queueOverflow) {s : State} (h : s.AtRest) : (l.foldl f s).AtRest := by
  induction l generalizing s with
  | nil => exact h
  | cons o l ih => exact ih (fun o' ho => hl o' (.tail o ho)) (hf h (hl o (.head l)))

theorem State.occur_atRest {s : State} {o : Occurrence} (h : s.AtRest) (ho : o.cls = .queueOverflow) : (s.occur o).AtRest :=
  foldl_atRest (f := fun s o => (s.takeOccurrence o).1) State.takeOccurrence_atRest (fun _ h => State.mem_takeOccurrence h)
    (State.takeOccurrence_atRest h ho)

theorem State.raise_atRest {s : State} (h : s.AtRest) (x : AlertSource) : (s.raise x).AtRest :=
  foldl_atRest State.occur_atRest (fun _ h => State.mem_overflowOf h) (s := (s.raiseStep x).1) ⟨h.advisory, h.due⟩

theorem State.updateService_atRest {s : State} (h : s.AtRest) : s.updateService.AtRest := by
  unfold State.updateService
  split
  · exact h
  · exact State.raise_atRest (s := s.onFaults (fun f => { f with service := s.serviceOf })) ⟨h.advisory, h.due⟩ _

theorem State.enterWithdrawn_eq (s : State) : ∃ cs a, s.enterWithdrawn = { s with
    cylinders := cs, records := s.records.map (fun _ => none), chanA := s.chanA.abandon, chanB := s.chanB.abandon
    link := s.link.removeEntries purgedByWithdrawal
    node := { s.node with state := .withdrawn, probe := none, listen := none }, alert := a } := by
  obtain ⟨cs, h⟩ := s.abortAll_eq
  unfold State.enterWithdrawn
  rw [h]
  dsimp only
  split
  · exact ⟨cs, _, rfl⟩
  · exact ⟨cs, _, rfl⟩

theorem State.carryWithdrawal_due (s : State) : s.carryWithdrawal.withdrawDue = false := by
  rcases s.carryWithdrawal_cases with ⟨hd, e⟩ | ⟨-, e⟩ | ⟨-, e⟩ <;> rw [e]
  · exact hd
  · rfl
  · obtain ⟨cs, a, h⟩ := (s.setWithdrawDue false).enterWithdrawn_eq
    rw [h]
    rfl

/-- The end of an event leaves no withdrawal over. -/
theorem State.settle_atRest {s : State} (h : s.faults.Sound) : s.settle.AtRest := by
  refine State.updateService_atRest ⟨?_, s.carryWithdrawal_due⟩
  rw [State.carryWithdrawal_faults, h.severities .queueOverflow (by decide) (by decide)]
  decide

theorem NodeState.active_eq_false_iff (n : NodeState) :
    n.active = false ↔ n ≠ .probing ∧ n ≠ .joining ∧ n ≠ .running ∧ n ≠ .hold := by
  cases n <;> decide

/-- Every command keeps the Fault Unit, and withdraws an active node with each occurrence that asks for it. -/
theorem exec_faultsOk {c : Instr} {s t : State} (hs : s.FaultsOk) (h : exec c s = .next t) :
    t.FaultsOk ∧ ∀ k, (t.faults.cls k).severity = .withdrawing → (t.faults.cls k).mask = false →
      (s.faults.cls k).count < (t.faults.cls k).count → t.node.state.active = false := by
  rcases reset_or_not c with ⟨τ, straps, rfl⟩ | hc
  · cases h
    exact ⟨(by decide : State.reset.FaultsOk), fun _ _ _ _ => rfl⟩
  · rw [exec_eq_act hc] at h
    cases h
    obtain ⟨sound, -⟩ := (State.faultsOk_iff s).mp hs
    obtain ⟨m, moved, refit⟩ := act_refits hc s
    have acted := moved.sound (refit.sound sound)
    have rest := State.settle_atRest acted
    have settled := State.MovesIn.settle (c.act (s.advance c.instant))
    refine ⟨(State.faultsOk_iff _).mpr ⟨settled.sound acted, rest.due⟩, fun k hw hm hk => ?_⟩
    have hdue := (moved.trans settled).withdraws.counted k hw hm ((refit.counts k).trans_lt hk)
    exact hdue.resolve_left (by rw [rest.due]; decide)

/-- Every entry is a STATUS or a LOG. -/
def Link.Reduced (l : Link) : Prop := ∀ e ∈ l.queue, e.kind = .status ∨ e.kind = .log

theorem State.putReport_reduced {s : State} (h : s.link.Reduced) {k : Kind} (hk : k = .status ∨ k = .log) (c : Option Nat)
    (p : List Byte) : (s.putReport k c p).1.link.Reduced := by
  intro e he
  rcases putEntry_cases { kind := k, cyl := c, payload := p, age := s.link.nextAge } s.link.queue with hq | ⟨y, -, hy, -, -, hall⟩
  · exact h e (hq ▸ he)
  · rcases hall e he with rfl | he
    · rw [hy]
      exact hk
    · exact h e he

theorem State.reduced_handOffs : State.HandOffs (fun s => s.link.Reduced) where
  put _ p h := State.putReport_reduced h (.inr rfl) none p
  raise s x h := State.putReport_reduced (s := s.onAlert (AlertUnit.latchSource x)) h (.inl rfl) none []
  count _ _ h := h
  first _ _ _ h := h
  overflow _ h := h
  due _ h := h

theorem Link.purged_reduced (l : Link) : (l.removeEntries purgedByWithdrawal).Reduced := by
  intro e he
  have hp : (!purgedByWithdrawal e) = true := (List.mem_filter.mp he).2
  cases hk : e.kind <;> simp [purgedByWithdrawal, hk] at hp <;> simp

/-- R151: a withdrawal passed in an active state takes the node to WITHDRAWN at the end of the event. -/
theorem State.settle_of_due {s : State} (hdue : s.withdrawDue = true) (hs : s.faults.Sound)
    (hn : s.node.state = .probing ∨ s.node.state = .joining ∨ s.node.state = .running ∨ s.node.state = .hold) :
    s.settle.node = { s.node with state := .withdrawn, probe := none, listen := none } ∧ s.settle.withdrawDue = false
      ∧ (∀ r ∈ s.settle.records, r = none) ∧ (∀ ch, s.settle.chan ch = { s.chan ch with integrator := .idle })
      ∧ s.settle.link.Reduced
      ∧ s.settle.tracker = s.tracker ∧ s.settle.peers = s.peers ∧ s.settle.context = s.context
      ∧ s.settle.estimator = s.estimator := by
  have rest := State.settle_atRest hs
  have carried : s.carryWithdrawal = (s.setWithdrawDue false).enterWithdrawn := by
    unfold State.carryWithdrawal
    rw [hdue]
    rcases hn with hn | hn | hn | hn <;> rw [hn] <;> rfl
  obtain ⟨cs, a, he⟩ := (s.setWithdrawDue false).enterWithdrawn_eq
  have hb := State.updateService_body s.carryWithdrawal
  have reduced : s.carryWithdrawal.link.Reduced := by
    rw [carried, State.enterWithdrawn_link]
    exact Link.purged_reduced _
  have hreduced : s.settle.link.Reduced := State.updateService_handOffs State.reduced_handOffs (fun _ _ h => h) reduced
  refine ⟨(State.body_node hb).trans ?_, rest.due, fun r hr => ?_, fun ch => (State.body_chan hb ch).trans ?_, hreduced,
    (State.body_tracker hb).trans ?_, (State.body_peers hb).trans ?_, (State.body_context hb).trans ?_,
    (State.body_estimator hb).trans ?_⟩
  case refine_2 =>
    have hr' : r ∈ s.carryWithdrawal.records := State.body_records hb ▸ hr
    rw [carried] at hr'
    exact State.enterWithdrawn_records _ r hr'
  case refine_3 =>
    rw [carried, he]
    cases ch <;> rfl
  all_goals rw [carried, he]; rfl

/-- Settles O11: moves pass a withdrawal with each occurrence of a WITHDRAWING class they count, and the end of the event carries
it out. -/
theorem stepKeepsTheFaultUnit : Obligations.StepKeepsTheFaultUnit := by
  refine ⟨fun s t hs h => ?_, fun s hdue hs hn => State.settle_of_due hdue ((State.faultsOk_iff _).mp hs).1 hn⟩
  cases hp : s.pending with
  | nil =>
    rw [step_of_idle hp] at h
    cases h
    exact ⟨hs, fun k _ _ _ hk => absurd hk (lt_irrefl _)⟩
  | cons c rest =>
    rw [step_of_pending hp] at h
    obtain ⟨ok, inactive⟩ := exec_faultsOk (s := { s with pending := rest }) hs h
    exact ⟨ok, fun k _ hw hm hk => (NodeState.active_eq_false_iff _).mp (inactive k hw hm hk)⟩

/-! ## The service level (R152) and raises (R155) -/

/-- A change of the service level has latched SERVICE_CHANGE, and a latch set stays set. -/
def State.Serves (s t : State) : Prop :=
  s.alert.sources.length = 8 → t.alert.sources.length = 8
    ∧ ((s.alert.src .serviceChange).latch = true → (t.alert.src .serviceChange).latch = true)
    ∧ (t.faults.service ≠ s.faults.service → (t.alert.src .serviceChange).latch = true)

theorem State.Serves.trans {s t u : State} (h : s.Serves t) (h' : t.Serves u) : s.Serves u := by
  intro hlen
  obtain ⟨hlen, kept, changed⟩ := h hlen
  obtain ⟨hlen, kept', changed'⟩ := h' hlen
  refine ⟨hlen, fun hl => kept' (kept hl), fun hne => ?_⟩
  by_cases ht : t.faults.service = s.faults.service
  · exact changed' fun hu => hne (hu.trans ht)
  · exact kept' (changed ht)

theorem State.Serves.of_eq {s t : State} (hs : t.faults.service = s.faults.service)
    (ha : t.alert.sources = s.alert.sources) : s.Serves t := by
  intro hlen
  rw [ha, AlertUnit.src_congr ha]
  exact ⟨hlen, id, fun hne => absurd hs hne⟩

/-- What leaves the service level and every source but FIRST_FAULT. -/
theorem State.Serves.of_occurred {s t : State} (h : s.OccurredTo t) (h' : s.KeepsSetup t) : s.Serves t := by
  intro hlen
  rw [h.sources .serviceChange (by decide)]
  exact ⟨h'.sources_length.trans hlen, id, fun hne => absurd h'.service hne⟩

theorem State.raise_serves (s : State) (x : AlertSource) : s.Serves (s.raise x) := by
  intro hlen
  refine ⟨(State.raise_keepsSetup s x).sources_length.trans hlen, fun hl => ?_,
    fun hne => absurd (State.raise_keepsSetup s x).service hne⟩
  by_cases hx : x = .serviceChange
  · rw [hx, State.raise_src hlen (by decide)]
  · rw [State.raise_src_of_ne s (by decide) (Ne.symm hx)]
    exact hl

theorem State.updateService_serves (s : State) : s.Serves s.updateService := by
  intro hlen
  unfold State.updateService
  split
  · exact ⟨hlen, id, fun hne => absurd rfl hne⟩
  · have raised := State.raise_src (s := s.onFaults (fun f => { f with service := s.serviceOf })) hlen
      (x := .serviceChange) (by decide)
    rw [raised]
    exact ⟨(State.raise_keepsSetup _ _).sources_length.trans hlen, fun _ => rfl, fun _ => rfl⟩

theorem State.MovesIn.serves {s t : State} (h : s.Moves t) : s.Serves t := by
  induction h with
  | write _ h => exact .of_eq (by rw [State.control_faults h]) (by rw [State.control_alert h])
  | occur s o => exact .of_occurred (s.occur_occurredTo o) (s.occur_keepsSetup o)
  | raise s x => exact s.raise_serves x
  | report s k c p =>
    exact State.Serves.trans (t := (s.putReport k c p).1) (.of_eq rfl rfl)
      (.of_occurred (s.queueReport_occurredTo k c p) (foldl_keepsSetup _ State.occur_keepsSetup _ _))
  | remove s p => exact .of_eq rfl rfl
  | carry s _ => exact .of_eq (by rw [State.carryWithdrawal_faults]) s.carryWithdrawal_sources
  | service s => exact s.updateService_serves
  | link s f _ _ _ => exact .of_eq rfl rfl
  | node s f h _ => exact .of_eq rfl rfl
  | join s _ h => exact .of_eq rfl rfl
  | line s => exact .of_eq rfl (AlertUnit.assertLine_sources _ _)
  | trans _ _ ih ih' => exact ih.trans ih'

theorem State.updateService_countsOverflow (s : State) : s.CountsOverflow s.updateService := by
  unfold State.updateService
  split
  · exact .refl s
  · exact State.CountsOverflow.trans (t := s.onFaults (fun f => { f with service := s.serviceOf }))
      ⟨fun _ _ => rfl, fun _ h => h⟩ (State.raise_countsOverflow _ _)

/-- After the end of an event the service level is what its conditions give. -/
theorem State.settle_service (s : State) : s.settle.faults.service = s.settle.serviceOf := by
  unfold State.settle
  rw [State.SettledTo.service_eq s.carryWithdrawal.updateService_settled]
  exact (State.serviceOf_congr (State.updateService_body _)
    (FaultUnit.degrades_congr s.carryWithdrawal.updateService_countsOverflow.others)).symm

/-- The five conditions of R152. -/
def State.Degraded (t : State) : Prop :=
  (∃ ch, (t.chan ch).state = .disabled ∧ t.params.weighted ch = true)
    ∨ t.tracker.sync = .seeking ∨ t.tracker.sync = .crankLocked ∨ t.link.inhibit = true ∨ 4 < t.context.freshness
    ∨ ∃ k, (k = FaultClass.peerSilent ∨ k = .clash) ∧ (t.faults.cls k).status = true
        ∧ (t.faults.cls k).severity = .degrading

theorem State.channelDegrades_iff (t : State) :
    t.channelDegrades = true ↔ ∃ ch, (t.chan ch).state = .disabled ∧ t.params.weighted ch = true := by
  simp only [State.channelDegrades, List.any_eq_true, Bool.and_eq_true, beq_iff_eq]
  exact ⟨fun ⟨ch, _, h⟩ => ⟨ch, h⟩, fun ⟨ch, h⟩ => ⟨ch, by cases ch <;> decide, h⟩⟩

theorem FaultUnit.degrades_iff (f : FaultUnit) : f.degrades = true ↔
    ∃ k, (k = FaultClass.peerSilent ∨ k = .clash) ∧ (f.cls k).status = true ∧ (f.cls k).severity = .degrading := by
  simp only [FaultUnit.degrades, List.any_eq_true, List.mem_cons, List.not_mem_nil, or_false, Bool.and_eq_true, beq_iff_eq]

theorem State.degraded_iff (t : State) : t.Degraded ↔
    (t.channelDegrades || t.trackerDegrades || t.link.inhibit || t.context.stale || t.faults.degrades) = true := by
  simp only [Bool.or_eq_true, State.channelDegrades_iff, FaultUnit.degrades_iff, State.trackerDegrades, beq_iff_eq,
    Context.stale, decide_eq_true_eq, State.Degraded, or_assoc]

/-- R152 as its three cases. -/
theorem State.service_cases {t : State} (h : t.faults.service = t.serviceOf) :
    (t.node.state = .withdrawn ∨ t.node.state = .unconfigured → t.faults.service = .withdrawn)
      ∧ (¬(t.node.state = .withdrawn ∨ t.node.state = .unconfigured) → t.Degraded → t.faults.service = .degraded)
      ∧ (¬(t.node.state = .withdrawn ∨ t.node.state = .unconfigured) → ¬t.Degraded → t.faults.service = .full) := by
  rw [h]
  unfold State.serviceOf
  refine ⟨fun ho => if_pos ho, fun ho hd => ?_, fun ho hd => ?_⟩
  · rw [if_neg ho, if_pos (t.degraded_iff.mp hd)]
  · rw [if_neg ho, if_neg (mt t.degraded_iff.mpr hd)]

/-- A queue with room for a report of its kind takes it and passes nothing. -/
theorem Link.HasRoom.put {l : Link} {k : Kind} (h : l.HasRoom k) (hk : replacementLost k = false) (payload : List Byte) (age : Nat) :
    (putEntry { kind := k, cyl := none, payload := payload, age := age } l.queue).2 = none
      ∧ ∃ y ∈ (putEntry { kind := k, cyl := none, payload := payload, age := age } l.queue).1, y.kind = k ∧ y.cyl = none := by
  unfold putEntry
  split
  · next x hx =>
    have hkey := List.find?_some hx
    obtain ⟨hkind, hcyl⟩ := coalesce_kind x _ hkey
    exact ⟨by simp [hk], _, (mem_insertEntry _ _ _).mpr (.inl rfl), hkind, hcyl⟩
  · next hn =>
    have hfree : l.queue.length < Config.queueSize := by
      rcases h with h | ⟨x, hx, hxk, hxc⟩
      · exact h
      · exact absurd ((TxEntry.sameKey_iff _ _).mpr ⟨hxk, hxc⟩) (by simpa using List.find?_eq_none.mp hn x hx)
    rw [if_pos hfree]
    exact ⟨rfl, _, (mem_insertEntry _ _ _).mpr (.inl rfl), rfl, rfl⟩

/-- With room for a STATUS a raise passes no occurrence. -/
theorem State.raise_of_hasRoom {s : State} (h : s.link.HasRoom .status) (x : AlertSource) :
    s.raise x = (s.raiseStep x).1 := by
  have none : (s.raiseStep x).2 = [] := by
    show State.overflowOf (s.onAlert (AlertUnit.latchSource x))
      (putEntry { kind := .status, cyl := none, payload := [], age := s.link.nextAge } s.link.queue).2 = _
    rw [(Link.HasRoom.put (l := s.link) h rfl [] s.link.nextAge).1]
    rfl
  unfold State.raise
  dsimp only
  rw [none]
  rfl

/-- R157: the line after it has been evaluated. -/
theorem AlertUnit.assertLine_line (n : NodeState) (a : AlertUnit) : (a.assertLine n).line
    = if n.drivesAlert = true ∧ a.line = .released ∧ a.unmaskedLatched = true then .asserted else a.line := by
  unfold AlertUnit.assertLine
  simp only [Bool.and_eq_true, beq_iff_eq, and_assoc]
  split <;> rfl

/-- A source just latched, unless it is masked, is in the unmasked latched set. -/
theorem AlertUnit.latchSource_unmasked {a : AlertUnit} {x : AlertSource} (hlen : a.sources.length = 8)
    (hm : (a.src x).mask = false) : (a.latchSource x).unmaskedLatched = true := by
  have hlt : x.index < a.sources.length := hlen ▸ x.index_lt
  rw [AlertUnit.unmaskedLatched_iff]
  refine ⟨x.index, { a.sources[x.index] with latch := true, latest := a.raiseSeq + 1 }, ?_, rfl, ?_⟩
  · simp [AlertUnit.latchSource, hlt]
  · have hsrc : a.src x = a.sources[x.index] := by
      unfold AlertUnit.src
      exact List.getD_eq_getElem _ _ hlt
    rw [← hsrc]
    exact hm

/-- Settles O3: the end of the event brings the level up to date, and moves raise SERVICE_CHANGE with each change. -/
theorem serviceLevelIsUpToDate : Obligations.ServiceLevelIsUpToDate := by
  refine ⟨fun c s t h => ?level, fun s x hlen hroom => ?raised⟩
  case level =>
    rcases reset_or_not c with ⟨τ, straps, rfl⟩ | hc
    · cases h
      obtain ⟨out, degraded, full⟩ := State.service_cases (t := resetRelease τ straps s) rfl
      exact ⟨out, degraded, full, fun hne => absurd rfl (hne τ straps)⟩
    · rw [exec_eq_act hc] at h
      cases h
      obtain ⟨out, degraded, full⟩ := State.service_cases (c.act (s.advance c.instant)).settle_service
      obtain ⟨m, moved, refit⟩ := act_refits hc s
      refine ⟨out, degraded, full, fun _ hlen hne => ?_⟩
      obtain ⟨-, -, changed⟩ := (moved.trans (.settle _)).serves (refit.sources hlen)
      exact changed (refit.service ▸ hne)
  case raised =>
    rw [State.raise_of_hasRoom hroom]
    have waits := (Link.HasRoom.put (l := s.link) hroom rfl [] s.link.nextAge).2
    have line : (s.raiseStep x).1.alert.line = if s.node.state.drivesAlert = true ∧ s.alert.line = .released
        ∧ (s.alert.latchSource x).unmaskedLatched = true then .asserted else s.alert.line :=
      AlertUnit.assertLine_line s.node.state (s.alert.latchSource x)
    refine ⟨?_, State.raiseStep_raiseSeq s x, fun y _ hy => ?_, waits, rfl, State.raiseStep_body s x, fun hd hm hl => ?_,
      fun h => ?_⟩
    · rw [State.raiseStep_src]
      exact AlertUnit.src_latchSource hlen x
    · rw [State.raiseStep_src]
      exact AlertUnit.src_latchSource_of_ne _ hy
    · rw [line, if_pos ⟨hd, hl, AlertUnit.latchSource_unmasked hlen hm⟩]
    · rw [line, if_neg]
      rintro ⟨hd, hl, -⟩
      rcases h with h | h
      · rw [hd] at h
        cases h
      · exact h hl

end Sys2Proof.Machine

/-! # The engine: records, closes and withdrawals (R57 to R74) -/

namespace Sys2Proof.Machine

/-! ## The parts of the state that the engine's invariants read -/

/-- The station, the node state, the parameters, the tracker and the channels. -/
def State.core (s : State) : State :=
  { State.reset with
    station := s.station, node := { NodeCtl.powerOn with state := s.node.state, port := s.node.port }, image := s.image
    tracker := s.tracker, chanA := s.chanA, chanB := s.chanB }

/-- The core with the Record Table and the Peer Table. -/
def State.engine (s : State) : State := { s.core with records := s.records, peers := s.peers }

/-- The engine with the Cylinder Table. -/
def State.works (s : State) : State := { s.engine with cylinders := s.cylinders }

theorem State.core_of_outer {s t : State} (h : t.outer = s.outer) : t.core = s.core := by
  unfold State.core
  rw [State.outer_station h, State.outer_node h, State.outer_image h, State.outer_tracker h, State.outer_chanA h,
    State.outer_chanB h]

theorem State.works_of_body {s t : State} (h : t.body = s.body) : t.works = s.works := by
  unfold State.works State.engine
  rw [State.core_of_outer (State.outer_of_body h), State.body_records h, State.body_peers h, State.body_cylinders h]

theorem State.engine_of_works {s t : State} (h : t.works = s.works) : t.engine = s.engine :=
  congrArg (fun u : State => ({ u with cylinders := State.reset.cylinders } : State)) h

theorem State.engine_of_body {s t : State} (h : t.body = s.body) : t.engine = s.engine :=
  State.engine_of_works (State.works_of_body h)

section Fields

variable {s t : State} (h : t.core = s.core)

include h

theorem State.core_station : t.station = s.station := by have e := congrArg State.station h; exact e
theorem State.core_state : t.node.state = s.node.state := by have e := congrArg (·.node.state) h; exact e
theorem State.core_port : t.node.port = s.node.port := by have e := congrArg (·.node.port) h; exact e
theorem State.core_image : t.image = s.image := by have e := congrArg State.image h; exact e
theorem State.core_tracker : t.tracker = s.tracker := by have e := congrArg State.tracker h; exact e
theorem State.core_chanA : t.chanA = s.chanA := by have e := congrArg State.chanA h; exact e
theorem State.core_chanB : t.chanB = s.chanB := by have e := congrArg State.chanB h; exact e
theorem State.core_params : t.params = s.params := State.params_congr (State.core_image h)

end Fields

theorem State.engine_core {s t : State} (h : t.engine = s.engine) : t.core = s.core :=
  congrArg (fun u : State => ({ u with records := State.reset.records, peers := State.reset.peers } : State)) h

theorem State.engine_records {s t : State} (h : t.engine = s.engine) : t.records = s.records := by
  have e := congrArg State.records h; exact e

theorem State.engine_peers {s t : State} (h : t.engine = s.engine) : t.peers = s.peers := by
  have e := congrArg State.peers h; exact e

theorem State.works_cylinders {s t : State} (h : t.works = s.works) : t.cylinders = s.cylinders := by
  have e := congrArg State.cylinders h; exact e

/-- Moves that write no block of chapters 1 to 7 keep the works. -/
theorem State.MovesIn.works {s t : State} (h : State.MovesIn False s t) : t.works = s.works := by
  induction h with
  | write hb h => exact hb.elim
  | occur s o => exact State.works_of_body (s.occur_body o)
  | raise s x => exact State.works_of_body (s.raise_body x)
  | report s k c p => exact State.works_of_body (s.queueReport_body k c p)
  | remove s p => rfl
  | carry s hb => exact hb.elim
  | service s => exact State.works_of_body s.updateService_body
  | link s f _ _ _ => rfl
  | node s f h hp =>
    unfold State.works State.engine State.core
    rw [show (s.onNode f).node.state = s.node.state from h, show (s.onNode f).node.port = s.node.port from hp.resolve_left id]
    rfl
  | join s hb h => exact hb.elim
  | line s => rfl
  | trans _ _ ih ih' => exact ih'.trans ih

/-! ## Open records -/

theorem State.mem_openRecords {s : State} {r : Record} : r ∈ s.openRecords ↔ some r ∈ s.records := by
  simp [State.openRecords]

/-- A record found is open and satisfies what was looked for. -/
theorem State.findRecord_some {s : State} {p : Record → Bool} {r : Record} (h : s.findRecord p = some r) :
    r ∈ s.openRecords ∧ p r = true := by
  obtain ⟨o, ho, hr⟩ := List.exists_of_findSome?_eq_some h
  obtain ⟨rfl, hp⟩ := Option.filter_eq_some_iff.mp hr
  exact ⟨State.mem_openRecords.mpr ho, hp⟩

theorem State.findRecord_none {s : State} {p : Record → Bool} (h : s.findRecord p = none) :
    ∀ r ∈ s.openRecords, p r = false := by
  intro r hr
  have hnone := List.findSome?_eq_none_iff.mp h (some r) (State.mem_openRecords.mp hr)
  cases hp : p r with
  | false => rfl
  | true => simp [Option.filter, hp] at hnone

theorem State.openRecords_onOpenRecords (s : State) (f : Record → Record) :
    (s.onOpenRecords f).openRecords = s.openRecords.map f := by
  unfold State.openRecords State.onOpenRecords
  show (s.records.map (Option.map f)).filterMap id = _
  rw [List.filterMap_map, List.map_filterMap]
  rfl

theorem State.openRecords_freeRecord (s : State) (c : Nat) :
    (s.freeRecord c).openRecords = s.openRecords.filter (fun r => r.cyl != c) := by
  unfold State.openRecords State.freeRecord
  show (s.records.map (Option.filter fun r => r.cyl != c)).filterMap id = _
  rw [List.filterMap_map, List.filter_filterMap]
  rfl

theorem State.openRecords_of_none {s : State} (h : ∀ o ∈ s.records, o = none) : s.openRecords = [] := by
  refine List.eq_nil_iff_forall_not_mem.mpr fun r hr => ?_
  cases h _ (State.mem_openRecords.mp hr)

theorem mem_updateFirst {p : Record → Bool} {f : Record → Record} {l : List (Option Record)} {r : Record}
    (h : some r ∈ updateFirst p f l) : some r ∈ l ∨ ∃ x, l.findSome? (fun o => o.filter p) = some x ∧ r = f x := by
  induction l with
  | nil => cases h
  | cons o l ih =>
    cases o with
    | none =>
      rcases List.mem_cons.mp h with h | h
      · cases h
      · exact (ih h).imp (.tail _) fun ⟨x, hx, hr⟩ => ⟨x, hx, hr⟩
    | some y =>
      unfold updateFirst at h
      split at h
      · next hp =>
        rcases List.mem_cons.mp h with h | h
        · exact .inr ⟨y, by simp [Option.filter, hp], Option.some.inj h⟩
        · exact .inl (.tail _ h)
      · next hp =>
        rcases List.mem_cons.mp h with h | h
        · exact .inl (h ▸ .head _)
        · exact (ih h).imp (.tail _) fun ⟨x, hx, hr⟩ => ⟨x, by simpa [Option.filter, hp] using hx, hr⟩

theorem length_updateFirst (p : Record → Bool) (f : Record → Record) (l : List (Option Record)) :
    (updateFirst p f l).length = l.length := by
  induction l with
  | nil => rfl
  | cons o l ih =>
    cases o with
    | none => simp [updateFirst, ih]
    | some r => by_cases hp : p r = true <;> simp [updateFirst, hp, ih]

/-! ## The invariant, with or without complete records left open -/

/-- The engine's invariant; where `b` holds, no complete record is open in WAITING. -/
structure State.Ordered (b : Prop) (s : State) : Prop where
  ok : s.EngineOk
  none : b → s.NoneReady

theorem State.EngineOk.congr {s t : State} (h : s.EngineOk) (he : t.engine = s.engine) : t.EngineOk := by
  have hs : s.engine.EngineOk := ⟨h.tracker, h.port, h.slots, h.judging, h.record, h.integratorA, h.integratorB⟩
  rw [← he] at hs
  exact ⟨hs.tracker, hs.port, hs.slots, hs.judging, hs.record, hs.integratorA, hs.integratorB⟩

namespace State.Ordered

variable {b : Prop} {s t : State}

theorem weaken (h : s.Ordered b) : s.Ordered False := ⟨h.ok, False.elim⟩

theorem congr (h : s.Ordered b) (he : t.engine = s.engine) : t.Ordered b := by
  refine ⟨h.ok.congr he, fun hb => ?_⟩
  unfold State.NoneReady State.openRecords
  rw [State.engine_records he]
  exact h.none hb

theorem of_body (h : s.Ordered b) (he : t.body = s.body) : t.Ordered b := h.congr (State.engine_of_body he)

theorem of_works (h : s.Ordered b) (he : t.works = s.works) : t.Ordered b := h.congr (State.engine_of_works he)

/-- Records and peers changed over one core: every record left may be open, is in order and, where asked, is not complete. -/
theorem replace (h : s.Ordered b) (hc : t.core = s.core) (hlen : t.records.length = s.records.length)
    (hr : ∀ r ∈ t.openRecords, (s.node.state = .running ∧ s.tracker.sync = .phased ∧ s.tracker.warmUp = s.params.warmUp)
      ∧ t.RecordOk r ∧ (b → r.ready = false)) : t.Ordered b := by
  obtain ⟨ok, -⟩ := h
  have hn := State.core_state hc
  have htr := State.core_tracker hc
  refine ⟨⟨?_, ?_, hlen.trans ok.slots, fun r hr' => ?_, fun r hr' => (hr r hr').2.1, ?_, ?_⟩, fun hb r hr' => (hr r hr').2.2 hb⟩
  · unfold State.TrackerOk
    rw [hn, htr]
    exact ok.tracker
  · rw [hn, State.core_port hc]
    exact ok.port
  · rw [hn, htr, State.core_params hc]
    exact (hr r hr').1
  · unfold State.IntegratorOk State.chan
    rw [hn, htr, State.core_chanA hc]
    exact ok.integratorA
  · unfold State.IntegratorOk State.chan
    rw [hn, htr, State.core_chanB hc]
    exact ok.integratorB

/-- Records and peers changed over one core: every record left was one before, in order and ready no sooner. -/
theorem change (h : s.Ordered b) (hc : t.core = s.core) (hlen : t.records.length = s.records.length)
    (hr : ∀ r' ∈ t.openRecords, ∃ r ∈ s.openRecords, (s.RecordOk r → t.RecordOk r') ∧ (b → r'.ready = true → r.ready = true)) :
    t.Ordered b := by
  refine h.replace hc hlen fun r' hr' => ?_
  obtain ⟨r, hrs, hok, hready⟩ := hr r' hr'
  exact ⟨h.ok.judging r hrs, hok (h.ok.record r hrs),
    fun hb => Bool.eq_false_iff.mpr fun hr' => Bool.eq_false_iff.mp (h.none hb r hrs) (hready hb hr')⟩

/-- With no record open and no integration running only the tracker and the port have something to keep. -/
theorem of_quiet (htr : t.TrackerOk) (hport : t.node.port ≠ .idle → t.node.state = .loading) (hlen : t.records.length = 8)
    (closed : t.openRecords = []) (idle : ∀ ch, (t.chan ch).integrator = .idle) : t.Ordered b := by
  refine ⟨⟨htr, hport, hlen, ?_, ?_, fun hi => absurd (idle .a) hi, fun hi => absurd (idle .b) hi⟩, fun _ => ?_⟩
  all_goals
    intro r hr
    rw [closed] at hr
    cases hr

/-- Out of RUNNING and out of PHASED no record is open and no integration runs. -/
theorem quiet (h : s.Ordered b) (hs : s.node.state ≠ .running ∨ s.tracker.sync ≠ .phased) :
    s.openRecords = [] ∧ ∀ ch, (s.chan ch).integrator = .idle := by
  refine ⟨List.eq_nil_iff_forall_not_mem.mpr fun r hr => ?_, fun ch => by_contra fun hi => ?_⟩
  · obtain ⟨hn, hp, -⟩ := h.ok.judging r hr
    exact hs.elim (· hn) (· hp)
  · have running : s.node.state = .running ∧ s.tracker.sync = .phased := by
      cases ch with
      | a => exact ⟨(h.ok.integratorA hi).1, (h.ok.integratorA hi).2.1⟩
      | b => exact ⟨(h.ok.integratorB hi).1, (h.ok.integratorB hi).2.1⟩
    exact hs.elim (· running.1) (· running.2)

/-- An update of every open record. -/
theorem onOpenRecords (h : s.Ordered b) {f : Record → Record} (hf : ∀ r ∈ s.openRecords,
    (s.RecordOk r → s.RecordOk (f r)) ∧ (b → (f r).ready = true → r.ready = true)) : (s.onOpenRecords f).Ordered b := by
  refine h.change rfl (List.length_map _) fun r' hr' => ?_
  rw [State.openRecords_onOpenRecords] at hr'
  obtain ⟨r, hr, rfl⟩ := List.mem_map.mp hr'
  exact ⟨r, hr, hf r hr⟩

theorem freeRecord (h : s.Ordered b) (c : Nat) : (s.freeRecord c).Ordered b := by
  refine h.change rfl (List.length_map _) fun r hr => ⟨r, ?_, id, fun _ => id⟩
  rw [State.openRecords_freeRecord] at hr
  exact List.mem_of_mem_filter hr

/-- An update of the record of a cylinder, complete or not afterwards. -/
theorem onRecordOf (h : s.Ordered b) (c : Nat) {f : Record → Record}
    (hf : ∀ r, s.recordOf c = some r → s.RecordOk r → s.RecordOk (f r)) : (s.onRecordOf c f).Ordered False := by
  refine h.weaken.change rfl (length_updateFirst _ _ _) fun r' hr' => ?_
  rcases mem_updateFirst (State.mem_openRecords.mp hr') with hr | ⟨r, hr, rfl⟩
  · exact ⟨r', State.mem_openRecords.mpr hr, id, False.elim⟩
  · exact ⟨r, (State.findRecord_some hr).1, hf r hr, False.elim⟩

/-- An update of a peer that leaves an ACTIVE one ACTIVE. -/
theorem onPeer (h : s.Ordered b) (st : Station) {f : PeerEntry → PeerEntry}
    (hf : ∀ p : PeerEntry, p.state = .active → (f p).state = .active) : (s.onPeer st f).Ordered b := by
  refine h.change rfl rfl fun r hr => ⟨r, hr, fun ⟨hw, hu, ho, he⟩ => ⟨hw, hu, ho, fun x hx => ?_⟩, fun _ => id⟩
  have ha : (s.peers.getD x.val PeerEntry.powerOn).state = .active := he x hx
  show ((s.peers.modify st.val f).getD x.val PeerEntry.powerOn).state = .active
  rw [List.getD_eq_getElem?_getD, List.getElem?_modify]
  rw [List.getD_eq_getElem?_getD] at ha
  cases hp : s.peers[x.val]? with
  | none =>
    rw [hp] at ha
    cases ha
  | some p =>
    rw [hp] at ha
    by_cases hst : st.val = x.val
    · simpa [hst] using hf p ha
    · simpa [hst] using ha

end State.Ordered

/-! ## The fold, the accounting and the close -/

theorem State.foldVerdict_engine (s : State) (c : Nat) (v : Verdict) (a b : Option Evidence) :
    (s.foldVerdict c v a b).engine = s.engine := by
  unfold State.foldVerdict
  dsimp only
  split
  · exact (State.engine_of_body (State.raise_body _ _)).trans rfl
  · rfl

/-- R67, R107: what a silencing leaves of the Peer Table and the Record Table. -/
theorem State.silencePeer_tables (s : State) (st : Station) (c : Option Nat) :
    (s.silencePeer st c).peers = s.peers.modify st.val PeerEntry.silence
      ∧ (s.silencePeer st c).records = s.records.map (Option.map (Record.unexpect st)) := by
  have hf := State.fault_body (s.onPeer st PeerEntry.silence) .peerSilent (some st) none c
  unfold State.silencePeer
  dsimp only
  split
  · have hr := (State.raise_body ((s.onPeer st PeerEntry.silence).fault .peerSilent (some st) none c) .peerSilent).trans hf
    exact ⟨State.body_peers hr, congrArg (List.map (Option.map (Record.unexpect st))) (State.body_records hr :)⟩
  · exact ⟨State.body_peers hf, congrArg (List.map (Option.map (Record.unexpect st))) (State.body_records hf :)⟩

theorem State.openRecords_silencePeer (s : State) (st : Station) (c : Option Nat) :
    (s.silencePeer st c).openRecords = s.openRecords.map (Record.unexpect st) := by
  rw [← State.openRecords_onOpenRecords]
  exact congrArg (List.filterMap id) (s.silencePeer_tables st c).2

theorem State.Ordered.silencePeer {s : State} (h : s.Ordered False) (st : Station) (c : Option Nat) :
    (s.silencePeer st c).Ordered False := by
  obtain ⟨hpeers, hrecords⟩ := s.silencePeer_tables st c
  have hcore := State.core_of_outer (s.silencePeer_outer st c)
  refine h.change hcore (by rw [hrecords, List.length_map]) fun r' hr' => ?_
  rw [State.openRecords_silencePeer] at hr'
  obtain ⟨r, hr, rfl⟩ := List.mem_map.mp hr'
  refine ⟨r, hr, fun ⟨hw, hu, ho, he⟩ => ⟨hw, hu, fun w hx => ?_, fun x hx => ?_⟩, False.elim⟩
  · rw [State.core_station hcore]
    exact ho w hx
  · obtain ⟨hx, hne⟩ := List.mem_filter.mp hx
    have hval : st.val ≠ x.val := fun hv => by simp [Fin.ext hv] at hne
    unfold State.peer
    rw [hpeers, getD_modify_ne _ _ _ hval]
    exact he x hx

theorem PeerEntry.onTime_active (im : Image) {p : PeerEntry} (h : p.state = .active) : (p.onTime im).state = .active := by
  unfold PeerEntry.onTime
  rw [h]

theorem State.Ordered.missPeer {s : State} (h : s.Ordered False) (c : Nat) (st : Station) :
    (State.missPeer c s st).Ordered False := by
  unfold State.missPeer
  dsimp only
  split
  · split
    · exact h.silencePeer st _
    · exact h.onPeer st fun _ hp => hp
  · exact h

theorem State.Ordered.absentPeer {s : State} (h : s.Ordered False) (c : Nat) (st : Station) :
    (State.absentPeer c s st).Ordered False := by
  unfold State.absentPeer
  split
  · exact h.silencePeer st _
  · exact h

/-- A property that each step of a fold keeps. -/
theorem foldl_keeps {P : State → Prop} {α : Type} {f : State → α → State} (hf : ∀ (s : State) (a : α), P s → P (f s a))
    (l : List α) {s : State} (h : P s) : P (l.foldl f s) := State.HandOffs.foldl hf l h

theorem State.Ordered.accountWitnesses {s : State} (h : s.Ordered False) (r : Record) :
    (s.accountWitnesses r).Ordered False :=
  foldl_keeps (fun _ st h => h.absentPeer r.cyl st) _
    (foldl_keeps (fun _ st h => h.missPeer r.cyl st) _
      (foldl_keeps (P := State.Ordered False) (fun _ st h => h.onPeer st fun _ => PeerEntry.onTime_active _) _ h))

/-- The state of a close before the witnesses are accounted. -/
def State.judged (s : State) (r : Record) : State :=
  let folded := (s.queueReport .verdict (some r.cyl) (r.verdictReport s.params)).foldVerdict r.cyl (r.verdict s.params)
    r.evidenceA r.evidenceB
  if (r.verdict s.params).knock = .heavy then folded.raise .heavyKnock else folded

theorem State.closeRecord_eq (s : State) (r : Record) :
    s.closeRecord r = ((s.judged r).accountWitnesses r).freeRecord r.cyl := rfl

theorem State.judged_engine (s : State) (r : Record) : (s.judged r).engine = s.engine := by
  have folded : ((s.queueReport .verdict (some r.cyl) (r.verdictReport s.params)).foldVerdict r.cyl (r.verdict s.params)
      r.evidenceA r.evidenceB).engine = s.engine :=
    (State.foldVerdict_engine _ _ _ _ _).trans (State.engine_of_body (State.queueReport_body _ _ _ _))
  unfold State.judged
  dsimp only
  split
  · exact (State.engine_of_body (State.raise_body _ _)).trans folded
  · exact folded

theorem State.Ordered.closeRecord {s : State} (h : s.Ordered False) (r : Record) : (s.closeRecord r).Ordered False :=
  ((h.congr (s.judged_engine r)).accountWitnesses r).freeRecord r.cyl

/-! ## The end of an event -/

theorem State.Ordered.enterWithdrawn {b : Prop} {s : State} (h : s.Ordered b) (hn : s.node.state ≠ .loading) :
    s.enterWithdrawn.Ordered b := by
  obtain ⟨cs, a, he⟩ := s.enterWithdrawn_eq
  have tracker : s.enterWithdrawn.tracker = s.tracker := by rw [he]
  have idle : ∀ ch, (s.enterWithdrawn.chan ch).integrator = .idle := fun ch => by
    rw [he]
    cases ch <;> rfl
  have closed : s.enterWithdrawn.openRecords = [] := State.openRecords_of_none s.enterWithdrawn_records
  have port : s.node.port = .idle := by_contra fun hp => hn (h.ok.port hp)
  obtain ⟨h1, h2, h3, h4, h5, h6, -⟩ := h.ok.tracker
  refine .of_quiet ?_ ?_ ?_ closed idle
  · unfold State.TrackerOk
    rw [tracker, State.enterWithdrawn_node]
    exact ⟨h1, h2, h3, h4, h5, h6, nofun⟩
  · rw [State.enterWithdrawn_node]
    exact fun hp => absurd port hp
  · rw [he]
    show (s.records.map _).length = 8
    rw [List.length_map]
    exact h.ok.slots

theorem State.Ordered.carryWithdrawal {b : Prop} {s : State} (h : s.Ordered b) : s.carryWithdrawal.Ordered b := by
  rcases s.carryWithdrawal_cases with ⟨-, e⟩ | ⟨-, e⟩ | ⟨hn, e⟩ <;> rw [e]
  · exact h
  · exact h.congr rfl
  · refine State.Ordered.enterWithdrawn (s := s.setWithdrawDue false) (h.congr rfl) ?_
    show s.node.state ≠ .loading
    rcases hn with hn | hn | hn | hn <;> rw [hn] <;> decide

theorem State.Ordered.settle {b : Prop} {s : State} (h : s.Ordered b) : s.settle.Ordered b :=
  h.carryWithdrawal.of_body (State.updateService_body _)

/-! ## Closes on completeness -/

theorem State.Ordered.closeReady {s : State} (h : s.Ordered False) (fuel : Nat) : (State.closeReady fuel s).Ordered False :=
  State.closeReady_keeps _ (fun _ h => h.settle) (fun _ r h => h.closeRecord r) fuel s h

/-- The end of an event opens no record. -/
theorem State.openRecords_settle (s : State) : s.settle.openRecords = s.openRecords ∨ s.settle.openRecords = [] := by
  rcases s.settle_cases with h | ⟨-, -, h, -⟩
  · exact .inl (congrArg (List.filterMap id) (State.body_records h))
  · exact .inr (State.openRecords_of_none h)

/-- The accounting of a close leaves the open records those of the same cylinders. -/
theorem State.accountWitnesses_cyls (s : State) (r : Record) :
    (s.accountWitnesses r).openRecords.map (·.cyl) = s.openRecords.map (·.cyl) := by
  have silenced : ∀ (u : State) (st : Station) (c : Option Nat),
      (u.silencePeer st c).openRecords.map (·.cyl) = u.openRecords.map (·.cyl) := fun u st c => by
    rw [State.openRecords_silencePeer, List.map_map]
    rfl
  have same : ∀ u : State, u.openRecords.map (·.cyl) = s.openRecords.map (·.cyl) →
      ∀ (st : Station) (c : Option Nat), (u.silencePeer st c).openRecords.map (·.cyl) = s.openRecords.map (·.cyl) :=
    fun u h st c => (silenced u st c).trans h
  refine foldl_keeps (P := fun u => u.openRecords.map (·.cyl) = s.openRecords.map (·.cyl)) (fun u st h => ?_) _
    (foldl_keeps (P := fun u => u.openRecords.map (·.cyl) = s.openRecords.map (·.cyl)) (fun u st h => ?_) _
      (foldl_keeps (P := fun u => u.openRecords.map (·.cyl) = s.openRecords.map (·.cyl))
        (f := fun u st => u.onPeer st (PeerEntry.onTime u.params)) (fun _ _ h => h) _ rfl))
  · unfold State.absentPeer
    split
    · exact same u h st _
    · exact h
  · unfold State.missPeer
    dsimp only
    split
    · split
      · exact same u h st _
      · exact h
    · exact h

/-- A close of an open record leaves fewer open. -/
theorem State.closeRecord_length {s : State} {r : Record} (h : r ∈ s.openRecords) :
    (s.closeRecord r).openRecords.length < s.openRecords.length := by
  have judged : (s.judged r).openRecords = s.openRecords :=
    congrArg (List.filterMap id) (State.engine_records (s.judged_engine r))
  have cyls := (s.judged r).accountWitnesses_cyls r
  rw [judged] at cyls
  have hlen : ((s.judged r).accountWitnesses r).openRecords.length = s.openRecords.length := by
    simpa using congrArg List.length cyls
  obtain ⟨x, hx, hxc⟩ := List.mem_map.mp (cyls ▸ List.mem_map_of_mem (f := Record.cyl) h)
  rw [State.closeRecord_eq, State.openRecords_freeRecord, ← hlen]
  exact List.length_filter_lt_length_iff_exists.mpr ⟨x, hx, by simp [hxc]⟩

/-- R64, R67: with a round for each open record the closes leave none complete. -/
theorem State.closeReady_noneReady (fuel : Nat) (s : State) (h : s.openRecords.length ≤ fuel) :
    (State.closeReady fuel s).NoneReady := by
  induction fuel generalizing s with
  | zero =>
    have empty : s.openRecords = [] := List.length_eq_zero_iff.mp (Nat.le_zero.mp h)
    intro r hr
    have : r ∈ s.openRecords := hr
    rw [empty] at this
    cases this
  | succ n ih =>
    unfold State.closeReady
    split
    · split
      · next r hr =>
        refine ih _ ?_
        have settled : ∀ u : State, u.settle.openRecords.length ≤ u.openRecords.length := fun u => by
          rcases u.openRecords_settle with e | e <;> rw [e]
          exact Nat.zero_le _
        have closed := State.closeRecord_length (State.findRecord_some hr).1
        have first := settled s
        have second := settled (s.settle.closeRecord r)
        omega
      · next hr => exact State.findRecord_none hr
    · next hr => exact State.findRecord_none hr

theorem State.Ordered.closeComplete {b : Prop} {s : State} (h : s.Ordered False) : s.closeComplete.Ordered b := by
  refine ⟨(h.closeReady 8).ok, fun _ => State.closeReady_noneReady 8 s ?_⟩
  have := List.length_filterMap_le id s.records
  rw [h.ok.slots] at this
  exact this

theorem State.Ordered.deadlineMark {b : Prop} {s : State} (h : s.Ordered b) (k : Nat) : (s.deadlineMark k).Ordered b := by
  unfold State.deadlineMark
  split
  · exact (h.weaken.closeRecord _).closeComplete
  · exact h

/-- R58, R62: a window taken. -/
theorem State.RecordOk.takeWindow {s : State} {r : Record} (h : s.RecordOk r) (a b : ChanResult) :
    s.RecordOk (r.takeWindow a b) := by
  obtain ⟨hw, hu, ho, he⟩ := h
  unfold Record.takeWindow Record.settleState
  cases hwt : r.windowTaken
  · cases hst : r.segmentTaken
    · exact ⟨by simpa [hwt, hst] using hw, hu, ho, he⟩
    · exact ⟨by simp, hu, ho, he⟩
  · exact ⟨hw, hu, ho, he⟩

/-- R58, R63: a segment end taken. -/
theorem State.RecordOk.takeSegment {s : State} {r : Record} (h : s.RecordOk r) (loss : Option Int) (band : Nat) :
    s.RecordOk (r.takeSegment loss band) := by
  obtain ⟨hw, hu, ho, he⟩ := h
  unfold Record.takeSegment Record.settleState
  cases hst : r.segmentTaken
  · cases hwt : r.windowTaken
    · exact ⟨by simpa [hwt, hst] using hw, hu, ho, he⟩
    · exact ⟨by simp, hu, ho, he⟩
  · exact ⟨hw, hu, ho, he⟩

theorem State.Ordered.recordWindow {b : Prop} {s : State} (h : s.Ordered b) (c : Nat) (x y : ChanResult) :
    (s.recordWindow c x y).Ordered b :=
  (h.onRecordOf c fun _ _ hr => hr.takeWindow x y).closeComplete

theorem State.Ordered.recordSegment {b : Prop} {s : State} (h : s.Ordered b) (c : Nat) (loss : Option Int) (band : Nat) :
    (s.recordSegment c loss band).Ordered b :=
  (h.onRecordOf c fun _ _ hr => hr.takeSegment loss band).closeComplete

theorem State.Ordered.timeoutPeers {b : Prop} {s : State} (h : s.Ordered b) : s.timeoutPeers.Ordered b := by
  refine (foldl_keeps (P := State.Ordered False) (fun u st hu => ?_) _ h.weaken).closeComplete
  unfold State.timeoutPeer
  split
  · exact hu.silencePeer st _
  · exact hu

theorem State.Ordered.lateWitness {b : Prop} {s : State} (h : s.Ordered b) (st : Station) (c : Nat) :
    (s.lateWitness st c).Ordered b := by
  refine State.Ordered.onPeer (h.of_body (State.fault_body _ _ _ _ _)) st fun p hp => ?_
  rw [if_neg (by rw [hp]; decide)]
  exact hp

/-- R66: a witness of a station that has none in the list is appended. -/
theorem State.Ordered.placeWitness {b : Prop} {s : State} (h : s.Ordered b) {st : Station} (hst : st ≠ s.station)
    (c score weight : Nat) (learning : Bool) : (s.placeWitness st c score weight learning).Ordered b := by
  unfold State.placeWitness
  split
  · split
    · exact h.lateWitness st c
    · split
      · exact h.lateWitness st c
      · split
        · exact h.of_body (State.fault_body _ _ _ _ _)
        · next r hr _ hnew =>
          refine State.Ordered.closeComplete (h.onRecordOf c fun x hx ⟨hw, hu, ho, he⟩ => ⟨hw, ?_, fun w hw' => ?_, he⟩)
          · cases hr.symm.trans hx
            refine List.pairwise_append.mpr ⟨hu, List.pairwise_singleton _ _, fun w hw' w' hst' => ?_⟩
            cases List.mem_singleton.mp hst'
            exact fun hsame => hnew (List.any_eq_true.mpr ⟨w, hw', beq_iff_eq.mpr hsame⟩)
          · rcases List.mem_append.mp hw' with hw' | hw'
            · exact ho w hw'
            · cases List.mem_singleton.mp hw'
              exact hst
  · exact h

end Sys2Proof.Machine

/-! # The engine: marks, tooth edges, windows and every command -/

namespace Sys2Proof.Machine

/-! ## The pending mark list (R16, R17) -/

theorem PendingMark.notAfter_iff (a b : PendingMark) :
    a.notAfter b = true ↔ a.dist < b.dist ∨ (a.dist = b.dist ∧ a.kind.rank ≤ b.kind.rank) := by
  simp [PendingMark.notAfter]

theorem PendingMark.precedes_iff (a b : PendingMark) :
    a.precedes b = true ↔ a.dist < b.dist ∨ (a.dist = b.dist ∧ a.kind.rank < b.kind.rank) := by
  simp [PendingMark.precedes]

/-- The marks in order of issue. -/
def MarksSorted (l : List PendingMark) : Prop := l.Pairwise (fun a b => a.notAfter b = true)

theorem mem_insertMark {m x : PendingMark} {l : List PendingMark} : x ∈ insertMark m l ↔ x = m ∨ x ∈ l := by
  induction l with
  | nil => simp [insertMark]
  | cons y l ih =>
    unfold insertMark
    split
    · simp
    · simp [ih, or_left_comm]

theorem MarksSorted.insert {l : List PendingMark} (h : MarksSorted l) (m : PendingMark) : MarksSorted (insertMark m l) := by
  induction l with
  | nil => exact List.pairwise_singleton _ _
  | cons x l ih =>
    obtain ⟨hx, hl⟩ := List.pairwise_cons.mp h
    unfold insertMark
    split
    · next hp =>
      rw [PendingMark.precedes_iff] at hp
      refine List.pairwise_cons.mpr ⟨fun y hy => ?_, h⟩
      rw [PendingMark.notAfter_iff]
      rcases List.mem_cons.mp hy with rfl | hy
      · omega
      · have := (PendingMark.notAfter_iff x y).mp (hx y hy)
        omega
    · next hp =>
      rw [PendingMark.precedes_iff] at hp
      refine List.pairwise_cons.mpr ⟨fun y hy => ?_, ih hl⟩
      rcases mem_insertMark.mp hy with rfl | hy
      · rw [PendingMark.notAfter_iff]
        omega
      · exact hx y hy

theorem MarksSorted.foldl_insert {α : Type} (f : α → PendingMark) (xs : List α) {l : List PendingMark} (h : MarksSorted l) :
    MarksSorted (xs.foldl (fun l x => insertMark (f x) l) l) := by
  induction xs generalizing l with
  | nil => exact h
  | cons x xs ih => exact ih (h.insert (f x))

theorem MarksSorted.replaceMark {rest : List PendingMark} (h : MarksSorted rest) (im : Image) (m : PendingMark) :
    MarksSorted (replaceMark im m rest) := by
  unfold Machine.replaceMark
  split
  · exact h.insert _
  · exact h.insert _
  · exact h.insert _
  · exact (h.insert _).foldl_insert id _
  · exact h

theorem MarksSorted.shift {l : List PendingMark} (h : MarksSorted l) (d : Int) :
    MarksSorted (l.map (fun m => { m with dist := m.dist - d })) := by
  refine List.pairwise_map.mpr (h.imp fun {a b} hab => ?_)
  rw [PendingMark.notAfter_iff] at hab ⊢
  show a.dist - d < b.dist - d ∨ (a.dist - d = b.dist - d ∧ a.kind.rank ≤ b.kind.rank)
  omega

theorem Image.entryMarks_sorted (im : Image) (c : Nat) : MarksSorted (im.entryMarks c) :=
  MarksSorted.foldl_insert (fun m : MarkKind × Nat × Option Nat => { kind := m.1, angle := m.2.1, pos := m.2.2, dist := (entryDistance m.2.1 c : Int) })
    im.standingMarks List.Pairwise.nil

/-! ## The tracker (R2) -/

/-- What `State.TrackerOk` says of the tracker itself. -/
structure Tracker.Ok (tr : Tracker) : Prop where
  loose : tr.sync ≠ .phased → tr.marks = [] ∧ tr.phase = none ∧ tr.warmUp = 0
  still : tr.sync = .stopped ∨ tr.sync = .seeking → tr.angle = none ∧ tr.edgeAngle = none ∧ tr.toothIndex = none
  fixed : tr.sync = .crankLocked ∨ tr.sync = .phased →
    tr.angle.isSome = true ∧ tr.edgeAngle.isSome = true ∧ tr.toothIndex.isSome = true
  phase : tr.sync = .phased → tr.phase.isSome = true
  camMiss : tr.camMiss ≤ 1
  sorted : MarksSorted tr.marks

theorem State.trackerOk_iff (s : State) :
    s.TrackerOk ↔ s.tracker.Ok ∧ (s.node.state.configured = false → s.tracker.sync = .stopped) :=
  ⟨fun ⟨h1, h2, h3, h4, h5, h6, h7⟩ => ⟨⟨h1, h2, h3, h4, h5, h6⟩, h7⟩,
    fun ⟨⟨h1, h2, h3, h4, h5, h6⟩, h7⟩ => ⟨h1, h2, h3, h4, h5, h6, h7⟩⟩

/-- An update of the tracker that keeps the sync state. -/
theorem State.Ordered.onTracker {b : Prop} {s : State} (h : s.Ordered b) {f : Tracker → Tracker} (hok : (f s.tracker).Ok)
    (hsync : (f s.tracker).sync = s.tracker.sync)
    (hwarm : s.tracker.warmUp = s.params.warmUp → (f s.tracker).warmUp = s.tracker.warmUp) : (s.onTracker f).Ordered b := by
  obtain ⟨ok, none⟩ := h
  refine ⟨⟨(State.trackerOk_iff _).mpr ⟨hok, fun hn => hsync.trans (((State.trackerOk_iff s).mp ok.tracker).2 hn)⟩, ok.port, ok.slots,
    fun r hr => ?_, ok.record, fun hi => ?_, fun hi => ?_⟩, none⟩
  · obtain ⟨hn, hp, hw⟩ := ok.judging r hr
    exact ⟨hn, hsync.trans hp, (hwarm hw).trans hw⟩
  · obtain ⟨hn, hp, he⟩ := ok.integratorA hi
    exact ⟨hn, hsync.trans hp, he⟩
  · obtain ⟨hn, hp, he⟩ := ok.integratorB hi
    exact ⟨hn, hsync.trans hp, he⟩

/-- An update of the tracker of a quiet node. -/
theorem State.Ordered.onTracker_quiet {b : Prop} {s : State} (h : s.Ordered b) {f : Tracker → Tracker}
    (hs : s.node.state ≠ .running ∨ s.tracker.sync ≠ .phased) (hok : (f s.tracker).Ok)
    (hconf : s.node.state.configured = false → (f s.tracker).sync = .stopped) : (s.onTracker f).Ordered b := by
  obtain ⟨closed, idle⟩ := h.quiet hs
  exact .of_quiet ((State.trackerOk_iff _).mpr ⟨hok, hconf⟩) h.ok.port h.ok.slots closed idle

theorem State.Ordered.trackerOk {b : Prop} {s : State} (h : s.Ordered b) : s.tracker.Ok := ((State.trackerOk_iff s).mp h.ok.tracker).1

/-- A tracker that is not STOPPED belongs to a configured node. -/
theorem State.Ordered.configured {b : Prop} {s : State} (h : s.Ordered b) (hs : s.tracker.sync ≠ .stopped) :
    s.node.state.configured = true := by
  cases hc : s.node.state.configured with
  | true => rfl
  | false => exact absurd (((State.trackerOk_iff s).mp h.ok.tracker).2 hc) hs

/-- An update of the tracker that keeps what the invariant reads of it. -/
theorem Tracker.Ok.congr {tr tr' : Tracker} (h : tr.Ok) (hs : tr'.sync = tr.sync) (hm : tr'.marks = tr.marks)
    (hp : tr'.phase = tr.phase) (hw : tr'.warmUp = tr.warmUp) (ha : tr'.angle = tr.angle) (he : tr'.edgeAngle = tr.edgeAngle)
    (hi : tr'.toothIndex = tr.toothIndex) (hc : tr'.camMiss ≤ 1) : tr'.Ok where
  loose := by rw [hs, hm, hp, hw]; exact h.loose
  still := by rw [hs, ha, he, hi]; exact h.still
  fixed := by rw [hs, ha, he, hi]; exact h.fixed
  phase := by rw [hs, hp]; exact h.phase
  camMiss := hc
  sorted := by rw [hm]; exact h.sorted

theorem Tracker.Ok.moveTo {tr : Tracker} (h : tr.Ok) (hs : tr.sync = .phased) (a : Nat) : (tr.moveTo a).Ok where
  loose hn := absurd hs hn
  still hn := by simp [Tracker.moveTo, hs] at hn
  fixed hn := ⟨rfl, (h.fixed hn).2⟩
  phase _ := rfl
  camMiss := h.camMiss
  sorted := h.sorted.shift _

theorem Tracker.Ok.interpolate {tr : Tracker} (h : tr.Ok) (im : Image) (now : Tick) :
    (tr.interpolate im now).Ok ∧ (tr.interpolate im now).sync = tr.sync ∧ (tr.interpolate im now).warmUp = tr.warmUp := by
  unfold Tracker.interpolate
  split
  · next hs => exact ⟨h.moveTo hs _, rfl, rfl⟩
  · next hs =>
    exact ⟨⟨h.loose, fun hn => by simp [hs] at hn, fun hn => ⟨rfl, (h.fixed hn).2⟩, h.phase, h.camMiss, h.sorted⟩, rfl, rfl⟩
  · exact ⟨h, rfl, rfl⟩

theorem Tracker.Ok.elapse {tr : Tracker} (h : tr.Ok) (im : Image) (now : Tick) (d : Nat) :
    (tr.elapse im now d).Ok ∧ (tr.elapse im now d).sync = tr.sync ∧ (tr.elapse im now d).warmUp = tr.warmUp :=
  Tracker.Ok.interpolate (tr := { tr with stallLeft := countDown d tr.stallLeft })
    (h.congr rfl rfl rfl rfl rfl rfl rfl h.camMiss) im now

theorem ConfigPort.elapse_ne_idle {d : Nat} {p : ConfigPort} (h : p.elapse d ≠ .idle) : p ≠ .idle :=
  fun hp => h (by rw [hp]; rfl)

/-! ## Time -/

theorem State.Ordered.advance {b : Prop} {s : State} (h : s.Ordered b) (t : Tick) : (s.advance t).Ordered b := by
  obtain ⟨tracked, sync, warm⟩ := h.trackerOk.elapse s.params t (ticksFrom s.now t)
  have elapsed := h.onTracker (f := Tracker.elapse s.params t (ticksFrom s.now t)) tracked sync (fun _ => warm)
  obtain ⟨htr, hport, hlen, hjudging, hrecord, ha, hb⟩ := elapsed.ok
  exact ⟨⟨htr, fun hp => hport (ConfigPort.elapse_ne_idle hp), hlen, hjudging, hrecord, ha, hb⟩, elapsed.none⟩

/-! ## The channels -/

/-- An update of a channel that starts no integration and, while one runs, keeps the channel's state. -/
theorem State.Ordered.onChan {b : Prop} {s : State} (h : s.Ordered b) (ch : Chan) {f : Channel → Channel}
    (hf : (f (s.chan ch)).integrator ≠ .idle →
      (s.chan ch).integrator ≠ .idle ∧ (f (s.chan ch)).state = (s.chan ch).state) : (s.onChan ch f).Ordered b := by
  obtain ⟨⟨htr, hport, hlen, hjudging, hrecord, ha, hb⟩, none⟩ := h
  cases ch with
  | a =>
    refine ⟨⟨htr, hport, hlen, hjudging, hrecord, fun hi => ?_, hb⟩, none⟩
    obtain ⟨hi, hs⟩ := hf hi
    exact ⟨(ha hi).1, (ha hi).2.1, hs.trans (ha hi).2.2⟩
  | b =>
    refine ⟨⟨htr, hport, hlen, hjudging, hrecord, ha, fun hi => ?_⟩, none⟩
    obtain ⟨hi, hs⟩ := hf hi
    exact ⟨(hb hi).1, (hb hi).2.1, hs.trans (hb hi).2.2⟩

theorem State.Ordered.onChans {b : Prop} {s : State} (h : s.Ordered b) {f : Channel → Channel}
    (hf : ∀ c : Channel, (f c).integrator ≠ .idle → c.integrator ≠ .idle ∧ (f c).state = c.state) : (s.onChans f).Ordered b :=
  State.Ordered.onChan (State.Ordered.onChan h .a (hf _)) .b (hf _)

theorem Channel.sample_keeps (now : Tick) (m : Nat) (c : Channel) : (c.sample now m).state = c.state
    ∧ ((c.sample now m).integrator ≠ .idle → c.integrator ≠ .idle) := by
  unfold Channel.sample
  split
  · next hi =>
    rw [hi]
    split
    · exact ⟨rfl, fun _ => nofun⟩
    · split
      · exact ⟨rfl, fun _ => nofun⟩
      · split <;> exact ⟨rfl, fun _ => nofun⟩
  · exact ⟨rfl, id⟩

theorem Channel.levelRises_keeps (c : Channel) : c.levelRises.state = c.state ∧ c.levelRises.integrator = c.integrator := by
  unfold Channel.levelRises
  dsimp only
  split <;> exact ⟨rfl, rfl⟩

theorem Channel.levelFalls_keeps (c : Channel) : c.levelFalls.state = c.state ∧ c.levelFalls.integrator = c.integrator := by
  unfold Channel.levelFalls
  dsimp only
  split <;> exact ⟨rfl, rfl⟩

theorem Channel.envelope_keeps (v : Nat) (c : Channel) :
    (c.envelope v).state = c.state ∧ (c.envelope v).integrator = c.integrator := by
  unfold Channel.envelope
  split <;> exact ⟨rfl, rfl⟩

theorem Channel.restartPeak_keeps (c : Channel) : c.restartPeak.state = c.state ∧ c.restartPeak.integrator = c.integrator := by
  unfold Channel.restartPeak
  split <;> exact ⟨rfl, rfl⟩

theorem Channel.judgeProbe_integrator (c : Channel) : c.judgeProbe.integrator = c.integrator := by
  unfold Channel.judgeProbe
  split
  · split <;> rfl
  · rfl

/-- R29: the integrations of a window in RUNNING and PHASED. -/
theorem State.Ordered.windowOpen {b : Prop} {s : State} (h : s.Ordered b) (hp : s.tracker.sync = .phased) (k c : Nat) :
    (s.windowOpen k c).Ordered b := by
  unfold State.windowOpen
  split
  · next hn =>
    obtain ⟨⟨htr, hport, hlen, hjudging, hrecord, ha, hb⟩, none⟩ := h
    have opened : ∀ x : Channel, (x.integrator ≠ .idle → s.node.state = .running ∧ s.tracker.sync = .phased ∧ x.state = .enabled) →
        (x.openWindow s.now k c).integrator ≠ .idle →
          s.node.state = .running ∧ s.tracker.sync = .phased ∧ (x.openWindow s.now k c).state = .enabled := by
      intro x hx
      unfold Channel.openWindow
      split
      · next he => exact fun _ => ⟨hn, hp, he⟩
      · exact hx
    exact ⟨⟨htr, hport, hlen, hjudging, hrecord, opened s.chanA ha, opened s.chanB hb⟩, none⟩
  · exact h

/-! ## The other blocks at a mark -/

theorem State.onCyl_engine (s : State) (c : Nat) (f : CylEntry → CylEntry) : (s.onCyl c f).engine = s.engine := rfl
theorem State.onContext_engine (s : State) (f : Context → Context) : (s.onContext f).engine = s.engine := rfl

theorem State.raiseWhen_engine (b : Bool) (x : AlertSource) (s : State) : (s.raiseWhen b x).engine = s.engine := by
  cases b
  · rfl
  · exact State.engine_of_body (s.raise_body x)

theorem State.endBlock_engine (s : State) (c : Nat) : (s.endBlock c).engine = s.engine := by
  rw [State.endBlock_eq]
  refine (State.engine_of_body (State.queueReport_body (s.judgedBlock c) _ _ _)).trans ?_
  exact (State.raiseWhen_engine _ _ _).trans (State.raiseWhen_engine _ _ _)

theorem State.countCycle_engine (s : State) (c : Nat) : (s.countCycle c).engine = s.engine := by
  unfold State.countCycle
  split
  · split
    · exact s.endBlock_engine c
    · rfl
  · rfl

theorem State.takeOverIfDue_engine (s : State) (c : Nat) : (s.takeOverIfDue c).engine = s.engine := by
  unfold State.takeOverIfDue
  split
  · rw [State.engine_of_body (State.raise_body _ _), State.onCyl_engine]
  · rfl

theorem foldl_engine {α : Type} {f : State → α → State} (hf : ∀ s a, (f s a).engine = s.engine) (l : List α) (s : State) :
    (l.foldl f s).engine = s.engine :=
  foldl_keeps (P := fun t => t.engine = s.engine) (fun t a h => (hf t a).trans h) l rfl

theorem State.cylinderCycleMark_engine (s : State) : s.cylinderCycleMark.engine = s.engine := by
  unfold State.cylinderCycleMark
  split
  · exact (foldl_engine State.countCycle_engine _ _).trans (foldl_engine State.takeOverIfDue_engine _ _)
  · rfl

theorem State.contextCycleMark_engine (s : State) : s.contextCycleMark.engine = s.engine := by
  unfold State.contextCycleMark
  dsimp only
  split
  · rw [State.engine_of_body (State.fault_body _ _ _ _ _), State.onContext_engine]
  · rfl

theorem State.Ordered.cycleMark {b : Prop} {s : State} (h : s.Ordered b) (hp : s.tracker.sync = .phased) : s.cycleMark.Ordered b := by
  obtain ⟨-, still, fixed, phase, camMiss, sorted⟩ := h.trackerOk
  have counted : (s.onTracker (Tracker.cycleMark s.params)).Ordered b :=
    h.onTracker ⟨fun hn => absurd hp hn, still, fixed, phase, camMiss, sorted⟩ rfl (fun hw => if_neg (by omega))
  exact counted.congr ((State.cylinderCycleMark_engine _).trans (State.contextCycleMark_engine _))

/-- R59 to R61: a record opened. -/
theorem State.Ordered.openRecord {b : Prop} {s : State} (h : s.Ordered b) (k c : Nat) : (s.openRecord k c).Ordered b := by
  unfold State.openRecord
  split
  · next hn =>
    obtain ⟨running, warm, -⟩ := hn
    split
    · next slot hslot =>
      have hwarm : s.tracker.sync = .phased ∧ s.tracker.warmUp = s.params.warmUp := by
        simpa [State.phasedWarm, State.warm] using warm
      refine h.replace rfl (List.length_set ..) fun r hr => ⟨⟨running, hwarm⟩, ?_⟩
      rcases List.mem_or_eq_of_mem_set (State.mem_openRecords.mp hr) with hr | hr
      · exact ⟨h.ok.record r (State.mem_openRecords.mpr hr), fun hb => h.none hb r (State.mem_openRecords.mpr hr)⟩
      · cases hr
        refine ⟨⟨by simp [State.newRecord], List.Pairwise.nil, nofun, fun st hst => ?_⟩, fun _ => rfl⟩
        exact beq_iff_eq.mp (List.mem_filter.mp hst).2
    · exact h
  · exact h

theorem State.Ordered.firingMark {b : Prop} {s : State} (h : s.Ordered b) (k : Nat) : (s.firingMark k).Ordered b :=
  State.Ordered.openRecord (s := s.removeReports _) (h.congr rfl) k _

/-- R68: the onset event. -/
theorem State.Ordered.markShock {b : Prop} {s : State} (h : s.Ordered b) : s.markShock.Ordered b :=
  h.onOpenRecords fun _ _ => ⟨fun ⟨hw, hu, ho, he⟩ => ⟨hw, hu, ho, he⟩, fun _ => id⟩

theorem State.Ordered.extendHold {b : Prop} {s : State} (h : s.Ordered b) (d : Nat) (cause : HoldCause) :
    (s.extendHold d cause).Ordered b := by
  unfold State.extendHold
  split
  · exact State.Ordered.markShock (h.congr rfl)
  · split
    · exact h.congr rfl
    · exact h

theorem State.considerJolt_engine (s : State) (peak : Nat) : (s.considerJolt peak).engine = s.engine := by
  unfold State.considerJolt
  split
  · rw [State.onContext_engine, State.engine_of_body (State.queueReport_body _ _ _ _)]
  · rfl

theorem State.Ordered.boundaryPeak {b : Prop} {s : State} (h : s.Ordered b) : s.boundaryPeak.Ordered b := by
  unfold State.boundaryPeak
  split
  · have restarted : (s.onChans Channel.restartPeak).Ordered b :=
      h.onChans fun c hi => ⟨c.restartPeak_keeps.2 ▸ hi, c.restartPeak_keeps.1⟩
    unfold State.takePeak
    split
    · exact (restarted.extendHold _ _).congr (State.considerJolt_engine _ _)
    · exact restarted
  · exact h

theorem State.Ordered.takePeriod {b : Prop} {s : State} (h : s.Ordered b) (p : Nat) (pos : Option Nat) :
    (s.takePeriod p pos).Ordered b := by
  cases pos with
  | none => exact h.congr rfl
  | some k => exact State.Ordered.recordSegment (s := s.onEstimator (Estimator.shift p)) (h.congr rfl) _ _ _

theorem State.Ordered.boundary {b : Prop} {s : State} (h : s.Ordered b) (ended : Option Nat) (order : BoundaryOrder) :
    (s.boundary ended order).Ordered b := by
  have chained : (s.onTracker (fun tr => { tr with chain := some s.now })).Ordered b :=
    h.onTracker (h.trackerOk.congr rfl rfl rfl rfl rfl rfl rfl h.trackerOk.camMiss) rfl (fun _ => rfl)
  unfold State.boundary
  dsimp only
  split
  · cases order with
    | segmentEndFirst => exact (chained.takePeriod _ _).boundaryPeak
    | peakFirst => exact chained.boundaryPeak.takePeriod _ _
  · exact chained.boundaryPeak

theorem State.reportClip_body (s : State) (c : Nat) (r : ChanResult) : (s.reportClip c r).body = s.body := by
  unfold State.reportClip
  split
  · exact State.fault_body _ _ _ _ _
  · rfl

theorem State.produceWitness_engine (s : State) (c : Nat) (x y : ChanResult) : (s.produceWitness c x y).engine = s.engine := by
  have queued : ∀ u : State, u = (if 1 ≤ localWeight x y then s.queueReport .witness (some c)
      (witnessPayload c (localScore x y) (localWeight x y) (localLearning x y)) else s) → u.engine = s.engine := by
    rintro u rfl
    split
    · exact State.engine_of_body (State.queueReport_body _ _ _ _)
    · rfl
  unfold State.produceWitness
  dsimp only
  split
  · split
    · rw [State.onCyl_engine]
      exact queued _ rfl
    · exact queued _ rfl
  · rfl

theorem State.Ordered.windowClose {b : Prop} {s : State} (h : s.Ordered b) (k c : Nat) : (s.windowClose k c).Ordered b := by
  have abandoned : (s.onChans Channel.abandon).Ordered b := h.onChans fun _ hi => absurd rfl hi
  have clipped := (abandoned.of_body (State.reportClip_body _ c (s.windowResult .a k c))).of_body
    (State.reportClip_body _ c (s.windowResult .b k c))
  unfold State.windowClose
  dsimp only
  split
  · split
    · exact clipped.recordWindow _ _ _
    · exact clipped.congr (State.produceWitness_engine _ _ _ _)
  · exact h

/-! ## Leaving PHASED -/

/-- After a loss event no record is open and no integration runs; only the tracker is left to look at. -/
theorem State.Ordered.lossEvent {b : Prop} {s : State} (hlen : s.records.length = 8) (htr : s.TrackerOk)
    (hport : s.node.port ≠ .idle → s.node.state = .loading) : s.lossEvent.Ordered b := by
  obtain ⟨cs, e⟩ := s.abortAll_eq
  unfold State.lossEvent
  rw [e]
  refine .of_quiet htr hport ((List.length_map _).trans hlen) (State.openRecords_of_none fun o ho => ?_) fun ch => ?_
  · obtain ⟨_, -, rfl⟩ := List.mem_map.mp ho
    rfl
  · cases ch <;> rfl

theorem Tracker.Ok.dropPhase {tr : Tracker} (h : tr.Ok) (hs : tr.sync = .phased) : tr.dropPhase.Ok where
  loose _ := ⟨rfl, rfl, rfl⟩
  still hn := by simp [Tracker.dropPhase] at hn
  fixed _ := by
    obtain ⟨ha, he, hi⟩ := h.fixed (.inr hs)
    exact ⟨by simpa [Tracker.dropPhase] using ha, by simpa [Tracker.dropPhase] using he, hi⟩
  phase hn := by simp [Tracker.dropPhase] at hn
  camMiss := Nat.zero_le _
  sorted := List.Pairwise.nil

theorem State.Ordered.camMismatch {b : Prop} {s : State} (h : s.Ordered b) (hp : s.tracker.sync = .phased) :
    s.camMismatch.Ordered b := by
  have hconf := h.configured (by rw [hp]; decide)
  have dropped := h.trackerOk.dropPhase hp
  have faulted : (s.fault .camMismatch).Ordered b := h.of_body (State.fault_body _ _ _ _ _)
  have htracker : (s.fault .camMismatch).tracker = s.tracker := State.body_tracker (State.fault_body _ _ _ _ _)
  have hnode : (s.fault .camMismatch).node = s.node := State.body_node (State.fault_body _ _ _ _ _)
  have tracked : ((s.fault .camMismatch).onTracker Tracker.dropPhase).TrackerOk := by
    refine (State.trackerOk_iff _).mpr ⟨?_, fun hn => ?_⟩
    · rw [State.onTracker_tracker, htracker]
      exact dropped
    · rw [State.onTracker_node, hnode, hconf] at hn
      cases hn
  unfold State.camMismatch
  dsimp only
  split
  · refine State.Ordered.lossEvent faulted.ok.slots ((State.trackerOk_iff _).mpr ?_) faulted.ok.port
    obtain ⟨ok, hc⟩ := (State.trackerOk_iff _).mp tracked
    exact ⟨ok.congr rfl rfl rfl rfl rfl rfl rfl ok.camMiss, hc⟩
  · exact State.Ordered.lossEvent faulted.ok.slots tracked faulted.ok.port

theorem State.Ordered.camWindowEnd {b : Prop} {s : State} (h : s.Ordered b) (hp : s.tracker.sync = .phased) :
    s.camWindowEnd.Ordered b := by
  unfold State.camWindowEnd
  split
  · exact h.onTracker (h.trackerOk.congr rfl rfl rfl rfl rfl rfl rfl (Nat.zero_le _)) rfl (fun _ => rfl)
  · split
    · exact h.onTracker (h.trackerOk.congr rfl rfl rfl rfl rfl rfl rfl le_rfl) rfl (fun _ => rfl)
    · exact h.camMismatch hp

/-! ## Issuing -/

theorem State.Ordered.deliverMark {b : Prop} {s : State} (h : s.Ordered b) (hp : s.tracker.sync = .phased) (m : PendingMark)
    (order : BoundaryOrder) : (s.deliverMark m order).Ordered b := by
  unfold State.deliverMark
  cases m.kind with
  | cycle => exact h.cycleMark hp
  | firing => exact h.firingMark _
  | segment => exact h.boundary _ _
  | windowOpen => exact h.windowOpen hp _ _
  | windowClose => exact h.windowClose _ _
  | camWindowEnd => exact h.camWindowEnd hp
  | deadline => exact h.deadlineMark _

/-- Marks are pending only in PHASED. -/
theorem State.Ordered.phased_of_marks {b : Prop} {s : State} (h : s.Ordered b) {m : PendingMark} {rest : List PendingMark}
    (hm : s.tracker.marks = m :: rest) : s.tracker.sync = .phased := by
  by_contra hp
  have := (h.trackerOk.loose hp).1
  rw [hm] at this
  cases this

theorem State.Ordered.issueMark {b : Prop} {s : State} (h : s.Ordered b) {m : PendingMark} {rest : List PendingMark}
    (hm : s.tracker.marks = m :: rest) (order : BoundaryOrder) : (s.issueMark m rest order).Ordered b := by
  have hp := h.phased_of_marks hm
  obtain ⟨-, still, fixed, phase, camMiss, sorted⟩ := h.trackerOk
  rw [hm] at sorted
  have placed : (s.onTracker (fun tr => { tr with marks := replaceMark s.params m rest })).Ordered b :=
    h.onTracker ⟨fun hn => absurd hp hn, still, fixed, phase, camMiss,
      MarksSorted.replaceMark (List.Pairwise.of_cons sorted) _ _⟩ rfl (fun _ => rfl)
  exact (placed.deliverMark hp m order).settle

theorem State.Ordered.issueMarks {b : Prop} {s : State} (h : s.Ordered b) (fuel : Nat) (order : BoundaryOrder) :
    (s.issueMarks fuel order).Ordered b := by
  induction fuel generalizing s with
  | zero => exact h
  | succ n ih =>
    unfold State.issueMarks
    split
    · next hm =>
      split
      · exact ih (h.issueMark hm order)
      · exact h
    · exact h

/-! ## Tooth edges, stalls and cam edges -/

theorem State.Ordered.lockedBoundary {b : Prop} {s : State} (h : s.Ordered b) (order : BoundaryOrder) :
    (s.lockedBoundary order).Ordered b := by
  unfold State.lockedBoundary
  split
  · exact h.boundary _ _
  · exact h

/-- The tracker's fields after a tooth-count error (R7, R12). -/
def Tracker.miscounted (candidate wasPhased : Bool) (tr : Tracker) : Tracker :=
  { tr with
    sync := .seeking, toothIndex := none, edgeAngle := none, angle := none, phase := none, marks := []
    refCount := if candidate then some 0 else none, warmUp := if wasPhased then 0 else tr.warmUp, chain := none }

theorem State.toothCountError_eq (s : State) (candidate : Bool) (lost : Occurrence) :
    s.toothCountError candidate lost =
      if s.tracker.sync == .phased then
        (((s.occur lost).onTracker (Tracker.miscounted candidate true)).onEstimator (fun _ => Estimator.empty)).lossEvent
      else ((s.occur lost).onTracker (Tracker.miscounted candidate false)).onEstimator (fun _ => Estimator.empty) := by
  unfold State.toothCountError
  dsimp only
  split
  · rfl
  · rfl

theorem Tracker.miscounted_ok {tr : Tracker} (h : tr.Ok) (candidate : Bool) {wasPhased : Bool}
    (hw : wasPhased = false → tr.sync ≠ .phased) : (tr.miscounted candidate wasPhased).Ok where
  loose _ := by
    refine ⟨rfl, rfl, ?_⟩
    cases wasPhased with
    | true => rfl
    | false => exact (h.loose (hw rfl)).2.2
  still _ := ⟨rfl, rfl, rfl⟩
  fixed hn := by simp [Tracker.miscounted] at hn
  phase hn := by simp [Tracker.miscounted] at hn
  camMiss := h.camMiss
  sorted := List.Pairwise.nil

theorem State.Ordered.toothCountError {b : Prop} {s : State} (h : s.Ordered b) (hs : s.tracker.sync ≠ .stopped)
    (candidate : Bool) (lost : Occurrence) : (s.toothCountError candidate lost).Ordered b := by
  have occurred : (s.occur lost).Ordered b := h.of_body (s.occur_body lost)
  have htracker : (s.occur lost).tracker = s.tracker := State.body_tracker (s.occur_body lost)
  have hconf : (s.occur lost).node.state.configured = true := occurred.configured (by rw [htracker]; exact hs)
  rw [State.toothCountError_eq]
  split
  · refine State.Ordered.lossEvent occurred.ok.slots ((State.trackerOk_iff _).mpr ⟨?_, fun hn => ?_⟩) occurred.ok.port
    · exact Tracker.miscounted_ok occurred.trackerOk candidate nofun
    · exact absurd hn (ne_true_of_eq_false · hconf)
  · next hp =>
    have loose : (s.occur lost).tracker.sync ≠ .phased := by
      rw [htracker]
      exact fun hp' => hp (beq_iff_eq.mpr hp')
    refine State.Ordered.congr (s := (s.occur lost).onTracker (Tracker.miscounted candidate false)) ?_ rfl
    exact occurred.onTracker_quiet (.inr loose) (Tracker.miscounted_ok occurred.trackerOk candidate fun _ => loose)
      fun hn => absurd hconf (by rw [hn]; decide)

end Sys2Proof.Machine

/-! # Every step keeps the engine -/

namespace Sys2Proof.Machine

/-! ## The engine inputs -/

theorem Tracker.Ok.seek {tr : Tracker} (h : tr.Ok) (hs : tr.sync = .seeking) (im : Image) (candidate : Bool) :
    (tr.seek im candidate).Ok := by
  have counted : ∀ n, ({ tr with refCount := n } : Tracker).Ok := fun n => h.congr rfl rfl rfl rfl rfl rfl rfl h.camMiss
  have locked : (tr.lock im).Ok :=
    ⟨fun _ => h.loose (by rw [hs]; decide), fun hn => by simp [Tracker.lock] at hn, fun _ => ⟨rfl, rfl, rfl⟩,
      fun hn => by simp [Tracker.lock] at hn, h.camMiss, h.sorted⟩
  unfold Tracker.seek
  split
  · split
    · exact counted _
    · exact h
  · split
    · split
      · exact locked
      · exact counted _
    · split <;> exact counted _

theorem State.Ordered.takeTooth {b : Prop} {s : State} (h : s.Ordered b) (hs : s.tracker.sync ≠ .stopped) (order : BoundaryOrder) :
    (s.takeTooth order).Ordered b := by
  have measured : (s.onTracker (Tracker.measure s.now)).Ordered b :=
    h.onTracker (h.trackerOk.congr rfl rfl rfl rfl rfl rfl rfl h.trackerOk.camMiss) rfl (fun _ => rfl)
  have hconf := h.configured hs
  have estimated : ∀ {u : State} (c : Bool), u.Ordered b → (u.onTracker (Tracker.estimate s.params c)).Ordered b := fun c hu =>
    hu.onTracker (hu.trackerOk.congr rfl rfl rfl rfl rfl rfl rfl hu.trackerOk.camMiss) rfl (fun _ => rfl)
  unfold State.takeTooth
  dsimp only
  refine estimated _ ?_
  split
  · next hsync =>
    refine State.Ordered.lockedBoundary ?_ order
    exact measured.onTracker_quiet (.inr (by rw [State.onTracker_tracker]; show s.tracker.sync ≠ _; rw [hsync]; decide))
      (measured.trackerOk.seek hsync _ _) fun hn => absurd hconf (by rw [show s.node.state.configured = false from hn]; decide)
  · next hsync =>
    split
    · refine State.Ordered.lockedBoundary ?_ order
      obtain ⟨loose, still, fixed, phase, camMiss, sorted⟩ := measured.trackerOk
      refine measured.onTracker ⟨loose, fun hn => ?_, fun _ => ⟨rfl, rfl, rfl⟩, phase, camMiss, sorted⟩ rfl (fun _ => rfl)
      simp [Tracker.acceptLocked, Tracker.measure, hsync] at hn
    · exact measured.toothCountError hs _ _
  · next hsync =>
    split
    · have accepted : ((s.onTracker (Tracker.measure s.now)).onTracker (Tracker.acceptPhased s.params)).Ordered b := by
        refine measured.onTracker (Tracker.Ok.moveTo (tr := { s.tracker.measure s.now with
            toothIndex := some ((s.tracker.measure s.now).nextIndex s.params), edgeAngle := _ }) ?_ hsync _) rfl (fun _ => rfl)
        obtain ⟨loose, still, fixed, phase, camMiss, sorted⟩ := measured.trackerOk
        refine ⟨loose, fun hn => ?_, fun hn => ⟨(fixed hn).1, rfl, rfl⟩, phase, camMiss, sorted⟩
        simp [Tracker.measure, hsync] at hn
      unfold State.boundaryAfterDrop
      split
      · exact accepted.issueMarks _ order
      · exact (accepted.issueMarks _ order).lockedBoundary order
    · exact measured.toothCountError hs _ _
  · exact measured

theorem State.Ordered.toothEdge {b : Prop} {s : State} (h : s.Ordered b) (order : BoundaryOrder) :
    (toothEdge order s).Ordered b := by
  unfold Machine.toothEdge
  split
  · next hconf =>
    split
    · next hsync =>
      obtain ⟨loose, still, -, -, camMiss, sorted⟩ := h.trackerOk
      refine h.onTracker_quiet (.inr (by rw [hsync]; decide)) ⟨fun _ => loose (by rw [hsync]; decide), fun _ => still (.inl hsync),
        nofun, nofun, camMiss, sorted⟩ fun hn => absurd hconf (by rw [hn]; decide)
    · next hsync => exact h.takeTooth hsync order
  · exact h

theorem Tracker.stalled_ok (tr : Tracker) : tr.stalled.Ok :=
  ⟨fun _ => ⟨rfl, rfl, rfl⟩, fun _ => ⟨rfl, rfl, rfl⟩, fun hn => by simp [Tracker.stalled, Tracker.powerOn] at hn,
    fun hn => by simp [Tracker.stalled, Tracker.powerOn] at hn, Nat.zero_le _, List.Pairwise.nil⟩

theorem State.Ordered.stall {b : Prop} {s : State} (h : s.Ordered b) : (stall s).Ordered b := by
  have stalled : ∀ u : State, u.tracker.Ok → u.tracker.sync = .stopped → u.TrackerOk := fun u hok hs =>
    (State.trackerOk_iff u).mpr ⟨hok, fun _ => hs⟩
  unfold Machine.stall
  split
  · split
    · exact h
    · exact State.Ordered.lossEvent (s := (s.onTracker Tracker.stalled).breakChain) h.ok.slots
        (stalled _ s.tracker.stalled_ok rfl) h.ok.port
    · next hp hn =>
      refine State.Ordered.congr (s := s.onTracker Tracker.stalled) ?_ rfl
      exact h.onTracker_quiet (.inr fun hs => hn hs) s.tracker.stalled_ok fun _ => rfl
  · exact h

theorem Tracker.Ok.enterPhased {tr : Tracker} (h : tr.Ok) (hs : tr.sync = .crankLocked) (im : Image) (now : Tick) (c : Nat) :
    (tr.enterPhased im now c).Ok :=
  ⟨fun hn => absurd rfl hn, fun hn => by simp [Tracker.enterPhased] at hn, fun _ => ⟨rfl, rfl, (h.fixed (.inl hs)).2.2⟩,
    fun _ => rfl, Nat.zero_le _, im.entryMarks_sorted c⟩

theorem State.Ordered.camEdge {b : Prop} {s : State} (h : s.Ordered b) : (camEdge s).Ordered b := by
  unfold Machine.camEdge
  dsimp only
  split
  · next hs =>
    have hconf := h.configured (by rw [hs]; decide)
    have entered : ∀ c, (s.onTracker (Tracker.enterPhased s.params s.now c)).Ordered b := fun c =>
      h.onTracker_quiet (.inr (by rw [hs]; decide)) (h.trackerOk.enterPhased hs _ _ _) fun hn => absurd hconf (by rw [hn]; decide)
    split
    · exact entered _
    · split
      · exact entered _
      · exact h
  · next hs =>
    split
    · exact h.onTracker (h.trackerOk.congr rfl rfl rfl rfl rfl rfl rfl (Nat.zero_le _)) rfl (fun _ => rfl)
    · exact h.camMismatch hs
  · exact h

theorem State.Ordered.interpolatedMark {b : Prop} {s : State} (h : s.Ordered b) : (interpolatedMark s).Ordered b := by
  unfold Machine.interpolatedMark
  split
  · exact h.issueMarks _ _
  · exact h

theorem State.Ordered.qualificationExpiry {b : Prop} {s : State} (h : s.Ordered b) (ch : Chan) :
    (qualificationExpiry ch s).Ordered b := by
  unfold Machine.qualificationExpiry
  split
  · exact State.Ordered.of_body (h.onChan ch fun hi => absurd rfl hi) (State.fault_body _ _ _ _ _)
  · exact h

/-! ## Start-up and the node states -/

/-- A quiet node in another state. -/
theorem State.Ordered.onNode {b : Prop} {s : State} (h : s.Ordered b) (hn : s.node.state ≠ .running) {f : NodeCtl → NodeCtl}
    (hport : (f s.node).port ≠ .idle → (f s.node).state = .loading)
    (hconf : (f s.node).state.configured = false → s.tracker.sync = .stopped) : (s.onNode f).Ordered b := by
  obtain ⟨closed, idle⟩ := h.quiet (.inl hn)
  exact .of_quiet ((State.trackerOk_iff _).mpr ⟨h.trackerOk, hconf⟩) hport h.ok.slots closed idle

/-- The port works only in LOADING. -/
theorem State.Ordered.port_idle {b : Prop} {s : State} (h : s.Ordered b) (hn : s.node.state ≠ .loading) : s.node.port = .idle :=
  by_contra fun hp => hn (h.ok.port hp)

theorem State.Ordered.configReadDone {b : Prop} {s : State} (h : s.Ordered b) (bytes : List Byte) :
    (configReadDone bytes s).Ordered b := by
  unfold Machine.configReadDone
  split
  · next second hp =>
    have hn : s.node.state = .loading := h.ok.port (by rw [hp]; nofun)
    have hstop : s.tracker.sync = .stopped := ((State.trackerOk_iff s).mp h.ok.tracker).2 (by rw [hn]; rfl)
    obtain ⟨closed, idle⟩ := h.quiet (.inl (by rw [hn]; decide))
    split
    · next im _ =>
      rw [s.acceptImage_eq im]
      exact .of_quiet ((State.trackerOk_iff _).mpr ⟨h.trackerOk, nofun⟩) (fun hp => absurd rfl hp) h.ok.slots closed
        fun ch => by cases ch <;> rfl
    · split
      · refine State.Ordered.of_works (s := s.unconfigured) ?_ (State.MovesIn.works s.unconfigured_moves)
        exact State.Ordered.congr (h.onNode (f := fun n => { n with
          state := .unconfigured, port := .idle, statusTimer := some (msTicks Config.unconfiguredStatusMs) })
          (by rw [hn]; decide) (fun hp => absurd rfl hp) fun _ => hstop) rfl
      · exact h.onNode (by rw [hn]; decide) (fun _ => hn) fun _ => hstop
  · exact h

theorem State.Ordered.configRetry {b : Prop} {s : State} (h : s.Ordered b) : (configRetry s).Ordered b := by
  unfold Machine.configRetry
  split
  · next left hp =>
    have hn : s.node.state = .loading := h.ok.port (by rw [hp]; nofun)
    split
    · exact h.onNode (by rw [hn]; decide) (fun _ => hn) fun hc => ((State.trackerOk_iff s).mp h.ok.tracker).2 hc
    · exact h
  · exact h

theorem State.startListen_works (s : State) : s.startListen.works = s.works := State.MovesIn.works s.startListen_moves

theorem State.judgeChannel_body (s : State) (ch : Chan) : (s.judgeChannel ch).body = (s.onChan ch Channel.judgeProbe).body := by
  unfold State.judgeChannel
  dsimp only
  split
  · exact State.fault_body _ _ _ _ _
  · rfl

theorem State.judgeChannel_node (s : State) (ch : Chan) : (s.judgeChannel ch).node = s.node := by
  rw [State.body_node (s.judgeChannel_body ch), State.onChan_node]

theorem State.Ordered.judgeChannel {b : Prop} {s : State} (h : s.Ordered b) (hn : s.node.state = .probing) (ch : Chan) :
    (s.judgeChannel ch).Ordered b := by
  have idle := (h.quiet (.inl (by rw [hn]; decide))).2 ch
  refine State.Ordered.of_body (h.onChan ch fun hi => ?_) (s.judgeChannel_body ch)
  exact absurd ((Channel.judgeProbe_integrator _).trans idle) hi

theorem State.Ordered.probeEnd {b : Prop} {s : State} (h : s.Ordered b) : (probeEnd s).Ordered b := by
  unfold Machine.probeEnd
  split
  · next hs =>
    have judged := (h.judgeChannel hs.1 .a).judgeChannel (by rw [State.judgeChannel_node]; exact hs.1) .b
    have hn : ((s.judgeChannel .a).judgeChannel .b).node = s.node := by rw [State.judgeChannel_node, State.judgeChannel_node]
    refine State.Ordered.of_works (judged.onNode (f := fun n => { n with state := .joining }) (by rw [hn, hs.1]; decide)
      (fun hp => absurd (judged.port_idle (by rw [hn, hs.1]; decide)) hp) fun hc => Bool.noConfusion hc) (State.startListen_works _)
  · exact h

theorem State.Ordered.listenEnd {b : Prop} {s : State} (h : s.Ordered b) : (listenEnd s).Ordered b := by
  unfold Machine.listenEnd
  split
  · next hs =>
    refine State.Ordered.of_works (s := s.listenEnded) ?_ (State.MovesIn.works s.listenEnded_moves)
    exact h.onNode (by rw [hs.1]; decide) (fun hp => absurd (h.port_idle (by rw [hs.1]; decide)) hp) nofun
  · exact h

/-! ## Orders -/

theorem State.onMasked_engine (s : State) (mask : Byte) (f : CylEntry → CylEntry) : (s.onMasked mask f).engine = s.engine :=
  foldl_engine (fun s c => by split <;> rfl) _ _

theorem State.Ordered.relearn {b : Prop} {s : State} (h : s.Ordered b) (mask : Byte) : (s.relearn mask).Ordered b := by
  refine State.Ordered.onOpenRecords (h.congr (s.onMasked_engine mask _)) fun r _ => ?_
  unfold Record.relearn
  split
  · split
    · exact ⟨fun ⟨hw, hu, ho, he⟩ => ⟨hw, hu, ho, he⟩, fun _ => id⟩
    · exact ⟨id, fun _ => id⟩
  · exact ⟨id, fun _ => id⟩

theorem State.Ordered.enterProbing {b : Prop} {s : State} (h : s.Ordered b) (hn : s.node.state = .withdrawn) :
    s.enterProbing.Ordered b := by
  obtain ⟨closed, -⟩ := h.quiet (.inl (by rw [hn]; decide))
  exact .of_quiet ((State.trackerOk_iff _).mpr ⟨h.trackerOk, nofun⟩)
    (fun hp => absurd (h.port_idle (by rw [hn]; decide)) hp) h.ok.slots closed fun ch => by cases ch <;> rfl

theorem Tracker.powerOn_ok : Tracker.powerOn.Ok := Tracker.stalled_ok Tracker.powerOn

theorem State.Ordered.restart {b : Prop} {s : State} (h : s.Ordered b) (hn : s.node.state ≠ .loading) : s.restart.Ordered b := by
  rw [s.restart_eq]
  refine .of_quiet ((State.trackerOk_iff _).mpr ⟨Tracker.powerOn_ok, nofun⟩) (fun hp => absurd (h.port_idle hn) hp)
    ((List.length_map _).trans h.ok.slots) (State.openRecords_of_none fun o ho => ?_) fun ch => by cases ch <;> rfl
  obtain ⟨_, -, rfl⟩ := List.mem_map.mp ho
  rfl

theorem State.Ordered.enterHold {b : Prop} {s : State} (h : s.Ordered b) (hn : s.node.state ≠ .loading) : s.enterHold.Ordered b := by
  obtain ⟨cs, e⟩ := s.enterHold_eq
  rw [e]
  refine .of_quiet ((State.trackerOk_iff _).mpr ⟨h.trackerOk, nofun⟩) (fun hp => absurd (h.port_idle hn) hp)
    ((List.length_map _).trans h.ok.slots) (State.openRecords_of_none fun o ho => ?_) fun ch => by cases ch <;> rfl
  obtain ⟨_, -, rfl⟩ := List.mem_map.mp ho
  rfl

theorem State.Ordered.actOn {b : Prop} {s : State} (h : s.Ordered b) {o : OrderCode} (hn : o.acceptedIn s.node.state = true)
    (st : Station) (a1 a2 : Byte) : (s.actOn o st a1 a2).Ordered b := by
  unfold State.actOn
  cases o with
  | serve => exact h.congr rfl
  | clearCounts => exact h.congr (s.onMasked_engine a1 _)
  | relearn => exact h.relearn a1
  | clearFaults =>
    unfold State.clearFaults
    dsimp only
    split
    · next hw => exact State.Ordered.enterProbing (s := s.onFaults _) (h.congr rfl) hw
    · exact h.congr rfl
  | hold =>
    have hs : s.node.state = .running := beq_iff_eq.mp hn
    exact h.enterHold (by rw [hs]; decide)
  | resume =>
    have hs : s.node.state = .hold := beq_iff_eq.mp hn
    exact h.onNode (by rw [hs]; decide) (fun hp => absurd (h.port_idle (by rw [hs]; decide)) hp) nofun
  | restart => exact h.restart fun hl => by simp [OrderCode.acceptedIn, hl, NodeState.configured] at hn
  | report => exact h.of_works (State.MovesIn.works (s.report_moves st _))

theorem State.Ordered.takeOrder {b : Prop} {s : State} (h : s.Ordered b) (st : Station) (target : Byte) (code : Nat) (a1 a2 : Byte) :
    (s.takeOrder st target code a1 a2).Ordered b := by
  unfold State.takeOrder
  split
  · split
    · split
      · split
        · next ho => exact h.actOn ho st a1 a2
        · exact h
      · exact h.of_body (State.fault_body _ _ _ _ _)
    · exact h.of_body (State.fault_body _ _ _ _ _)
  · exact h

/-! ## Frames -/

theorem PeerEntry.hear_active (k : Kind) (now : Tick) {p : PeerEntry} (h : p.state = .active) : (p.hear k now).state = .active := by
  unfold PeerEntry.hear
  rw [h]

theorem State.Ordered.heardFrame {b : Prop} {s : State} (h : s.Ordered b) (k : Kind) (st : Station) (payload : List Byte) :
    (s.heardFrame k st payload).Ordered b := by
  have good : ((s.frameRead (frameCells (frameChars k st payload)) .idle).goodFrame).Ordered b :=
    h.of_works (State.MovesIn.works ((s.frameRead_moves _ _).trans (State.goodFrame_moves _)))
  unfold State.heardFrame State.hearPeer
  split
  · exact good.onPeer st fun _ => PeerEntry.hear_active _ _
  · exact good

/-- A frame command keeps what its block keeps of the frames of other stations. -/
theorem State.Ordered.takeFrame {b : Prop} {s : State} (h : s.Ordered b) (k : Kind) (st : Station) (payload : List Byte)
    {act : State → State} (hact : ∀ u : State, u.Ordered b → st ≠ u.station → (act u).Ordered b) :
    (s.takeFrame k st payload act).Ordered b := by
  rcases s.takeFrame_cases (b := False) k st payload act with hm | ⟨hears, e⟩
  · exact h.of_works hm.works
  · rw [e]
    refine hact _ (h.heardFrame k st payload) ?_
    have moved := (s.heardFrame_moves k st payload).sameBase
    rw [moved.station]
    exact hears.2.2

theorem State.Ordered.takeJolt {b : Prop} {s : State} (h : s.Ordered b) (st : Station) (holdMs : Nat) :
    (s.takeJolt st holdMs).Ordered b := by
  unfold State.takeJolt
  split
  · exact h.extendHold _ _
  · exact h

theorem State.takePhase_engine (s : State) (st : Station) (ctx : EngineContext) : (s.takePhase st ctx).engine = s.engine := by
  unfold State.takePhase
  split <;> rfl

theorem State.Ordered.takeWitness {b : Prop} {s : State} (h : s.Ordered b) {st : Station} (hst : st ≠ s.station) (cyl : Byte)
    (score : BitVec 16) (flags : Byte) : (s.takeWitness st cyl score flags).Ordered b := by
  unfold State.takeWitness
  split
  · split
    · exact h.placeWitness hst _ _ _ _
    · exact h.of_body (State.fault_body _ _ _ _ _)
  · exact h

theorem State.Ordered.abortRecord {b : Prop} {s : State} (h : s.Ordered b) (c : Nat) : (s.abortRecord c).Ordered b := by
  unfold State.abortRecord
  split
  · exact State.Ordered.congr (h.freeRecord c) rfl
  · exact h

theorem State.Ordered.yieldCylinder {b : Prop} {s : State} (h : s.Ordered b) (c : Nat) : (s.yieldCylinder c).Ordered b :=
  State.Ordered.of_body (s := ((s.abortRecord c).removeReports fun e => e.kind == .verdict && e.cyl == some c).onCyl c CylEntry.yieldEntry)
    (State.Ordered.congr (h.abortRecord c) rfl) (State.raise_body _ _)

theorem State.Ordered.takeVerdict {b : Prop} {s : State} (h : s.Ordered b) (st : Station) (c : Nat) :
    (s.takeVerdict st c).Ordered b := by
  unfold State.takeVerdict
  split
  · split
    · dsimp only
      have heard : (s.onCyl c (fun e => { e with heard := true, silence := 0 })).Ordered b := h.congr rfl
      split
      · unfold State.resolveConflict
        dsimp only
        have conflict := heard.of_body (State.fault_body _ .ownershipConflict (some st) (some Kind.verdict.code) (some c))
        split
        · exact conflict.yieldCylinder c
        · exact conflict
      · exact heard
    · exact h.of_body (State.fault_body _ _ _ _ _)
  · exact h

/-! ## The transmitter -/

theorem transmissionBegin_works (s : State) : (transmissionBegin s).works = s.works := by
  unfold transmissionBegin
  split
  · split <;> rfl
  · rfl

theorem arbitrationLost_works (cell : Nat) (s : State) : (arbitrationLost cell s).works = s.works := by
  unfold arbitrationLost
  split
  · split
    · dsimp only
      split
      · rfl
      · next e _ _ _ _ _ =>
        show ((s.lost (mismatchCells (s.ownFrame e) cell)).reinsert e).works = s.works
        rw [State.MovesIn.works (State.reinserted_moves _ e)]
        rfl
    · rfl
  · rfl

theorem State.onLine_works {s : State} {f : State → State} (h : (f s).works = s.works) : (s.onLine f).works = s.works := by
  unfold State.onLine
  split
  · rfl
  · exact h

/-! ## Every command -/

theorem act_ordered {b : Prop} {c : Instr} (hc : ∀ t straps, c ≠ .resetNRelease t straps) {s : State} (h : s.Ordered b) :
    (c.act s).Ordered b := by
  have line : ∀ {f : State → State}, (∀ u : State, State.MovesIn False u (f u)) → (s.onLine f).Ordered b := fun hf =>
    h.of_works (State.onLine_works (hf s).works)
  have order : ∀ (st : Station) (target code a1 a2 : Byte), (s.takeOrderFrame st target code a1 a2).Ordered b := fun st target code a1 a2 =>
    h.takeFrame _ _ _ fun _ hu _ => hu.takeOrder _ _ _ _ _
  cases c with
  | resetNRelease t straps => exact absurd rfl (hc t straps)
  | configReadDone t bytes => exact h.configReadDone bytes
  | configRetryTimer t => exact h.configRetry
  | toothEdge t o => exact h.toothEdge o
  | stall t => exact h.stall
  | camEdge t => exact h.camEdge
  | interpolatedMark t => exact h.interpolatedMark
  | knockSample t ch m => exact h.onChan ch fun hi => ⟨(Channel.sample_keeps _ _ _).2 hi, (Channel.sample_keeps _ _ _).1⟩
  | probeEnd t => exact h.probeEnd
  | biasAboveThreshold t ch =>
    exact h.onChan ch fun hi => ⟨(Channel.levelRises_keeps _).2 ▸ hi, (Channel.levelRises_keeps _).1⟩
  | biasBelowThreshold t ch =>
    exact h.onChan ch fun hi => ⟨(Channel.levelFalls_keeps _).2 ▸ hi, (Channel.levelFalls_keeps _).1⟩
  | qualificationExpiry t ch => exact h.qualificationExpiry ch
  | frameRejected t chars ending => exact h.of_works (State.MovesIn.works (frameRejected_moves chars ending s))
  | ownStationFrame t k p => exact h.takeFrame _ _ _ fun _ hu _ => hu
  | peerReportReceived t st k p => exact h.takeFrame _ _ _ fun _ hu _ => hu
  | joltReceived t st peak hold => exact h.takeFrame _ _ _ (act := fun u => u.takeJolt st hold.toNat) fun u hu _ => hu.takeJolt st _
  | phaseReceived t st cut flags => exact h.takeFrame _ _ _ (act := fun u => u.takePhase st _) fun u hu _ => hu.congr (u.takePhase_engine st _)
  | witnessReceived t st cyl score flags => exact h.takeFrame _ _ _ (act := fun u => u.takeWitness st cyl score flags) fun u hu hst => hu.takeWitness hst _ _ _
  | verdictReceived t st b0 b1 score loss count => exact h.takeFrame _ _ _ (act := fun u => u.takeVerdict st _) fun u hu _ => hu.takeVerdict st _
  | orderServe t st target a1 a2 => exact order st target _ a1 a2
  | orderClearCounts t st target a1 a2 => exact order st target _ a1 a2
  | orderRelearn t st target a1 a2 => exact order st target _ a1 a2
  | orderClearFaults t st target a1 a2 => exact order st target _ a1 a2
  | orderHold t st target a1 a2 => exact order st target _ a1 a2
  | orderResume t st target a1 a2 => exact order st target _ a1 a2
  | orderRestart t st target a1 a2 => exact order st target _ a1 a2
  | orderReport t st target a1 a2 => exact order st target _ a1 a2
  | orderUnknownCode t st target code a1 a2 => exact order st target code a1 a2
  | interframeGapEnd t => exact h.of_works (State.onLine_works rfl)
  | stuckLine t => exact line stuckLine_moves
  | transmissionBegin t => exact h.of_works (State.onLine_works (transmissionBegin_works s))
  | arbitrationLost t cell => exact h.of_works (State.onLine_works (arbitrationLost_works cell s))
  | transmitClash t cell => exact line (transmitClash_moves cell)
  | transmissionEnd t => exact line transmissionEnd_moves
  | dwellTimerExpiry t => exact line dwellTimerExpiry_moves
  | peerTimeoutTick t =>
    show (peerTimeoutTick s).Ordered b
    unfold peerTimeoutTick
    split
    · exact h.timeoutPeers
    · exact h
  | shockHoldExpiry t => exact h.congr rfl
  | joltGuardExpiry t => exact h.congr rfl
  | holdOffExpiry t => exact h.congr rfl
  | listenEnd t => exact h.listenEnd
  | statusTimerExpiry t => exact h.of_works (State.MovesIn.works (statusTimerExpiry_moves s))
  | envelopeExceedsShockPeak t ch v =>
    exact h.onChan ch fun hi => ⟨(Channel.envelope_keeps _ _).2 ▸ hi, (Channel.envelope_keeps _ _).1⟩
  | dominantCellBeforeGap t => exact line Link.dominantInIdle_moves

theorem step_ordered {b : Prop} {s t : State} (hs : s.Ordered b) (h : step s = .next t) : t.Ordered b := by
  refine step_keeps (P := State.Ordered b) (fun _ _ h => h.congr rfl) (fun τ straps s => ?_)
    (fun c s hc h => (act_ordered hc (h.advance c.instant)).settle) hs h
  refine .of_quiet ((State.trackerOk_iff _).mpr ⟨Tracker.powerOn_ok, fun _ => rfl⟩) (fun _ => rfl) rfl rfl fun ch => ?_
  cases ch <;> rfl

/-- Settles O12: the engine's invariant, without a word of complete records, is kept by time, by every act and by the end of an
event. -/
theorem stepKeepsTheEngine : Obligations.StepKeepsTheEngine :=
  fun _ _ hs h => (step_ordered (b := False) ⟨hs, False.elim⟩ h).ok

/-- Settles O13: what completes a record closes it. -/
theorem stepLeavesNoCompleteRecordOpen : Obligations.StepLeavesNoCompleteRecordOpen :=
  fun _ _ hs hn h => (step_ordered (b := True) ⟨hs, fun _ => hn⟩ h).none trivial

end Sys2Proof.Machine

/-! # Every step keeps the numbers (R30, R82, R84, R93) -/

namespace Sys2Proof.Machine

/-! ## References -/

theorem tdiv_between (x : Int) {d : Int} (hd : 0 < d) : (0 ≤ x → 0 ≤ x.tdiv d ∧ x.tdiv d ≤ x) ∧ (x ≤ 0 → x ≤ x.tdiv d ∧ x.tdiv d ≤ 0) := by
  have nonneg : ∀ y : Int, 0 ≤ y → 0 ≤ y.tdiv d ∧ y.tdiv d ≤ y := fun y hy =>
    ⟨Int.tdiv_nonneg hy hd.le, Int.tdiv_le_self _ hy⟩
  refine ⟨nonneg x, fun hx => ?_⟩
  have := nonneg (-x) (by omega)
  rw [Int.neg_tdiv] at this
  omega

/-- R85: a reference moves toward the energy, so it stays within the range of both. -/
theorem newRef_range (im : Image) {ref energy : Nat} (count : Nat) (hlo : 16 ≤ ref) (hhi : ref ≤ 1048560) (he : energy ≤ 65535) :
    16 ≤ newRef im ref count energy ∧ newRef im ref count energy ≤ 1048560 := by
  rw [newRef_eq]
  split
  · omega
  · have hd : (0 : Int) < if count < im.learnLen then 2 else 2 ^ im.shift := by
      split
      · omega
      · exact pow_pos (by omega) _
    obtain ⟨up, down⟩ := tdiv_between ((energy * 16 : Nat) - (ref : Int)) hd
    omega

/-! ## The entries of the Cylinder Table -/

namespace CylEntry.BoundsOk

variable {im : Image} {e : CylEntry}

theorem updateRef (h : e.BoundsOk im) (ch : Chan) {energy : Nat} (he : energy ≤ 65535) : (e.updateRef im ch energy).BoundsOk im := by
  obtain ⟨la, ha, lb, hb, ca, cb, hist, mis, kno, cyc, sil, ab⟩ := h
  cases ch with
  | a =>
    obtain ⟨hlo, hhi⟩ := newRef_range im e.learnA la ha he
    exact ⟨hlo, hhi, lb, hb, Nat.min_le_right _ _, cb, hist, mis, kno, cyc, sil, ab⟩
  | b =>
    obtain ⟨hlo, hhi⟩ := newRef_range im e.learnB lb hb he
    exact ⟨la, ha, hlo, hhi, ca, Nat.min_le_right _ _, hist, mis, kno, cyc, sil, ab⟩

theorem updateFrom (h : e.BoundsOk im) (ch : Chan) {ev : Option Evidence} (he : (ev.bind (·.energy)).getD 0 ≤ 65535) :
    (e.updateFrom im ch ev).BoundsOk im := by
  unfold CylEntry.updateFrom
  split
  · split
    · next v _ x hx =>
      split
      · exact h.updateRef ch (by simpa [hx] using he)
      · exact h
    · exact h
  · exact h

theorem witnessUpdate (h : e.BoundsOk im) (ch : Chan) {r : ChanResult} (he : ∀ x ∈ r.energy?, x ≤ 65535) (score : Nat) :
    (e.witnessUpdate im ch r score).BoundsOk im := by
  unfold CylEntry.witnessUpdate
  split
  · next x hx =>
    split
    · exact h.updateRef ch (he x hx)
    · exact h
  · exact h

theorem addFire (h : e.BoundsOk im) (x : FireEntry) : (e.addFire x).BoundsOk im := by
  obtain ⟨la, ha, lb, hb, ca, cb, hist, counts⟩ := h
  exact ⟨la, ha, lb, hb, ca, cb, List.length_take_le _ _, counts⟩

theorem foldMisfire (h : e.BoundsOk im) (m : MisfirePart) : (e.foldMisfire m).BoundsOk im := by
  unfold CylEntry.foldMisfire
  split
  · exact h.addFire _
  · exact h.addFire _
  · exact h

theorem foldKnock (h : e.BoundsOk im) (k : KnockPart) : (e.foldKnock k).BoundsOk im := by
  unfold CylEntry.foldKnock
  split <;> exact h

theorem foldBlock (h : e.BoundsOk im) (v : Verdict) : (e.foldBlock v).BoundsOk im := by
  obtain ⟨la, ha, lb, hb, ca, cb, hist, mis, kno, cyc, counters⟩ := h
  have counted : ∀ b : Block, b.misfires ≤ b.assessed → b.knocks ≤ b.assessed → b.cycles = e.block.cycles →
      ({ e with block := b } : CylEntry).BoundsOk im := fun b hm hk hc =>
    ⟨la, ha, lb, hb, ca, cb, hist, hm, hk, hc.trans_le cyc, counters⟩
  unfold CylEntry.foldBlock Block.countVerdict
  split
  · cases v.misfire with
    | fired =>
      dsimp only
      split
      · exact counted _ (by dsimp only; omega) (by dsimp only; omega) rfl
      · exact counted _ (by dsimp only; omega) (by dsimp only; omega) rfl
    | misfire => exact counted _ (by dsimp only; omega) (by dsimp only; omega) rfl
    | suspect => exact counted _ mis kno rfl
    | _ => exact counted _ mis kno rfl
  · exact ⟨la, ha, lb, hb, ca, cb, hist, mis, kno, cyc, counters⟩

theorem foldVerdict (h : e.BoundsOk im) (v : Verdict) {a b : Option Evidence} (ha : (a.bind (·.energy)).getD 0 ≤ 65535)
    (hb : (b.bind (·.energy)).getD 0 ≤ 65535) : (e.foldVerdict im v a b).BoundsOk im := by
  have folded := ((h.foldMisfire v.misfire).foldKnock v.knock).foldBlock v
  unfold CylEntry.foldVerdict CylEntry.foldRefs
  split
  · exact (folded.updateFrom .a ha).updateFrom .b hb
  · exact folded

theorem judgeBlock (h : e.BoundsOk im) : (e.judgeBlock im).BoundsOk im := by
  rw [CylEntry.judgeBlock_eq]
  exact h

theorem clearBlock (h : e.BoundsOk im) : e.clearBlock.BoundsOk im := by
  obtain ⟨la, ha, lb, hb, ca, cb, hist, -, -, -, counters⟩ := h
  exact ⟨la, ha, lb, hb, ca, cb, hist, le_rfl, le_rfl, Nat.zero_le _, counters⟩

theorem takeOver (h : e.BoundsOk im) : e.takeOver.BoundsOk im := h.clearBlock

theorem countAbort (h : e.BoundsOk im) : e.countAbort.BoundsOk im := by
  obtain ⟨la, ha, lb, hb, ca, cb, hist, mis, kno, cyc, sil, -⟩ := h
  exact ⟨la, ha, lb, hb, ca, cb, hist, mis, kno, cyc, sil, Nat.min_le_right _ _⟩

theorem countSilence (h : e.BoundsOk im) : e.countSilence.BoundsOk im := by
  obtain ⟨la, ha, lb, hb, ca, cb, hist, mis, kno, cyc, sil, ab⟩ := h
  refine ⟨la, ha, lb, hb, ca, cb, hist, mis, kno, cyc, ?_, ab⟩
  unfold CylEntry.countSilence
  dsimp only
  split
  · exact Nat.min_le_right _ _
  · exact sil

theorem heard (h : e.BoundsOk im) : ({ e with heard := true, silence := 0 } : CylEntry).BoundsOk im := by
  obtain ⟨la, ha, lb, hb, ca, cb, hist, mis, kno, cyc, -, ab⟩ := h
  exact ⟨la, ha, lb, hb, ca, cb, hist, mis, kno, cyc, Nat.zero_le _, ab⟩

theorem yieldEntry (h : e.BoundsOk im) : e.yieldEntry.BoundsOk im := by
  obtain ⟨la, ha, lb, hb, ca, cb, hist, mis, kno, cyc, -, ab⟩ := h.clearBlock
  exact ⟨la, ha, lb, hb, ca, cb, hist, mis, kno, cyc, Nat.zero_le _, ab⟩

theorem clearCounts (h : e.BoundsOk im) : e.clearCounts.BoundsOk im := by
  obtain ⟨la, ha, lb, hb, ca, cb, -, counters⟩ := h.clearBlock
  exact ⟨la, ha, lb, hb, ca, cb, Nat.zero_le _, counters⟩

theorem relearn (h : e.BoundsOk im) : e.relearn.BoundsOk im := by
  obtain ⟨-, -, -, -, -, -, counters⟩ := h
  exact ⟨le_rfl, Nat.le_of_ble_eq_true rfl, le_rfl, Nat.le_of_ble_eq_true rfl, Nat.zero_le _, Nat.zero_le _, counters⟩

theorem powerOn : CylEntry.powerOn.BoundsOk im :=
  ⟨le_rfl, by decide, le_rfl, by decide, Nat.zero_le _, Nat.zero_le _, Nat.zero_le _, le_rfl, le_rfl, Nat.zero_le _,
    Nat.zero_le _, Nat.zero_le _⟩

end CylEntry.BoundsOk

theorem cylindersFromImage_bounds (im : Image) (own : Station) : ∀ e ∈ cylindersFromImage im own, e.BoundsOk im := by
  intro e he
  obtain ⟨c, -, rfl⟩ := List.mem_map.mp he
  exact CylEntry.BoundsOk.powerOn

/-! ## What the numbers are read from -/

/-- The parameters, the node state, the integrators, the Record Table and the Cylinder Table. -/
def State.sums (s : State) : State :=
  { State.reset with
    image := s.image, node := { NodeCtl.powerOn with state := s.node.state }, records := s.records, cylinders := s.cylinders
    chanA := { Channel.powerOn with integrator := s.chanA.integrator }
    chanB := { Channel.powerOn with integrator := s.chanB.integrator } }

theorem State.sums_of_body {s t : State} (h : t.body = s.body) : t.sums = s.sums := by
  unfold State.sums
  rw [State.body_image h, State.body_node h, State.body_records h, State.body_cylinders h, State.body_chanA h, State.body_chanB h]

theorem State.sums_of_works {s t : State} (h : t.works = s.works) : t.sums = s.sums := by
  have hc := State.engine_core (State.engine_of_works h)
  unfold State.sums
  rw [State.core_image hc, State.core_state hc, State.engine_records (State.engine_of_works h), State.works_cylinders h,
    State.core_chanA hc, State.core_chanB hc]

theorem mem_modify {α : Type} {l : List α} {i : Nat} {f : α → α} {d x : α} (h : x ∈ l.modify i f) :
    x ∈ l ∨ (l.getD i d ∈ l ∧ x = f (l.getD i d)) := by
  obtain ⟨j, hj, rfl⟩ := List.getElem_of_mem h
  rw [List.length_modify] at hj
  rw [List.getElem_modify]
  split
  · next hij =>
    subst hij
    rw [List.getD_eq_getElem _ _ hj]
    exact .inr ⟨List.getElem_mem hj, rfl⟩
  · exact .inl (List.getElem_mem hj)

namespace State.NumbersOk

variable {s t : State}

theorem congr (h : s.NumbersOk) (e : t.sums = s.sums) : t.NumbersOk := by
  have hs : s.sums.NumbersOk := h
  rw [← e] at hs
  exact hs

theorem of_body (h : s.NumbersOk) (e : t.body = s.body) : t.NumbersOk := h.congr (State.sums_of_body e)

theorem of_works (h : s.NumbersOk) (e : t.works = s.works) : t.NumbersOk := h.congr (State.sums_of_works e)

theorem params (h : s.NumbersOk) (hn : s.node.state = .running) : 1 ≤ s.params.blockLen := h.2.1 (by rw [hn]; rfl)

/-- The entry of a cylinder changed; where the table holds one it is in range. -/
theorem onCyl (h : s.NumbersOk) (c : Nat) {f : CylEntry → CylEntry} (hf : (s.cyl c).BoundsOk s.params → (f (s.cyl c)).BoundsOk s.params) :
    (s.onCyl c f).NumbersOk := by
  obtain ⟨hlen, himage, bounds, sums⟩ := h
  refine ⟨(List.length_modify ..).trans hlen, himage, fun e he => ?_, sums⟩
  rcases mem_modify (d := CylEntry.powerOn) he with he | ⟨hm, rfl⟩
  · exact bounds e he
  · exact hf (bounds _ hm)

theorem onRecords (h : s.NumbersOk) {f : List (Option Record) → List (Option Record)}
    (hf : ∀ r, some r ∈ f s.records → r.EnergiesOk) : (s.onRecords f).NumbersOk := by
  obtain ⟨hlen, himage, bounds, ha, hb, -⟩ := h
  exact ⟨hlen, himage, bounds, ha, hb, fun r hr => hf r (State.mem_openRecords.mp hr)⟩

theorem energies (h : s.NumbersOk) {r : Record} (hr : some r ∈ s.records) : r.EnergiesOk := by
  obtain ⟨-, -, -, -, -, energies⟩ := h
  exact energies r (State.mem_openRecords.mpr hr)

/-- Records changed, each from one that was open. -/
theorem onOpenRecords (h : s.NumbersOk) {f : Record → Record} (hf : ∀ r : Record, r.EnergiesOk → (f r).EnergiesOk) :
    (s.onOpenRecords f).NumbersOk := h.onRecords fun r' hr' => by
  obtain ⟨o, ho, hr⟩ := List.mem_map.mp hr'
  obtain ⟨r, rfl, rfl⟩ := Option.map_eq_some_iff.mp hr
  exact hf r (h.energies ho)

theorem freeRecord (h : s.NumbersOk) (c : Nat) : (s.freeRecord c).NumbersOk := h.onRecords fun r hr => by
  obtain ⟨o, ho, hr⟩ := List.mem_map.mp hr
  obtain ⟨rfl, -⟩ := Option.filter_eq_some_iff.mp hr
  exact h.energies ho

theorem onRecordOf (h : s.NumbersOk) (c : Nat) {f : Record → Record} (hf : ∀ r : Record, r.EnergiesOk → (f r).EnergiesOk) :
    (s.onRecordOf c f).NumbersOk := h.onRecords fun r hr => by
  rcases mem_updateFirst hr with hr | ⟨x, hx, rfl⟩
  · exact h.energies hr
  · exact hf x (h.energies (State.mem_openRecords.mp (State.findRecord_some hx).1))

theorem onChan (h : s.NumbersOk) (ch : Chan) {f : Channel → Channel} (hf : (s.chan ch).SumOk → (f (s.chan ch)).SumOk) :
    (s.onChan ch f).NumbersOk := by
  obtain ⟨hlen, himage, bounds, ha, hb, energies⟩ := h
  cases ch with
  | a => exact ⟨hlen, himage, bounds, hf ha, hb, energies⟩
  | b => exact ⟨hlen, himage, bounds, ha, hf hb, energies⟩

theorem onChans (h : s.NumbersOk) {f : Channel → Channel} (hf : ∀ c : Channel, c.SumOk → (f c).SumOk) : (s.onChans f).NumbersOk :=
  State.NumbersOk.onChan (State.NumbersOk.onChan h .a (hf _)) .b (hf _)

/-- An update of a channel that keeps its integrator. -/
theorem onChan_same (h : s.NumbersOk) (ch : Chan) {f : Channel → Channel} (hf : ∀ c : Channel, (f c).integrator = c.integrator) :
    (s.onChan ch f).NumbersOk :=
  h.onChan ch fun hs => (congrArg Integrator.sum (hf _)).trans_le hs

theorem onNode (h : s.NumbersOk) {f : NodeCtl → NodeCtl} (hf : (f s.node).state.configured = true → s.node.state.configured = true) :
    (s.onNode f).NumbersOk := by
  obtain ⟨hlen, himage, rest⟩ := h
  exact ⟨hlen, fun hc => himage (hf hc), rest⟩

/-! ## Aborts, closes and the end of an event -/

theorem abortRecord (h : s.NumbersOk) (c : Nat) : (s.abortRecord c).NumbersOk := by
  unfold State.abortRecord
  split
  · exact (h.freeRecord c).onCyl c CylEntry.BoundsOk.countAbort
  · exact h

theorem abortAll (h : s.NumbersOk) : s.abortAll.NumbersOk := by
  refine State.NumbersOk.onRecords (foldl_keeps (P := State.NumbersOk) (fun u slot hu => ?_) _ h) fun r hr => ?_
  · unfold State.countSlotAbort
    split
    · exact hu.onCyl _ CylEntry.BoundsOk.countAbort
    · exact hu
  · obtain ⟨_, -, hr⟩ := List.mem_map.mp hr
    cases hr

theorem enterWithdrawn (h : s.NumbersOk) (hn : s.node.state.configured = true) : s.enterWithdrawn.NumbersOk := by
  have hn' : s.abortAll.node.state.configured = true := by
    obtain ⟨cs, e⟩ := s.abortAll_eq
    rw [e]
    exact hn
  have entered : (((s.abortAll.onChans Channel.abandon).removeReports purgedByWithdrawal).onNode
      (fun n => { n with state := .withdrawn, probe := none, listen := none })).NumbersOk :=
    State.NumbersOk.onNode (s := (s.abortAll.onChans Channel.abandon).removeReports purgedByWithdrawal)
      ((h.abortAll.onChans (f := Channel.abandon) fun _ _ => Nat.zero_le _).congr rfl) fun _ => hn'
  unfold State.enterWithdrawn
  dsimp only
  split
  · exact entered
  · exact entered.congr rfl

theorem settle (h : s.NumbersOk) : s.settle.NumbersOk := by
  refine State.NumbersOk.of_body (s := s.carryWithdrawal) ?_ (State.updateService_body _)
  rcases s.carryWithdrawal_cases with ⟨-, e⟩ | ⟨-, e⟩ | ⟨hn, e⟩ <;> rw [e]
  · exact h
  · exact h.congr rfl
  · refine State.NumbersOk.enterWithdrawn (s := s.setWithdrawDue false) (h.congr rfl) ?_
    show s.node.state.configured = true
    rcases hn with hn | hn | hn | hn <;> rw [hn] <;> rfl

theorem silencePeer (h : s.NumbersOk) (st : Station) (c : Option Nat) : (s.silencePeer st c).NumbersOk := by
  have silenced : ((s.onPeer st PeerEntry.silence).fault .peerSilent (some st) none c).NumbersOk :=
    State.NumbersOk.of_body (s := s.onPeer st PeerEntry.silence) (h.congr rfl) (State.fault_body _ _ _ _ _)
  unfold State.silencePeer
  dsimp only
  split
  · exact (silenced.of_body (State.raise_body _ _)).onOpenRecords fun _ => id
  · exact silenced.onOpenRecords fun _ => id

theorem accountWitnesses (h : s.NumbersOk) (r : Record) : (s.accountWitnesses r).NumbersOk := by
  refine foldl_keeps (P := State.NumbersOk) (fun u st hu => ?_) _ (foldl_keeps (P := State.NumbersOk) (fun u st hu => ?_) _
    (foldl_keeps (P := State.NumbersOk) (f := fun u st => u.onPeer st (PeerEntry.onTime u.params)) (fun _ _ hu => hu.congr rfl) _ h))
  · unfold State.absentPeer
    split
    · exact hu.silencePeer st _
    · exact hu
  · unfold State.missPeer
    dsimp only
    split
    · split
      · exact hu.silencePeer st _
      · exact hu.congr rfl
    · exact hu

theorem foldVerdict (h : s.NumbersOk) (c : Nat) (v : Verdict) {r : Record} (hr : r.EnergiesOk) :
    (s.foldVerdict c v r.evidenceA r.evidenceB).NumbersOk := by
  have folded : (s.onCyl c (CylEntry.foldVerdict s.params v r.evidenceA r.evidenceB)).NumbersOk :=
    h.onCyl c fun he => he.foldVerdict v hr.1 hr.2
  rw [State.foldVerdict_eq]
  dsimp only
  split
  · exact folded.of_body (State.raise_body _ _)
  · exact folded

theorem closeRecord (h : s.NumbersOk) {r : Record} (hr : r.EnergiesOk) : (s.closeRecord r).NumbersOk := by
  have folded := State.NumbersOk.foldVerdict (h.of_body (State.queueReport_body _ .verdict (some r.cyl) (r.verdictReport s.params)))
    r.cyl (r.verdict s.params) hr
  rw [State.closeRecord_eq]
  refine State.NumbersOk.freeRecord (State.NumbersOk.accountWitnesses ?_ r) r.cyl
  unfold State.judged
  dsimp only
  split
  · exact folded.of_body (State.raise_body _ _)
  · exact folded

theorem closeReady (h : s.NumbersOk) (fuel : Nat) : (State.closeReady fuel s).NumbersOk := by
  induction fuel generalizing s with
  | zero => exact h
  | succ n ih =>
    unfold State.closeReady
    split
    · split
      · next r hr =>
        have energies := h.settle.energies (State.mem_openRecords.mp (State.findRecord_some hr).1)
        exact ih (h.settle.closeRecord energies).settle
      · exact h.settle
    · exact h

theorem closeComplete (h : s.NumbersOk) : s.closeComplete.NumbersOk := h.closeReady 8

theorem deadlineMark (h : s.NumbersOk) (k : Nat) : (s.deadlineMark k).NumbersOk := by
  unfold State.deadlineMark
  split
  · next r hr => exact (h.closeRecord (h.energies (State.mem_openRecords.mp (State.findRecord_some hr).1))).closeComplete
  · exact h

theorem timeoutPeers (h : s.NumbersOk) : s.timeoutPeers.NumbersOk := by
  have timed : ∀ (u : State) (st : Station), u.NumbersOk → (u.timeoutPeer st).NumbersOk := fun u st hu => by
    unfold State.timeoutPeer
    split
    · exact hu.silencePeer st _
    · exact hu
  unfold State.timeoutPeers
  exact State.NumbersOk.closeComplete (foldl_keeps timed allStations h)

/-! ## Blocks and ownership -/

theorem endBlock (h : s.NumbersOk) (c : Nat) : (s.endBlock c).NumbersOk := by
  have judged : (s.onCyl c fun _ => (s.cyl c).judgeBlock s.params).NumbersOk := h.onCyl c CylEntry.BoundsOk.judgeBlock
  rw [State.endBlock_eq]
  refine State.NumbersOk.onCyl (State.NumbersOk.of_body (s := s.judgedBlock c) ?_ (State.queueReport_body _ _ _ _)) c
    CylEntry.BoundsOk.clearBlock
  exact judged.of_body ((State.raiseWhen_body _ _ _).trans (State.raiseWhen_body _ _ _))

/-- R92: a block that has all its cycles ends before the next is counted. -/
theorem countCycle (h : s.NumbersOk) (hlen : 1 ≤ s.params.blockLen) {c : Nat} (hc : c ∈ allCylinders) : (s.countCycle c).NumbersOk := by
  unfold State.countCycle
  split
  · split
    · refine (h.endBlock c).onCyl c fun he => ?_
      have cleared : ((s.endBlock c).cyl c).block.cycles = 0 := by
        rw [State.endBlock_cyl hc h.1]
        rfl
      have himage : (s.endBlock c).params = s.params := State.params_congr (State.outer_image (s.endBlock_outer c))
      obtain ⟨la, ha, lb, hb, ca, cb, hist, mis, kno, -, counters⟩ := he
      refine ⟨la, ha, lb, hb, ca, cb, hist, mis, kno, ?_, counters⟩
      rw [himage]
      show ((s.endBlock c).cyl c).block.cycles + 1 ≤ _
      omega
    · next hne =>
      refine h.onCyl c fun ⟨la, ha, lb, hb, ca, cb, hist, mis, kno, cyc, counters⟩ => ?_
      exact ⟨la, ha, lb, hb, ca, cb, hist, mis, kno, Nat.lt_of_le_of_ne cyc hne, counters⟩
  · exact h

theorem countSilences (h : s.NumbersOk) : s.countSilences.NumbersOk := by
  have counted : (s.onCylinders (fun l => l.map CylEntry.countSilence)).NumbersOk := by
    obtain ⟨hlen, himage, bounds, rest⟩ := h
    refine ⟨(List.length_map _).trans hlen, himage, fun e he => ?_, rest⟩
    obtain ⟨x, hx, rfl⟩ := List.mem_map.mp he
    exact (bounds x hx).countSilence
  unfold State.countSilences
  refine foldl_keeps (P := State.NumbersOk) (fun u c hu => ?_) _ counted
  unfold State.takeOverIfDue
  split
  · exact State.NumbersOk.of_body (s := u.onCyl c CylEntry.takeOver) (hu.onCyl c fun he => he.takeOver) (State.raise_body _ _)
  · exact hu

theorem foldl_countCycle (h : s.NumbersOk) (hlen : 1 ≤ s.params.blockLen) {l : List Nat} (hl : ∀ c ∈ l, c ∈ allCylinders) :
    (l.foldl State.countCycle s).NumbersOk := by
  induction l generalizing s with
  | nil => exact h
  | cons c l ih =>
    refine ih (h.countCycle hlen (hl c (.head _))) ?_ fun c hc => hl c (.tail _ hc)
    rw [State.params_congr (State.outer_image (s.countCycle_outer c))]
    exact hlen

theorem cylinderCycleMark (h : s.NumbersOk) : s.cylinderCycleMark.NumbersOk := by
  unfold State.cylinderCycleMark
  split
  · next hn =>
    have silences : (s.setMarkCounted true).countSilences.NumbersOk := State.NumbersOk.countSilences (h.congr rfl)
    refine silences.foldl_countCycle ?_ fun _ => id
    rw [State.params_congr (State.outer_image (State.countSilences_outer _))]
    exact h.params hn
  · exact h.congr rfl

theorem onMasked (h : s.NumbersOk) (mask : Byte) {f : CylEntry → CylEntry} (hf : ∀ (im : Image) (e : CylEntry), e.BoundsOk im → (f e).BoundsOk im) :
    (s.onMasked mask f).NumbersOk := by
  refine foldl_keeps (P := State.NumbersOk) (fun u c hu => ?_) _ h
  split
  · exact hu.onCyl c (hf _ _)
  · exact hu

theorem yieldCylinder (h : s.NumbersOk) (c : Nat) : (s.yieldCylinder c).NumbersOk :=
  State.NumbersOk.of_body (s := ((s.abortRecord c).removeReports fun e => e.kind == .verdict && e.cyl == some c).onCyl c CylEntry.yieldEntry)
    (State.NumbersOk.onCyl (s := (s.abortRecord c).removeReports fun e => e.kind == .verdict && e.cyl == some c)
      ((h.abortRecord c).congr rfl) c CylEntry.BoundsOk.yieldEntry) (State.raise_body _ _)

/-! ## Windows -/

end State.NumbersOk

/-- R31: a quarter of a sum in range. -/
theorem State.windowResult_energy {s : State} (h : s.NumbersOk) (ch : Chan) (k c : Nat) :
    ∀ x ∈ (s.windowResult ch k c).energy?, x ≤ 65535 := by
  obtain ⟨-, -, -, ha, hb, -⟩ := h
  have hsum : (s.chan ch).SumOk := by
    cases ch with
    | a => exact ha
    | b => exact hb
  intro x hx
  unfold ChanResult.energy? State.windowResult Channel.windowEnergy at hx
  unfold Channel.SumOk Integrator.sum at hsum
  split at hx
  · next he =>
    cases hx
    split at he
    · cases he
    · split at he
      · cases he
      · next hi =>
        rw [hi] at hsum
        split at he
        · cases he
        · split at he
          · cases he
          · split at he
            · cases he
            · split at he
              · cases he
              · cases he
                dsimp only at hsum
                omega
  · cases hx

theorem Record.EnergiesOk.takeWindow {r : Record} (h : r.EnergiesOk) {a b : ChanResult} (ha : ∀ x ∈ a.energy?, x ≤ 65535)
    (hb : ∀ x ∈ b.energy?, x ≤ 65535) : (r.takeWindow a b).EnergiesOk := by
  have present : ∀ c : ChanResult, (∀ x ∈ c.energy?, x ≤ 65535) → (((some c.evidence).bind (·.energy)).getD 0) ≤ 65535 := by
    intro c hc
    show c.energy?.getD 0 ≤ 65535
    cases he : c.energy? with
    | none => exact Nat.zero_le _
    | some x => exact hc x he
  unfold Record.takeWindow Record.settleState
  split
  · exact h
  · split <;> exact ⟨present a ha, present b hb⟩

theorem Record.EnergiesOk.takeSegment {r : Record} (h : r.EnergiesOk) (loss : Option Int) (band : Nat) :
    (r.takeSegment loss band).EnergiesOk := by
  unfold Record.takeSegment Record.settleState
  split
  · exact h
  · split <;> exact h

/-- R112: the WITNESS of a window result, where a channel counts. -/
def State.queueWitness (s : State) (c : Nat) (a b : ChanResult) : State :=
  if 1 ≤ localWeight a b then
    s.queueReport .witness (some c) (witnessPayload c (localScore a b) (localWeight a b) (localLearning a b))
  else s

theorem State.queueWitness_body (s : State) (c : Nat) (a b : ChanResult) : (s.queueWitness c a b).body = s.body := by
  unfold State.queueWitness
  split
  · exact State.queueReport_body _ _ _ _
  · rfl

theorem State.produceWitness_eq (s : State) (c : Nat) (a b : ChanResult) : s.produceWitness c a b =
    if s.phasedWarm then
      if s.context.hold = none then
        (s.queueWitness c a b).onCyl c (fun e =>
          (e.witnessUpdate s.params .a a (localScore a b)).witnessUpdate s.params .b b (localScore a b))
      else s.queueWitness c a b
    else s := rfl

namespace State.NumbersOk

variable {s : State}

/-- R87, R112: the witness-side updates. -/
theorem produceWitness (h : s.NumbersOk) (c : Nat) {a b : ChanResult} (ha : ∀ x ∈ a.energy?, x ≤ 65535)
    (hb : ∀ x ∈ b.energy?, x ≤ 65535) : (s.produceWitness c a b).NumbersOk := by
  have queued := h.of_body (s.queueWitness_body c a b)
  rw [s.produceWitness_eq c a b]
  split
  · split
    · refine queued.onCyl c fun he => ?_
      rw [State.body_params (s.queueWitness_body c a b)] at he ⊢
      exact (he.witnessUpdate .a ha _).witnessUpdate .b hb _
    · exact queued
  · exact h

theorem windowClose (h : s.NumbersOk) (k c : Nat) : (s.windowClose k c).NumbersOk := by
  have ha := State.windowResult_energy h .a k c
  have hb := State.windowResult_energy h .b k c
  have abandoned : (s.onChans Channel.abandon).NumbersOk := h.onChans fun _ _ => Nat.zero_le _
  have clipped := (abandoned.of_body (State.reportClip_body _ c (s.windowResult .a k c))).of_body
    (State.reportClip_body _ c (s.windowResult .b k c))
  unfold State.windowClose
  dsimp only
  split
  · split
    · exact (clipped.onRecordOf c fun r hr => hr.takeWindow ha hb).closeComplete
    · exact clipped.produceWitness c ha hb
  · exact h

theorem windowOpen (h : s.NumbersOk) (k c : Nat) : (s.windowOpen k c).NumbersOk := by
  unfold State.windowOpen
  split
  · refine h.onChans fun x hx => ?_
    unfold Channel.openWindow
    split
    · exact Nat.zero_le _
    · exact hx
  · exact h

/-! ## Marks -/

theorem openRecord (h : s.NumbersOk) (k c : Nat) : (s.openRecord k c).NumbersOk := by
  unfold State.openRecord
  split
  · split
    · refine State.NumbersOk.onCyl (h.onRecords fun r hr => ?_) c id
      rcases List.mem_or_eq_of_mem_set hr with hr | hr
      · exact h.energies hr
      · cases hr
        exact ⟨Nat.zero_le _, Nat.zero_le _⟩
    · exact h
  · exact h

theorem firingMark (h : s.NumbersOk) (k : Nat) : (s.firingMark k).NumbersOk :=
  State.NumbersOk.openRecord (s := s.removeReports _) (h.congr rfl) k _

theorem cycleMark (h : s.NumbersOk) : s.cycleMark.NumbersOk := by
  refine State.NumbersOk.cylinderCycleMark ?_
  unfold State.contextCycleMark
  dsimp only
  split
  · exact State.NumbersOk.of_body (s := (s.onTracker (Tracker.cycleMark s.params)).onContext Context.cycleMark) (h.congr rfl)
      (State.fault_body _ _ _ _ _)
  · exact h.congr rfl

theorem extendHold (h : s.NumbersOk) (d : Nat) (cause : HoldCause) : (s.extendHold d cause).NumbersOk := by
  unfold State.extendHold
  split
  · exact State.NumbersOk.onOpenRecords (h.congr rfl) fun _ => id
  · split
    · exact h.congr rfl
    · exact h

theorem boundaryPeak (h : s.NumbersOk) : s.boundaryPeak.NumbersOk := by
  unfold State.boundaryPeak
  split
  · have restarted : (s.onChans Channel.restartPeak).NumbersOk :=
      h.onChans fun c hc => (congrArg Integrator.sum c.restartPeak_keeps.2).trans_le hc
    unfold State.takePeak
    split
    · have held := restarted.extendHold (msTicks (s.onChans Channel.restartPeak).params.shockHold) .ownShock
      unfold State.considerJolt
      split
      · exact State.NumbersOk.congr (held.of_body (State.queueReport_body _ _ _ _)) rfl
      · exact held
    · exact restarted
  · exact h

theorem takePeriod (h : s.NumbersOk) (p : Nat) (pos : Option Nat) : (s.takePeriod p pos).NumbersOk := by
  cases pos with
  | none => exact h.congr rfl
  | some k =>
    exact State.NumbersOk.closeComplete (State.NumbersOk.onRecordOf (s := s.onEstimator (Estimator.shift p)) (h.congr rfl) _
      fun r hr => hr.takeSegment _ _)

theorem boundary (h : s.NumbersOk) (ended : Option Nat) (order : BoundaryOrder) : (s.boundary ended order).NumbersOk := by
  have chained : (s.onTracker (fun tr => { tr with chain := some s.now })).NumbersOk := h.congr rfl
  unfold State.boundary
  dsimp only
  split
  · cases order with
    | segmentEndFirst => exact (chained.takePeriod _ _).boundaryPeak
    | peakFirst => exact chained.boundaryPeak.takePeriod _ _
  · exact chained.boundaryPeak

theorem lossEvent (h : s.NumbersOk) : s.lossEvent.NumbersOk := h.abortAll.onChans fun _ _ => Nat.zero_le _

theorem camMismatch (h : s.NumbersOk) : s.camMismatch.NumbersOk := by
  have faulted : (s.fault .camMismatch).NumbersOk := h.of_body (State.fault_body _ _ _ _ _)
  unfold State.camMismatch
  dsimp only
  split
  · exact State.NumbersOk.lossEvent (s := ((s.fault .camMismatch).onTracker Tracker.dropPhase).breakChain) (faulted.congr rfl)
  · exact State.NumbersOk.lossEvent (s := (s.fault .camMismatch).onTracker Tracker.dropPhase) (faulted.congr rfl)

theorem deliverMark (h : s.NumbersOk) (m : PendingMark) (order : BoundaryOrder) : (s.deliverMark m order).NumbersOk := by
  unfold State.deliverMark
  cases m.kind with
  | cycle => exact h.cycleMark
  | firing => exact h.firingMark _
  | segment => exact h.boundary _ _
  | windowOpen => exact h.windowOpen _ _
  | windowClose => exact h.windowClose _ _
  | camWindowEnd =>
    show s.camWindowEnd.NumbersOk
    unfold State.camWindowEnd
    split
    · exact h.congr rfl
    · split
      · exact h.congr rfl
      · exact h.camMismatch
  | deadline => exact h.deadlineMark _

theorem issueMarks (h : s.NumbersOk) (fuel : Nat) (order : BoundaryOrder) : (s.issueMarks fuel order).NumbersOk := by
  induction fuel generalizing s with
  | zero => exact h
  | succ n ih =>
    unfold State.issueMarks
    split
    · next m rest hm =>
      split
      · exact ih (State.NumbersOk.deliverMark (s := s.onTracker (fun tr => { tr with marks := replaceMark s.params m rest }))
          (h.congr rfl) m order).settle
      · exact h
    · exact h

theorem lockedBoundary (h : s.NumbersOk) (order : BoundaryOrder) : (s.lockedBoundary order).NumbersOk := by
  unfold State.lockedBoundary
  split
  · exact h.boundary _ _
  · exact h

theorem toothCountError (h : s.NumbersOk) (candidate : Bool) (lost : Occurrence) : (s.toothCountError candidate lost).NumbersOk := by
  have occurred : (s.occur lost).NumbersOk := h.of_body (s.occur_body lost)
  rw [State.toothCountError_eq]
  split
  · exact State.NumbersOk.lossEvent (s := ((s.occur lost).onTracker _).onEstimator _) (occurred.congr rfl)
  · exact occurred.congr rfl

theorem takeTooth (h : s.NumbersOk) (order : BoundaryOrder) : (s.takeTooth order).NumbersOk := by
  have tracked : ∀ (u : State) (f : Tracker → Tracker), u.NumbersOk → (u.onTracker f).NumbersOk := fun _ _ hu => hu.congr rfl
  have measured := tracked s (Tracker.measure s.now) h
  unfold State.takeTooth
  dsimp only
  refine tracked _ _ ?_
  split
  · exact State.NumbersOk.lockedBoundary (tracked _ _ measured) order
  · split
    · exact State.NumbersOk.lockedBoundary (tracked _ _ measured) order
    · exact measured.toothCountError _ _
  · split
    · unfold State.boundaryAfterDrop
      split
      · exact State.NumbersOk.issueMarks (tracked _ _ measured) _ order
      · exact State.NumbersOk.lockedBoundary (State.NumbersOk.issueMarks (tracked _ _ measured) _ order) order
    · exact measured.toothCountError _ _
  · exact measured

theorem toothEdge (h : s.NumbersOk) (order : BoundaryOrder) : (toothEdge order s).NumbersOk := by
  unfold Machine.toothEdge
  split
  · split
    · exact h.congr rfl
    · exact h.takeTooth order
  · exact h

theorem stall (h : s.NumbersOk) : (stall s).NumbersOk := by
  unfold Machine.stall
  split
  · split
    · exact h
    · exact State.NumbersOk.lossEvent (s := (s.onTracker Tracker.stalled).breakChain) (h.congr rfl)
    · exact h.congr rfl
  · exact h

theorem camEdge (h : s.NumbersOk) : (camEdge s).NumbersOk := by
  unfold Machine.camEdge
  dsimp only
  split
  · split
    · exact h.congr rfl
    · split
      · exact h.congr rfl
      · exact h
  · split
    · exact h.congr rfl
    · exact h.camMismatch
  · exact h

/-! ## Start-up, orders and frames -/

theorem qualificationExpiry (h : s.NumbersOk) (ch : Chan) : (qualificationExpiry ch s).NumbersOk := by
  unfold Machine.qualificationExpiry
  split
  · exact State.NumbersOk.of_body (h.onChan ch fun _ => Nat.zero_le _) (State.fault_body _ _ _ _ _)
  · exact h

theorem enterProbing (h : s.NumbersOk) (hc : s.node.state.configured = true) : s.enterProbing.NumbersOk :=
  State.NumbersOk.congr (s := (s.onNode (fun n => { n with
    state := .probing, probe := some Config.probeTicks, listen := none, statusTimer := none })).onChans Channel.atProbing)
    (State.NumbersOk.onChans (h.onNode fun _ => hc) fun _ _ => Nat.zero_le _) rfl

end State.NumbersOk

theorem Image.blockLen_of_valid {im : Image} {own : Station} (h : im.valid own = true) : 16 ≤ im.blockLen := by
  simp only [Image.valid, Image.verdictRangesOk, within, Bool.and_eq_true, decide_eq_true_eq] at h
  tauto

namespace State.NumbersOk

variable {s : State}

theorem configReadDone (h : s.NumbersOk) (bytes : List Byte) : (configReadDone bytes s).NumbersOk := by
  unfold Machine.configReadDone
  split
  · split
    · next im him =>
      have hlen : 16 ≤ im.blockLen := by
        unfold judgeRead at him
        split at him
        · next hv =>
          obtain ⟨-, -, hv⟩ := hv
          cases him
          exact Image.blockLen_of_valid hv
        · cases him
      obtain ⟨-, -, -, -, -, energies⟩ := h
      rw [s.acceptImage_eq im]
      exact ⟨rfl, fun _ => le_trans (by decide) hlen, cylindersFromImage_bounds im s.station, Nat.zero_le _, Nat.zero_le _, energies⟩
    · split
      · exact State.NumbersOk.of_works (s := s.unconfigured)
          (State.NumbersOk.congr (h.onNode (f := fun n => { n with state := .unconfigured }) fun hc => Bool.noConfusion hc) rfl)
          (State.MovesIn.works s.unconfigured_moves)
      · exact h.congr rfl
  · exact h

theorem judgeChannel (h : s.NumbersOk) (ch : Chan) : (s.judgeChannel ch).NumbersOk :=
  (h.onChan_same ch Channel.judgeProbe_integrator).of_body (s.judgeChannel_body ch)

theorem probeEnd (h : s.NumbersOk) : (probeEnd s).NumbersOk := by
  unfold Machine.probeEnd
  split
  · next hs =>
    have hn : ((s.judgeChannel .a).judgeChannel .b).node = s.node := by rw [State.judgeChannel_node, State.judgeChannel_node]
    refine State.NumbersOk.of_works (State.NumbersOk.onNode ((h.judgeChannel .a).judgeChannel .b)
      (f := fun n => { n with state := .joining, probe := none }) fun _ => ?_) (State.startListen_works _)
    rw [hn, hs.1]
    rfl
  · exact h

theorem listenEnd (h : s.NumbersOk) : (listenEnd s).NumbersOk := by
  unfold Machine.listenEnd
  split
  · next hs =>
    exact State.NumbersOk.of_works (s := s.listenEnded) (h.onNode fun _ => by rw [hs.1]; rfl) (State.MovesIn.works s.listenEnded_moves)
  · exact h

theorem restart (h : s.NumbersOk) (hc : s.node.state.configured = true) : s.restart.NumbersOk := by
  rw [s.restart_eq]
  obtain ⟨-, himage, -, ha, hb, -⟩ := h
  refine State.NumbersOk.enterProbing (s := { s with
    tracker := Tracker.powerOn, estimator := Estimator.empty
    cylinders := cylindersFromImage s.params s.station, records := s.records.map (fun _ => none)
    markCounted := false, peers := peersFromImage s.params s.station
    context := Context.powerOn, link := s.link.removeEntries (fun _ => true) })
    ⟨rfl, himage, cylindersFromImage_bounds s.params s.station, ha, hb, fun r hr => ?_⟩ hc
  obtain ⟨_, -, hr⟩ := List.mem_map.mp (State.mem_openRecords.mp hr)
  cases hr

theorem enterHold (h : s.NumbersOk) (hc : s.node.state.configured = true) : s.enterHold.NumbersOk := by
  have hn : s.abortAll.node = s.node := by
    obtain ⟨cs, e⟩ := s.abortAll_eq
    rw [e]
  refine State.NumbersOk.onNode (s := (s.abortAll.onChans Channel.abandon).removeReports purgedByHold)
    ((h.abortAll.onChans (f := Channel.abandon) fun _ _ => Nat.zero_le _).congr rfl) fun _ => ?_
  show s.abortAll.node.state.configured = true
  rw [hn]
  exact hc

theorem actOn (h : s.NumbersOk) {o : OrderCode} (hn : o.acceptedIn s.node.state = true) (st : Station) (a1 a2 : Byte) :
    (s.actOn o st a1 a2).NumbersOk := by
  unfold State.actOn
  cases o with
  | serve => exact h.congr rfl
  | clearCounts => exact h.onMasked a1 fun _ _ => CylEntry.BoundsOk.clearCounts
  | relearn =>
    refine State.NumbersOk.onOpenRecords (h.onMasked a1 fun _ _ => CylEntry.BoundsOk.relearn) fun r hr => ?_
    unfold Record.relearn
    split
    · split <;> exact hr
    · exact hr
  | clearFaults =>
    unfold State.clearFaults
    dsimp only
    split
    · next hw => exact State.NumbersOk.enterProbing (s := s.onFaults _) (h.congr rfl) (by show s.node.state.configured = true; rw [hw]; rfl)
    · exact h.congr rfl
  | hold =>
    have hs : s.node.state = .running := beq_iff_eq.mp hn
    exact h.enterHold (by rw [hs]; rfl)
  | resume =>
    have hs : s.node.state = .hold := beq_iff_eq.mp hn
    exact h.onNode fun _ => by rw [hs]; rfl
  | restart => exact h.restart hn
  | report => exact h.of_works (State.MovesIn.works (s.report_moves st _))

theorem takeOrder (h : s.NumbersOk) (st : Station) (target : Byte) (code : Nat) (a1 a2 : Byte) :
    (s.takeOrder st target code a1 a2).NumbersOk := by
  unfold State.takeOrder
  split
  · split
    · split
      · split
        · next ho => exact h.actOn ho st a1 a2
        · exact h
      · exact h.of_body (State.fault_body _ _ _ _ _)
    · exact h.of_body (State.fault_body _ _ _ _ _)
  · exact h

theorem takeFrame (h : s.NumbersOk) (k : Kind) (st : Station) (payload : List Byte) {act : State → State}
    (hact : ∀ u : State, u.NumbersOk → (act u).NumbersOk) : (s.takeFrame k st payload act).NumbersOk := by
  rcases s.takeFrame_cases (b := False) k st payload act with hm | ⟨-, e⟩
  · exact h.of_works hm.works
  · rw [e]
    refine hact _ ?_
    have good : ((s.frameRead (frameCells (frameChars k st payload)) .idle).goodFrame).NumbersOk :=
      h.of_works (State.MovesIn.works ((s.frameRead_moves _ _).trans (State.goodFrame_moves _)))
    unfold State.heardFrame State.hearPeer
    split
    · exact good.congr rfl
    · exact good

theorem takeJolt (h : s.NumbersOk) (st : Station) (holdMs : Nat) : (s.takeJolt st holdMs).NumbersOk := by
  unfold State.takeJolt
  split
  · exact h.extendHold _ _
  · exact h

theorem lateWitness (h : s.NumbersOk) (st : Station) (c : Nat) : (s.lateWitness st c).NumbersOk :=
  State.NumbersOk.congr (s := s.fault .lateWitness (some st) (some Kind.witness.code) (some c))
    (h.of_body (State.fault_body _ _ _ _ _)) rfl

theorem takeWitness (h : s.NumbersOk) (st : Station) (cyl : Byte) (score : BitVec 16) (flags : Byte) :
    (s.takeWitness st cyl score flags).NumbersOk := by
  unfold State.takeWitness State.placeWitness
  split
  · split
    · split
      · split
        · exact h.lateWitness _ _
        · split
          · exact h.lateWitness _ _
          · split
            · exact h.of_body (State.fault_body _ _ _ _ _)
            · exact State.NumbersOk.closeComplete (h.onRecordOf _ fun _ hr => hr)
      · exact h
    · exact h.of_body (State.fault_body _ _ _ _ _)
  · exact h

theorem takeVerdict (h : s.NumbersOk) (st : Station) (c : Nat) : (s.takeVerdict st c).NumbersOk := by
  unfold State.takeVerdict
  split
  · split
    · dsimp only
      have heard : (s.onCyl c (fun e => { e with heard := true, silence := 0 })).NumbersOk := h.onCyl c CylEntry.BoundsOk.heard
      split
      · unfold State.resolveConflict
        dsimp only
        have conflict := heard.of_body (State.fault_body _ .ownershipConflict (some st) (some Kind.verdict.code) (some c))
        split
        · exact conflict.yieldCylinder c
        · exact conflict
      · exact heard
    · exact h.of_body (State.fault_body _ _ _ _ _)
  · exact h

end State.NumbersOk

/-! ## Every command -/

theorem Channel.sample_sum (now : Tick) (m : Nat) {c : Channel} (h : c.SumOk) : (c.sample now m).SumOk := by
  unfold Channel.sample
  split
  · next pos cyl opened sum count clipped hi =>
    have hsum : sum ≤ 262143 := by
      unfold Channel.SumOk at h
      rw [hi] at h
      exact h
    split
    · exact h
    · split
      · exact hsum
      · split
        · exact le_rfl
        · next hm => exact Nat.not_lt.mp hm
  · exact h

theorem act_numbersOk {c : Instr} (hc : ∀ t straps, c ≠ .resetNRelease t straps) {s : State} (h : s.NumbersOk) :
    (c.act s).NumbersOk := by
  have line : ∀ {f : State → State}, (∀ u : State, State.MovesIn False u (f u)) → (s.onLine f).NumbersOk := fun hf =>
    h.of_works (State.onLine_works (hf s).works)
  have order : ∀ (st : Station) (target code a1 a2 : Byte), (s.takeOrderFrame st target code a1 a2).NumbersOk := fun st target code a1 a2 =>
    h.takeFrame _ _ _ fun _ hu => hu.takeOrder _ _ _ _ _
  cases c with
  | resetNRelease t straps => exact absurd rfl (hc t straps)
  | configReadDone t bytes => exact h.configReadDone bytes
  | configRetryTimer t =>
    show (configRetry s).NumbersOk
    unfold configRetry
    split
    · split
      · exact h.congr rfl
      · exact h
    · exact h
  | toothEdge t o => exact h.toothEdge o
  | stall t => exact h.stall
  | camEdge t => exact h.camEdge
  | interpolatedMark t =>
    show (interpolatedMark s).NumbersOk
    unfold interpolatedMark
    split
    · exact h.issueMarks _ _
    · exact h
  | knockSample t ch m => exact h.onChan ch (Channel.sample_sum _ _)
  | probeEnd t => exact h.probeEnd
  | biasAboveThreshold t ch => exact h.onChan_same ch fun c => c.levelRises_keeps.2
  | biasBelowThreshold t ch => exact h.onChan_same ch fun c => c.levelFalls_keeps.2
  | qualificationExpiry t ch => exact h.qualificationExpiry ch
  | frameRejected t chars ending => exact h.of_works (State.MovesIn.works (frameRejected_moves chars ending s))
  | ownStationFrame t k p => exact h.takeFrame _ _ _ fun _ hu => hu
  | peerReportReceived t st k p => exact h.takeFrame _ _ _ fun _ hu => hu
  | joltReceived t st peak hold => exact h.takeFrame _ _ _ (act := fun u => u.takeJolt st hold.toNat) fun u hu => hu.takeJolt st _
  | phaseReceived t st cut flags =>
    refine h.takeFrame _ _ _ (act := fun u => u.takePhase st _) fun u hu => ?_
    unfold State.takePhase
    split
    · exact hu.congr rfl
    · exact hu
  | witnessReceived t st cyl score flags =>
    exact h.takeFrame _ _ _ (act := fun u => u.takeWitness st cyl score flags) fun u hu => hu.takeWitness _ _ _ _
  | verdictReceived t st b0 b1 score loss count =>
    exact h.takeFrame _ _ _ (act := fun u => u.takeVerdict st _) fun u hu => hu.takeVerdict st _
  | orderServe t st target a1 a2 => exact order st target _ a1 a2
  | orderClearCounts t st target a1 a2 => exact order st target _ a1 a2
  | orderRelearn t st target a1 a2 => exact order st target _ a1 a2
  | orderClearFaults t st target a1 a2 => exact order st target _ a1 a2
  | orderHold t st target a1 a2 => exact order st target _ a1 a2
  | orderResume t st target a1 a2 => exact order st target _ a1 a2
  | orderRestart t st target a1 a2 => exact order st target _ a1 a2
  | orderReport t st target a1 a2 => exact order st target _ a1 a2
  | orderUnknownCode t st target code a1 a2 => exact order st target code a1 a2
  | interframeGapEnd t => exact h.of_works (State.onLine_works rfl)
  | stuckLine t => exact line stuckLine_moves
  | transmissionBegin t => exact h.of_works (State.onLine_works (transmissionBegin_works s))
  | arbitrationLost t cell => exact h.of_works (State.onLine_works (arbitrationLost_works cell s))
  | transmitClash t cell => exact line (transmitClash_moves cell)
  | transmissionEnd t => exact line transmissionEnd_moves
  | dwellTimerExpiry t => exact line dwellTimerExpiry_moves
  | peerTimeoutTick t =>
    show (peerTimeoutTick s).NumbersOk
    unfold peerTimeoutTick
    split
    · exact h.timeoutPeers
    · exact h
  | shockHoldExpiry t => exact h.congr rfl
  | joltGuardExpiry t => exact h.congr rfl
  | holdOffExpiry t => exact h.congr rfl
  | listenEnd t => exact h.listenEnd
  | statusTimerExpiry t => exact h.of_works (State.MovesIn.works (statusTimerExpiry_moves s))
  | envelopeExceedsShockPeak t ch v => exact h.onChan_same ch fun c => (c.envelope_keeps _).2
  | dominantCellBeforeGap t => exact line Link.dominantInIdle_moves

/-- Settles O14: time moves none of the numbers, and every act keeps their ranges. -/
theorem stepKeepsTheNumbers : Obligations.StepKeepsTheNumbers := by
  refine fun s t hs h => step_keeps (P := State.NumbersOk) (fun _ _ h => h.congr rfl) (fun τ straps s => ?_)
    (fun c s hc h => (act_numbersOk hc (s := s.advance c.instant) (State.NumbersOk.congr (s := s) h rfl)).settle) hs h
  exact ⟨rfl, fun hc => Bool.noConfusion hc, fun e he => List.eq_of_mem_replicate he ▸ CylEntry.BoundsOk.powerOn, Nat.zero_le _,
    Nat.zero_le _, fun r hr => by cases hr⟩

end Sys2Proof.Machine

/-! # What follows an event: the hand-offs after it and the service level (R145, R150, R152) -/

namespace Sys2Proof.Machine

/-- A part of the link that is not its queue. -/
theorem State.body_linkPart {α : Type} {s t : State} (h : t.body = s.body) (g : Link → α) (hg : ∀ l : Link, g l.bare = g l) :
    g t.link = g s.link := by
  rw [← hg t.link, State.body_link h, hg s.link]

/-! ## Trails -/

/-- From `s` to `t` reports were queued and the service level was brought up to date, with the occurrences these bring: no class
but QUEUE_OVERFLOW was counted, and no source but SERVICE_CHANGE and FIRST_FAULT was raised. -/
structure State.TrailsTo (s t : State) : Prop where
  body : t.body = s.body
  counts : s.CountsOverflow t
  overflow : s.faults.overflow = true → t.faults.overflow = true
  sound : s.faults.Sound → t.faults.Sound
  due : s.faults.Sound → s.withdrawDue = false → t.withdrawDue = false
  reports : s.KeepsReports t
  status : s.link.Waits .status none → t.link.Waits .status none
  sources : ∀ x, x ≠ .firstFault → x ≠ .serviceChange → t.alert.src x = s.alert.src x
  length : t.alert.sources.length = s.alert.sources.length
  asserted : s.alert.line = .asserted → t.alert.line = .asserted

theorem State.TrailsTo.refl (s : State) : s.TrailsTo s :=
  ⟨rfl, .refl s, id, id, fun _ => id, .refl s, id, fun _ _ _ => rfl, rfl, id⟩

theorem State.TrailsTo.trans {s t u : State} (h : s.TrailsTo t) (h' : t.TrailsTo u) : s.TrailsTo u where
  body := h'.body.trans h.body
  counts := h.counts.trans h'.counts
  overflow hs := h'.overflow (h.overflow hs)
  sound hs := h'.sound (h.sound hs)
  due hs hd := h'.due (h.sound hs) (h.due hs hd)
  reports := h.reports.trans h'.reports
  status hs := h'.status (h.status hs)
  sources x hf hc := (h'.sources x hf hc).trans (h.sources x hf hc)
  length := h'.length.trans h.length
  asserted hs := h'.asserted (h.asserted hs)

theorem FaultUnit.Sound.atRest {s : State} (h : s.faults.Sound) (hd : s.withdrawDue = false) : s.AtRest :=
  ⟨by rw [h.severities .queueOverflow (by decide) (by decide)]; decide, hd⟩

/-- A waiting STATUS gives way to no report that an occurrence or a raise queues. -/
theorem State.status_handOffs : State.HandOffs (fun s => s.link.Waits .status none) where
  put s p h := by
    obtain ⟨e, he, hk, hc⟩ := h
    exact ⟨e, putEntry_keeps_higher he (hk ▸ (by decide : Kind.status.code < Kind.log.code)), hk, hc⟩
  raise s x h := (Link.HasRoom.put (l := s.link) (.inr h) rfl [] s.link.nextAge).2
  count _ _ h := h
  first _ _ _ h := h
  overflow _ h := h
  due _ h := h

/-- A line once ASSERTED stays so. -/
theorem State.asserted_handOffs : State.HandOffs (fun s => s.alert.line = .asserted) where
  put _ _ h := h
  raise s x h := by
    show (AlertUnit.assertLine s.node.state (s.alert.latchSource x)).line = .asserted
    rw [AlertUnit.assertLine_line]
    split
    · rfl
    · exact h
  count _ _ h := h
  first _ _ _ h := h
  overflow _ h := h
  due _ h := h

theorem State.occur_trails {s : State} {o : Occurrence} (h : o.cls = .queueOverflow) : s.TrailsTo (s.occur o) where
  body := s.occur_body o
  counts := State.occur_countsOverflow h
  overflow := State.overflow_handOffs.occur o
  sound := State.sound_handOffs.occur o
  due hs hd := (State.occur_atRest (hs.atRest hd) h).due
  reports := s.occur_keepsReports o
  status := State.status_handOffs.occur o
  sources x hf _ := (s.occur_occurredTo o).sources x hf
  length := (s.occur_keepsSetup o).sources_length
  asserted := State.asserted_handOffs.occur o

theorem foldl_trails {l : List Occurrence} (hl : ∀ o ∈ l, o.cls = .queueOverflow) (s : State) : s.TrailsTo (l.foldl State.occur s) := by
  induction l generalizing s with
  | nil => exact .refl s
  | cons o l ih => exact (State.occur_trails (hl o (.head l))).trans (ih (fun o' h => hl o' (.tail o h)) _)

/-- A report queued in the lowest ranks, or where there is a free place, trails. -/
theorem State.queueReport_trails (s : State) {k : Kind} (hk : k = .status ∨ k = .log) (p : List Byte) :
    s.TrailsTo (s.queueReport k none p) := by
  refine State.TrailsTo.trans (t := (s.putReport k none p).1) ?_ (foldl_trails (fun _ => State.mem_overflowOf) _)
  refine ⟨rfl, ⟨fun _ _ => rfl, fun _ => id⟩, id, id, fun _ => id, s.putReport_keepsReports hk none p, fun h => ?_, fun _ _ _ => rfl, rfl, id⟩
  rcases hk with rfl | rfl
  · exact (Link.HasRoom.put (l := s.link) (.inr h) rfl p s.link.nextAge).2
  · exact State.status_handOffs.put s p h

theorem State.raise_trails (s : State) {x : AlertSource} (hx : x = .serviceChange) : s.TrailsTo (s.raise x) where
  body := s.raise_body x
  counts := s.raise_countsOverflow x
  overflow := State.overflow_handOffs.raised x
  sound := State.sound_handOffs.raised x
  due hs hd := (State.raise_atRest (hs.atRest hd) x).due
  reports := s.raise_keepsReports x
  status := State.status_handOffs.raised x
  sources _ hf hy := State.raise_src_of_ne s hf (hx ▸ hy)
  length := (s.raise_keepsSetup x).sources_length
  asserted := State.asserted_handOffs.raised x

/-- R152: the service level brought up to date. -/
theorem State.SettledTo.trails {s t : State} (h : s.SettledTo t) : s.TrailsTo t := by
  rw [h.eq_updateService]
  unfold State.updateService
  split
  · exact .refl s
  · refine State.TrailsTo.trans (t := s.onFaults (fun f => { f with service := s.serviceOf })) ?_ (State.raise_trails _ rfl)
    exact ⟨rfl, ⟨fun _ _ => rfl, fun _ => id⟩, id, fun hs => hs.congr rfl, fun _ => id, .of_queue_eq rfl, id, fun _ _ _ => rfl, rfl, id⟩

/-- What was taken before a trail is taken after it. -/
theorem FaultUnit.Took.trail {o : Occurrence} {f : FaultUnit} {s t : State} (h : FaultUnit.Took o f s.faults)
    (ho : o.cls ≠ .queueOverflow) (ht : s.TrailsTo t) : FaultUnit.Took o f t.faults := by
  obtain ⟨counted, others, captured, full⟩ := h
  exact ⟨(ht.counts.others _ ho).trans counted, fun d hd hne hq => (ht.counts.others d hq).trans (others d hd hne hq),
    fun hm hf => ht.counts.kept _ (captured hm hf),
    fun hm x hx => ⟨ht.counts.kept _ (full hm x hx).1, ht.overflow (full hm x hx).2⟩⟩

/-! ## One occurrence and the end of its event -/

/-- An event that comes to the state `u`, without a withdrawal, ends with the level brought up to date in `u`. -/
theorem State.settles_as {u v : State} (e : v = u) (h : u.withdrawDue = false) : u.SettledTo v.settle := e ▸ State.settle_settled u h

theorem State.FaultsOk.sound {s : State} (h : s.FaultsOk) : s.faults.Sound := ((State.faultsOk_iff s).mp h).1
theorem State.FaultsOk.due {s : State} (h : s.FaultsOk) : s.withdrawDue = false := ((State.faultsOk_iff s).mp h).2
theorem State.FaultsOk.advance {s : State} (h : s.FaultsOk) (t : Tick) : (s.advance t).FaultsOk := h

/-- R151: an occurrence passes no withdrawal that is not unmasked and WITHDRAWING. -/
theorem State.occur_due {s : State} (h : s.FaultsOk) {o : Occurrence}
    (hw : (s.faults.cls o.cls).severity ≠ .withdrawing ∨ (s.faults.cls o.cls).mask = true) : (s.occur o).withdrawDue = false := by
  have taken : (s.takeOccurrence o).1.withdrawDue = false := by
    rw [s.takeOccurrence_due o, h.due]
    rcases hw with hw | hw <;> simp [hw]
  have sound : (s.takeOccurrence o).1.faults.Sound := State.sound_handOffs.takeOccurrence o h.sound
  exact (foldl_atRest (f := fun s o => (s.takeOccurrence o).1) State.takeOccurrence_atRest (fun _ h => State.mem_takeOccurrence h)
    (sound.atRest taken)).due

/-- R149: the severity of a class that no image sets. -/
theorem FaultUnit.Sound.gentle {f : FaultUnit} (h : f.Sound) {k : FaultClass} (hk : k ≠ .peerSilent ∧ k ≠ .clash)
    (hs : k.powerOnSeverity ≠ .withdrawing) : (f.cls k).severity ≠ .withdrawing := by
  rw [h.severities k hk.1 hk.2]
  exact hs

/-- An occurrence that ends an event without a withdrawal. -/
theorem State.occur_settles {s : State} (h : s.FaultsOk) {o : Occurrence} (ho : o.cls ≠ .queueOverflow)
    (hw : (s.faults.cls o.cls).severity ≠ .withdrawing ∨ (s.faults.cls o.cls).mask = true) :
    (s.occur o).SettledTo (s.occur o).settle ∧ (s.occur o).settle.body = s.body
      ∧ FaultUnit.Took o s.faults (s.occur o).settle.faults := by
  have settled := State.settle_settled _ (State.occur_due h hw)
  exact ⟨settled, settled.body_eq.trans (s.occur_body o), (State.occur_took h.sound.length ho).trail ho settled.trails⟩

theorem State.fault_settles {s : State} (h : s.FaultsOk) {k : FaultClass} (hk : k ≠ .queueOverflow ∧ k ≠ .peerSilent ∧ k ≠ .clash)
    (hs : k.powerOnSeverity ≠ .withdrawing) (st : Option Station) (kind c : Option Nat) :
    (s.fault k st kind c).SettledTo (s.fault k st kind c).settle ∧ (s.fault k st kind c).settle.body = s.body
      ∧ FaultUnit.Took (s.occurrence k st kind c) s.faults (s.fault k st kind c).settle.faults :=
  State.occur_settles (o := s.occurrence k st kind c) h hk.1 (.inl (h.sound.gentle hk.2 hs))

/-! ## A level that changes over a queue with room -/

/-- R152, R155: with room for its STATUS the change of the level passes no occurrence. -/
theorem State.SettledTo.of_room {s t : State} (h : s.SettledTo t) (hroom : s.link.HasRoom .status) :
    t.faults = { s.faults with service := s.serviceOf } ∧ (∀ x, x ≠ .serviceChange → t.alert.src x = s.alert.src x)
      ∧ (∀ e ∈ t.link.queue, e.kind = .status ∨ e ∈ s.link.queue) ∧ t.alert.holdOff = s.alert.holdOff
      ∧ (s.node.state.drivesAlert = false → t.alert.line = s.alert.line) := by
  rw [h.eq_updateService]
  unfold State.updateService
  split
  · next e =>
    rw [e]
    exact ⟨rfl, fun _ _ => rfl, fun _ he => .inr he, rfl, fun _ => rfl⟩
  · rw [State.raise_of_hasRoom (s := s.onFaults (fun f => { f with service := s.serviceOf })) hroom]
    refine ⟨rfl, fun x hx => ?_, fun e he => ?_, ?_, fun hn => ?_⟩
    · rw [State.raiseStep_src]
      exact AlertUnit.src_latchSource_of_ne _ hx
    · rcases putEntry_cases { kind := .status, cyl := none, payload := [], age := s.link.nextAge } s.link.queue with hq | ⟨y, -, hk, -, -, hall⟩
      · exact .inr (hq ▸ he)
      · rcases hall e he with rfl | he
        · exact .inl hk
        · exact .inr he
    · show (AlertUnit.assertLine s.node.state (s.alert.latchSource .serviceChange)).holdOff = s.alert.holdOff
      unfold AlertUnit.assertLine
      split <;> rfl
    · show (AlertUnit.assertLine s.node.state (s.alert.latchSource .serviceChange)).line = s.alert.line
      rw [AlertUnit.assertLine_line, if_neg (by rw [hn]; exact fun ⟨hf, _⟩ => Bool.noConfusion hf)]
      rfl

end Sys2Proof.Machine

/-! # Time, power-on and the timers -/

namespace Sys2Proof.Machine

/-- Settles O8. -/
theorem resetMeetsTheInvariants : Obligations.ResetMeetsTheInvariants := by
  refine ⟨?_, by decide, by decide, by decide, by decide, by decide⟩
  exact ⟨by decide, by decide, by decide, by decide, by decide, by decide, by decide⟩

/-! ## Passing time (R14) -/

/-- R14: how far the angle has moved past the latest tooth. -/
theorem Tracker.heldAdvance_eq {tr : Tracker} {im : Image} {u : Tick} {p i : Nat} (hu : tr.lastEdge = some u)
    (hp : tr.perPitch = some p) (hi : tr.toothIndex = some i) (now : Tick) :
    tr.heldAdvance im now = min ((now - u).toNat * (3600 / im.teeth) / p)
      ((if i + 1 = im.teeth - im.gap then im.gap + 1 else 1) * (3600 / im.teeth) - 1) := by
  unfold Tracker.heldAdvance
  rw [hu, hp, hi]
  rfl

theorem Tracker.elapse_loose {tr : Tracker} (h : tr.sync = .stopped ∨ tr.sync = .seeking) (im : Image) (now : Tick) (d : Nat) :
    tr.elapse im now d = { tr with stallLeft := tr.stallLeft.map (· - d) } := by
  unfold Tracker.elapse Tracker.interpolate
  rcases h with h | h <;> dsimp only <;> rw [h] <;> rfl

theorem Tracker.elapse_locked {tr : Tracker} (h : tr.sync = .crankLocked) (im : Image) (now : Tick) (d : Nat) :
    tr.elapse im now d = { tr with
      stallLeft := tr.stallLeft.map (· - d), angle := some ((tr.edgeAngle.getD 0 + tr.heldAdvance im now) % 3600) } := by
  unfold Tracker.elapse Tracker.interpolate
  dsimp only
  rw [h]
  rfl

theorem Tracker.elapse_phased {tr : Tracker} (h : tr.sync = .phased) (im : Image) (now : Tick) (d : Nat) :
    tr.elapse im now d
      = ({ tr with stallLeft := tr.stallLeft.map (· - d) } : Tracker).moveTo ((tr.edgeAngle.getD 0 + tr.heldAdvance im now) % 7200) := by
  unfold Tracker.elapse Tracker.interpolate
  dsimp only
  rw [h]
  rfl

/-- Settles O15: the tracker by its sync state, and every other block by its own timers. -/
theorem passageOfTime : Obligations.PassageOfTime := by
  intro s τ d im tr
  refine ⟨fun u p i e hu hp hi he => ?_, fun h => Tracker.elapse_loose h _ _ _, rfl, rfl, ?_, fun ch => ?_, ?_, rfl, rfl, rfl, rfl, rfl,
    rfl, rfl, rfl, rfl, rfl, rfl⟩
  · have held := Tracker.heldAdvance_eq (im := s.params) hu hp hi τ
    have edge : s.tracker.edgeAngle.getD 0 = e := by rw [he]; rfl
    refine ⟨fun h => ?_, fun h was hw => ?_⟩
    · have := Tracker.elapse_locked h s.params τ (ticksFrom s.now τ)
      rwa [edge, held] at this
    · have := Tracker.elapse_phased h s.params τ (ticksFrom s.now τ)
      rw [edge, held] at this
      refine this.trans ?_
      unfold Tracker.moveTo
      rw [show ({ s.tracker with stallLeft := s.tracker.stallLeft.map (· - ticksFrom s.now τ) } : Tracker).angle = some was from hw]
      rfl
  · show s.node.elapse (ticksFrom s.now τ) = _
    unfold NodeCtl.elapse
    cases s.node.port <;> rfl
  · cases ch <;> rfl
  · show s.link.elapse (ticksFrom s.now τ) = _
    unfold Link.elapse
    cases s.link.transmitter <;> rfl

/-! ## Power-on -/

theorem getD_replicate {α : Type} (n i : Nat) (x : α) : (List.replicate n x).getD i x = x := by
  rw [List.getD_eq_getElem?_getD, List.getElem?_replicate]
  split <;> rfl

/-- Settles O16. -/
theorem resetReleaseStartsAsAtPowerOn : Obligations.ResetReleaseStartsAsAtPowerOn := by
  intro s τ straps
  refine ⟨_, rfl, rfl, rfl, rfl, rfl, rfl, rfl, fun ch => ?_, rfl, fun r hr => List.eq_of_mem_replicate hr,
    fun c => getD_replicate 8 (c - 1) CylEntry.powerOn, fun st => getD_replicate 16 st.val PeerEntry.powerOn, rfl, rfl, fun k hk => ?_,
    rfl, rfl, rfl, fun x hx => ?_, rfl, rfl, rfl⟩
  · cases ch <;> rfl
  · cases k <;> rfl
  · cases x <;> rfl

/-! ## The timers of the context and of the line -/

/-- Settles O60: each timer's expiry by whether it has run out. -/
theorem holdGuardAndHoldOffRunOut : Obligations.HoldGuardAndHoldOffRunOut := by
  intro s τ hw a
  have context : ∀ {f : Context → Context} {c : Context}, f a.context = c → ({ a with context := c } : State).SettledTo (a.onContext f).settle :=
    fun e => State.settles_as (congrArg (fun c => ({ a with context := c } : State)) e) hw
  have alert : ∀ {f : AlertUnit → AlertUnit} {x : AlertUnit}, f a.alert = x → ({ a with alert := x } : State).SettledTo (a.onAlert f).settle :=
    fun e => State.settles_as (congrArg (fun x => ({ a with alert := x } : State)) e) hw
  refine ⟨fun h hh hl => ⟨_, rfl, context (Context.holdExpires_ended hh hl)⟩, fun hh => ⟨_, rfl, context (c := a.context) ?_⟩,
    fun hg => ⟨_, rfl, context ?_⟩, fun hg => ⟨_, rfl, context (c := a.context) ?_⟩, fun hl ho => ⟨_, rfl, alert ?_⟩,
    fun hl => ⟨_, rfl, alert (AlertUnit.holdOffExpires_other hl)⟩⟩
  · cases hc : a.context.hold with
    | none => exact Context.holdExpires_inactive hc
    | some h => exact Context.holdExpires_extended hc (hh h hc)
  · rw [Context.guardExpires_eq, if_pos hg]
  · rw [Context.guardExpires_eq, if_neg hg]
  · unfold AlertUnit.holdOffExpires
    rw [if_pos ⟨hl, (ranOut_iff _).mpr ho⟩]
    rfl

end Sys2Proof.Machine

/-! # The configuration image is judged by its conditions (R160, R170) -/

namespace Sys2Proof.Machine

section Fields

variable (bs : List Byte)

theorem imageWord_le (i : Nat) : imageWord bs i ≤ 65535 := by
  have byte : ∀ j, imageByte bs j < 256 := fun j => (bs.getD j 0#8).isLt
  have h := byte i
  have h' := byte (i + 1)
  unfold imageWord
  omega

theorem imageWords_getD {i k j : Nat} (h : j < k) (d : Nat) : (imageWords bs i k).getD j d = imageWord bs (i + 2 * j) := by
  simp [imageWords, List.getD_eq_getElem?_getD, h]

theorem imageBytes_all (i k : Nat) (p : Nat → Bool) : (imageBytes bs i k).all p = true ↔ ∀ j < k, p (imageByte bs (i + j)) = true := by
  simp [imageBytes]

theorem imageWords_all (i k : Nat) (p : Nat → Bool) :
    (imageWords bs i k).all p = true ↔ ∀ j < k, p (imageWord bs (i + 2 * j)) = true := by
  simp [imageWords]

end Fields

theorem within_iff (lo hi x : Nat) : within lo hi x = true ↔ lo ≤ x ∧ x ≤ hi := by simp [within]

/-! ## The conditions, one by one -/

section Conditions

variable (bs : List Byte)

theorem countOk_iff : (parseImage bs).countOk = true ↔ imageByte bs 0 ∈ [2, 3, 4, 5, 6, 8] := List.contains_iff_mem

theorem firingOk_iff (h : imageByte bs 0 ≤ 8) : (parseImage bs).firingOk = true ↔
    ∀ c, 1 ≤ c → c ≤ imageByte bs 0 → ((List.range (imageByte bs 0)).filter (fun k => imageByte bs (1 + k) == c)).length = 1 := by
  have first : (imageBytes bs 1 8).take (imageByte bs 0) = (List.range (imageByte bs 0)).map (fun k => imageByte bs (1 + k)) := by
    unfold imageBytes
    rw [← List.map_take, List.take_range, Nat.min_eq_left h]
  have counted : ∀ c, ((imageBytes bs 1 8).take (imageByte bs 0)).countP (· == c)
      = ((List.range (imageByte bs 0)).filter (fun k => imageByte bs (1 + k) == c)).length := fun c => by
    rw [first, List.countP_map, List.countP_eq_length_filter]
    rfl
  show ((List.range (imageByte bs 0)).all fun c => ((imageBytes bs 1 8).take (imageByte bs 0)).countP (· == c + 1) == 1) = true ↔ _
  simp only [counted, List.all_eq_true, List.mem_range, beq_iff_eq]
  constructor
  · intro hall c hlo hhi
    have := hall (c - 1) (by omega)
    rwa [Nat.sub_add_cancel hlo] at this
  · exact fun hall c hc => hall (c + 1) (by omega) hc

theorem wheelOk_iff : (parseImage bs).wheelOk = true ↔
    imageByte bs 9 ∈ [12, 15, 16, 18, 20, 24, 30, 36, 40, 45, 48, 60] ∧ imageByte bs 10 ∈ [1, 2] := by
  show ([12, 15, 16, 18, 20, 24, 30, 36, 40, 45, 48, 60].contains (imageByte bs 9) && within 1 2 (imageByte bs 10)) = true ↔ _
  rw [Bool.and_eq_true, List.contains_iff_mem, within_iff]
  refine and_congr_right fun _ => ?_
  simp only [List.mem_cons, List.not_mem_nil, or_false]
  omega

theorem boundariesOk_iff : (parseImage bs).boundariesOk = true ↔ ∀ k < imageByte bs 0, ∃ i < imageByte bs 9 - imageByte bs 10,
    (imageWord bs 11 + i * (3600 / imageByte bs 9)) % 3600 = (imageWord bs 17 + k * (7200 / imageByte bs 0)) % 3600 := by
  unfold Image.boundariesOk
  simp only [List.all_eq_true, List.any_eq_true, List.mem_range, beq_iff_eq]
  exact Iff.rfl

theorem windowOk_iff : (parseImage bs).windowOk = true ↔ imageWord bs 19 + imageWord bs 21 ≤ 7200 / imageByte bs 0 := decide_eq_true_iff

theorem deadlineOk_iff : (parseImage bs).deadlineOk = true ↔
    max (imageWord bs 17 + 7200 / imageByte bs 0) (imageWord bs 19 + imageWord bs 21) + imageWord bs 23 < 7200 := decide_eq_true_iff

theorem edgesOk_iff : (parseImage bs).edgesOk = true ↔ ∀ i < 6, imageWord bs (102 + 2 * i) < imageWord bs (104 + 2 * i) := by
  show ((List.range 6).all fun i => decide ((imageWords bs 102 7).getD i 0 < (imageWords bs 102 7).getD (i + 1) 0)) = true ↔ _
  simp only [List.all_eq_true, List.mem_range, decide_eq_true_eq]
  refine forall₂_congr fun i hi => ?_
  rw [imageWords_getD bs (by omega), imageWords_getD bs (by omega), show 102 + 2 * (i + 1) = 104 + 2 * i by omega]

theorem ownStationOk_iff (own : Station) (h : imageByte bs 0 ≤ 8) : (parseImage bs).ownStationOk own = true ↔
    ∀ i < imageByte bs 0, (imageWord bs (70 + 2 * i)).testBit own.val = false := by
  show ((List.range (imageByte bs 0)).all fun i => !((imageWords bs 70 8).getD i 0).testBit own.val) = true ↔ _
  simp only [List.all_eq_true, List.mem_range, Bool.not_eq_true']
  refine forall₂_congr fun i hi => ?_
  rw [imageWords_getD bs (by omega)]

theorem engineRangesOk_iff : (parseImage bs).engineRangesOk = true ↔
    imageWord bs 11 ≤ 3599 ∧ imageWord bs 13 ≤ 7199 ∧ (1 ≤ imageWord bs 15 ∧ imageWord bs 15 ≤ 3599) ∧ imageWord bs 17 ≤ 1799
      ∧ imageWord bs 19 ≤ 900 ∧ (50 ≤ imageWord bs 21 ∧ imageWord bs 21 ≤ 600) ∧ imageWord bs 23 ≤ 1800
      ∧ (2 ≤ imageByte bs 25 ∧ imageByte bs 25 ≤ 32) := by
  simp only [Image.engineRangesOk, parseImage, Bool.and_eq_true, within_iff, Nat.zero_le, true_and, and_assoc]

theorem channelRangesOk_iff : (parseImage bs).channelRangesOk = true ↔
    imageByte bs 26 ≤ 3 ∧ imageByte bs 27 ≤ 15 ∧ (∀ i < 8, imageByte bs (28 + i) ≤ 15)
      ∧ imageByte bs 36 ≤ 3 ∧ imageByte bs 37 ≤ 15 ∧ (∀ i < 8, imageByte bs (38 + i) ≤ 15) := by
  simp only [Image.channelRangesOk, parseImage, Bool.and_eq_true, imageBytes_all, within_iff, Nat.zero_le, true_and, and_assoc]

theorem ownershipRangesOk_iff : (parseImage bs).ownershipRangesOk = true ↔
    (∀ i < 8, imageByte bs (46 + i) ≤ 15) ∧ (∀ i < 16, imageByte bs (54 + i) ≤ 15 ∨ imageByte bs (54 + i) = 255)
      ∧ imageByte bs 140 ≤ 15 := by
  simp only [Image.ownershipRangesOk, parseImage, Bool.and_eq_true, List.all_append, imageBytes_all, within_iff, Nat.zero_le,
    true_and, Bool.or_eq_true, beq_iff_eq, and_assoc]
  refine and_congr_right fun _ => ?_
  rw [← and_assoc]
  refine and_congr_left fun _ => ⟨fun ⟨first, second⟩ i hi => ?_, fun h => ⟨fun i hi => h i (by omega), fun i hi => ?_⟩⟩
  · by_cases hlt : i < 8
    · exact first i hlt
    · have := second (i - 8) (by omega)
      rwa [show 62 + (i - 8) = 54 + i by omega] at this
  · have := h (8 + i) (by omega)
    rwa [show 54 + (8 + i) = 62 + i by omega] at this

theorem verdictRangesOk_iff : (parseImage bs).verdictRangesOk = true ↔
    (∀ i < 8, imageWord bs (86 + 2 * i) ≤ 32767) ∧ (∀ i < 4, 1 ≤ imageByte bs (116 + i) ∧ imageByte bs (116 + i) ≤ 31)
      ∧ (16 ≤ imageByte bs 120 ∧ imageByte bs 120 ≤ 63) ∧ (1 ≤ imageWord bs 121 ∧ imageWord bs 121 ≤ 1023)
      ∧ (17 ≤ imageByte bs 123 ∧ imageByte bs 123 ≤ 63) ∧ (2 ≤ imageByte bs 124 ∧ imageByte bs 124 ≤ 7)
      ∧ (4 ≤ imageByte bs 125 ∧ imageByte bs 125 ≤ 64) ∧ (16 ≤ imageWord bs 126 ∧ imageWord bs 126 ≤ 1023)
      ∧ (1 ≤ imageWord bs 128 ∧ imageWord bs 128 ≤ 1000) ∧ (1 ≤ imageWord bs 130 ∧ imageWord bs 130 ≤ 1023)
      ∧ (1 ≤ imageByte bs 132 ∧ imageByte bs 132 ≤ 15) := by
  simp only [Image.verdictRangesOk, parseImage, Bool.and_eq_true, imageBytes_all, imageWords_all, within_iff, Nat.zero_le, true_and,
    and_assoc]

theorem serviceRangesOk_iff : (parseImage bs).serviceRangesOk = true ↔
    1 ≤ imageWord bs 133 ∧ (50 ≤ imageWord bs 135 ∧ imageWord bs 135 ≤ 2000) ∧ (2 ≤ imageByte bs 137 ∧ imageByte bs 137 ≤ 15)
      ∧ (1 ≤ imageByte bs 138 ∧ imageByte bs 138 ≤ 8) ∧ (2 ≤ imageByte bs 139 ∧ imageByte bs 139 ≤ 15)
      ∧ (50 ≤ imageWord bs 143 ∧ imageWord bs 143 ≤ 1000) ∧ imageByte bs 145 ≤ 4 ∧ (1 ≤ imageByte bs 146 ∧ imageByte bs 146 ≤ 4)
      ∧ (1 ≤ imageByte bs 148 ∧ imageByte bs 148 ≤ 100) ∧ imageByte bs 151 ≤ 2 ∧ imageByte bs 152 ≤ 2 := by
  simp only [Image.serviceRangesOk, parseImage, Bool.and_eq_true, within_iff, Nat.zero_le, true_and, and_assoc, imageWord_le]

end Conditions

theorem judgeRead_iff {bs : List Byte} (h : bs.length = 256) (own : Station) : judgeRead bs own = some (parseImage bs) ↔
    crc8 (bs.take 255) = bs.getD 255 0#8 ∧ (parseImage bs).valid own = true := by
  unfold judgeRead imageCheckOk
  simp only [h, true_and, beq_iff_eq]
  split
  · next hv => exact iff_of_true rfl hv
  · next hv => exact iff_of_false nofun hv

/-- Settles O17: condition by condition; the lists over cylinders are read within the eight that the count allows. -/
theorem imageIsJudgedByItsConditions : Obligations.ImageIsJudgedByItsConditions := by
  intro bs own hlen b w span
  rw [judgeRead_iff hlen]
  refine and_congr_right fun _ => ?_
  unfold Image.valid
  simp only [Bool.and_eq_true, and_assoc]
  rw [countOk_iff]
  refine and_congr_right fun hcount => ?_
  have hn : imageByte bs 0 ≤ 8 := by
    simp only [List.mem_cons, List.not_mem_nil, or_false] at hcount
    omega
  rw [firingOk_iff bs hn, wheelOk_iff, boundariesOk_iff, windowOk_iff, deadlineOk_iff, edgesOk_iff, ownStationOk_iff bs own hn,
    engineRangesOk_iff, channelRangesOk_iff, ownershipRangesOk_iff, verdictRangesOk_iff, serviceRangesOk_iff]
  simp only [and_assoc]
  exact Iff.rfl

end Sys2Proof.Machine

/-! # Start-up: the configuration read, the probe and the listen (chapter 10) -/

namespace Sys2Proof.Machine

/-! ## An accepted read (O18) -/

theorem judgeRead_valid {bs : List Byte} {own : Station} {im : Image} (h : judgeRead bs own = some im) : im.valid own = true := by
  unfold judgeRead at h
  split at h
  · next hv =>
    obtain ⟨-, -, hv⟩ := hv
    cases h
    exact hv
  · cases h

/-- R170: the codes of an accepted image. -/
theorem Image.codes_of_valid {im : Image} {own : Station} (h : im.valid own = true) :
    im.bitRate ≤ 4 ∧ (1 ≤ im.fallback ∧ im.fallback ≤ 4) ∧ im.sevSilent ≤ 2 ∧ im.sevClash ≤ 2 := by
  simp only [Image.valid, Image.serviceRangesOk, Bool.and_eq_true, within_iff] at h
  tauto

/-- The rate a code names, and none for a code out of range (R133, R170). -/
def rateCode : Nat → Option Rate
  | 1 => some .k125 | 2 => some .k250 | 3 => some .k500 | 4 => some .k1000 | _ => none

/-- The severity a code names, and none for a code out of range (R149, R170). -/
def severityCode : Nat → Option Severity
  | 0 => some .advisory | 1 => some .degrading | 2 => some .withdrawing | _ => none

theorem rateCode_eq {n : Nat} (h : 1 ≤ n ∧ n ≤ 4) : rateCode n = some (rateOfCode n) := by
  obtain ⟨lo, hi⟩ := h
  interval_cases n <;> rfl

theorem severityCode_eq {n : Nat} (h : n ≤ 2) : severityCode n = some (severityOfCode n) := by
  interval_cases n <;> rfl

theorem cylindersFromImage_getD (im : Image) (own : Station) {c : Nat} (hc : c ∈ allCylinders) :
    (cylindersFromImage im own).getD (c - 1) CylEntry.powerOn = CylEntry.fromImage im own c := by
  obtain ⟨lo, hi⟩ := mem_allCylinders.mp hc
  interval_cases c <;> rfl

theorem peersFromImage_getD (im : Image) (own st : Station) : (peersFromImage im own).getD st.val PeerEntry.powerOn
    = { PeerEntry.powerOn with expectedFor := st != own && im.expectedFor own st } := by
  fin_cases st <;> rfl

/-- R104: the stations that witness a cylinder the node may judge. -/
theorem Image.expectedFor_iff (im : Image) (own st : Station) : im.expectedFor own st = true ↔
    ∃ c ∈ allCylinders, c ≤ im.n
      ∧ (im.owner.getD (c - 1) 255 = own.val ∨ im.deputy1.getD (c - 1) 255 = own.val ∨ im.deputy2.getD (c - 1) 255 = own.val)
      ∧ (im.witness.getD (c - 1) 0).testBit st.val = true := by
  have witnesses : ∀ c, (im.witnessSet c).contains st = true ↔ (im.witness.getD (c - 1) 0).testBit st.val = true := fun c => by
    have hall : st ∈ allStations := by fin_cases st <;> decide
    simp only [Image.witnessSet, List.contains_iff_mem, List.mem_filter, hall, true_and]
  unfold Image.expectedFor
  simp only [List.any_eq_true, Bool.and_eq_true, Bool.or_eq_true, decide_eq_true_eq, beq_iff_eq, witnesses, and_assoc, or_assoc]

/-- R83: the role and the rank that the image gives. -/
theorem Image.roleOf_eq (im : Image) (own : Station) (c : Nat) : im.roleOf own c =
    if im.n < c then (Role.none, none)
    else if im.owner.getD (c - 1) 255 = own.val then (.owner, none)
    else if im.deputy1.getD (c - 1) 255 = own.val then (.deputyStandby, some 1)
    else if im.deputy2.getD (c - 1) 255 = own.val then (.deputyStandby, some 2)
    else if im.weightA.getD (c - 1) 0 ≠ 0 ∨ im.weightB.getD (c - 1) 0 ≠ 0 then (.witness, none)
    else (.none, none) := rfl

theorem configReadDone_of_some {s : State} {bytes : List Byte} {second : Bool} {im : Image} (hp : s.node.port = .reading second)
    (hj : judgeRead bytes s.station = some im) : configReadDone bytes s = s.acceptImage im := by
  unfold configReadDone
  rw [hp]
  dsimp only
  rw [hj]

theorem configReadDone_of_none {s : State} {bytes : List Byte} {second : Bool} (hp : s.node.port = .reading second)
    (hj : judgeRead bytes s.station = none) : configReadDone bytes s =
      if second then s.enterUnconfigured else s.onNode (fun n => { n with port := .waiting Config.retryTicks }) := by
  unfold configReadDone
  rw [hp]
  dsimp only
  rw [hj]

theorem State.advance_port {s : State} {second : Bool} (h : s.node.port = .reading second) (t : Tick) :
    (s.advance t).node.port = .reading second := by
  show s.node.port.elapse _ = _
  rw [h]
  rfl

/-- Settles O18: the blocks take their parameters before the level is brought up to date, which touches none of them. -/
theorem acceptedReadEntersProbing : Obligations.AcceptedReadEntersProbing := by
  intro s τ bytes second im hw hp hj hq rate severity
  obtain ⟨hrate, hfallback, hsilent, hclash⟩ := Image.codes_of_valid (judgeRead_valid hj)
  have settled : ((s.advance τ).acceptImage im).SettledTo (configReadDone bytes (s.advance τ)).settle :=
    State.settles_as (configReadDone_of_some (s.advance_port hp τ) hj) hw
  have link : ∀ l : Link, l.queue = [] → (l.startFrom im).queue = [] := fun l h => (Link.startFrom_keeps im l).1.trans h
  have room : ((s.advance τ).acceptImage im).link.HasRoom .status := by
    refine .inl ?_
    rw [show ((s.advance τ).acceptImage im).link.queue = [] from link _ hq]
    decide
  obtain ⟨hfaults, -, -, -, hline⟩ := settled.of_room room
  have masks := (State.updateService_sameSetup ((s.advance τ).acceptImage im)).sources
  rw [← settled.eq_updateService] at masks
  have hb := settled.body_eq
  have bare := State.body_link hb
  refine ⟨_, rfl, State.body_image hb, (State.body_node hb).trans rfl, fun c hc => ⟨(im.roleOf s.station c).1, (im.roleOf s.station c).2, ?_, im.roleOf_eq s.station c⟩,
    fun st hst => ⟨_, ?_, im.expectedFor_iff s.station st⟩, fun ch => ?_, fun h0 => ?_, fun h0 => ?_, ?_, ?_, fun k hk => ?_, ?_, ?_,
    fun x hx => ?_, ?_, (State.body_tracker hb).trans rfl, (State.body_estimator hb).trans rfl, (State.body_records hb).trans rfl,
    (State.body_context hb).trans rfl, ?_⟩
  · rw [State.cyl_congr (State.body_cylinders hb)]
    exact cylindersFromImage_getD im s.station hc
  · rw [State.peer_congr (State.body_peers hb)]
    refine (peersFromImage_getD im s.station st).trans ?_
    rw [bne_iff_ne.mpr hst, Bool.true_and]
  · rw [State.body_chan hb]
    cases ch <;> exact ⟨rfl, rfl, rfl, rfl, rfl, rfl⟩
  · have acquire : ((s.advance τ).acceptImage im).link = (s.advance τ).link.startAcquire (rateOfCode im.fallback) := if_pos h0
    rw [acquire] at bare
    exact ⟨congrArg Link.mode bare, congrArg Link.acq bare, congrArg Link.rate bare,
      (congrArg Link.fallback bare).trans (rateCode_eq hfallback).symm, congrArg Link.dwell bare⟩
  · have fixed : ((s.advance τ).acceptImage im).link = (s.advance τ).link.startFixed (rateOfCode im.bitRate) (rateOfCode im.fallback) :=
      if_neg h0
    rw [fixed] at bare
    exact ⟨congrArg Link.mode bare, congrArg Link.acq bare,
      (congrArg Link.rate bare).trans (rateCode_eq ⟨Nat.one_le_iff_ne_zero.mpr h0, hrate⟩).symm,
      (congrArg Link.fallback bare).trans (rateCode_eq hfallback).symm, congrArg Link.dwell bare⟩
  · rw [State.body_linkPart hb Link.rate fun _ => rfl]
    show (Link.startFrom im _).rate.isSome = true
    unfold Link.startFrom
    split <;> rfl
  · rw [State.body_linkPart hb Link.fallback fun _ => rfl]
    show (Link.startFrom im _).fallback.isSome = true
    unfold Link.startFrom
    split <;> rfl
  · rw [hfaults]
    show ((s.faults.configure im).cls k).mask = _
    rw [FaultUnit.cls_configure]
    cases k <;> rfl
  · rw [hfaults]
    show some ((s.faults.configure im).cls .peerSilent).severity = _
    rw [FaultUnit.cls_configure]
    exact (severityCode_eq hsilent).symm
  · rw [hfaults]
    show some ((s.faults.configure im).cls .clash).severity = _
    rw [FaultUnit.cls_configure]
    exact (severityCode_eq hclash).symm
  · rw [masks x]
    show ((AlertUnit.configure im _).src x).mask = _
    unfold AlertUnit.configure AlertUnit.src
    dsimp only
    rw [getD_map_range x.index_lt]
  · exact hline rfl
  · rw [hfaults]
    rfl

/-! ## A failed read -/

/-- Settles O19. -/
theorem failedReadIsRepeatedOnce : Obligations.FailedReadIsRepeatedOnce := by
  intro s τ bytes hw
  refine ⟨fun hp hj => ⟨_, rfl, State.settles_as ?_ hw⟩, fun hp => ⟨_, rfl, State.settles_as ?_ hw⟩, fun hp => ⟨_, rfl, State.settles_as ?_ hw⟩⟩
  · exact configReadDone_of_none (s.advance_port hp τ) hj
  · unfold configRetry
    rw [hp]
    rfl
  · unfold configRetry
    split
    · next left hleft =>
      rw [if_neg]
      rintro rfl
      exact hp hleft
    · rfl

/-! ## Reports over a queue with room -/

theorem State.putReport_passes_none {s : State} {k : Kind} (h : s.link.HasRoom k) (hk : replacementLost k = false) (p : List Byte) :
    (s.putReport k none p).2 = [] ∧ (s.putReport k none p).1.link.Waits k none := by
  obtain ⟨hnone, hwaits⟩ := Link.HasRoom.put h hk p s.link.nextAge
  refine ⟨?_, hwaits⟩
  show s.overflowOf (putEntry { kind := k, cyl := none, payload := p, age := s.link.nextAge } s.link.queue).2 = []
  rw [hnone]
  rfl

theorem State.queueReport_of_hasRoom {s : State} {k : Kind} (h : s.link.HasRoom k) (hk : replacementLost k = false) (p : List Byte) :
    s.queueReport k none p = (s.putReport k none p).1 := by
  unfold State.queueReport
  dsimp only
  rw [(State.putReport_passes_none h hk p).1]
  rfl

/-- R145: where an entry of the key waits, queuing keeps every entry of another key. -/
theorem putEntry_keeps_other {e x : TxEntry} {q : List TxEntry} (hx : x ∈ q) (hkey : ∃ y ∈ q, y.sameKey e = true)
    (hne : x.sameKey e = false) : x ∈ (putEntry e q).1 := by
  obtain ⟨z, hz⟩ := Option.isSome_iff_exists.mp (List.find?_isSome (p := fun y : TxEntry => y.sameKey e) |>.mpr hkey)
  unfold putEntry
  rw [hz]
  exact (mem_insertEntry _ _ _).mpr (.inr (List.mem_filter.mpr ⟨hx, by rw [hne]; rfl⟩))

theorem putEntry_grows (e : TxEntry) (q : List TxEntry) : (putEntry e q).1.length ≤ q.length + 1 := by
  unfold putEntry
  split
  · rw [length_insertEntry]
    exact Nat.succ_le_succ (List.length_filter_le _ _)
  · split
    · exact (length_insertEntry _ _).le
    · split
      · split
        · rw [length_insertEntry, List.length_dropLast]
          exact Nat.succ_le_succ (Nat.sub_le _ _)
        · exact Nat.le_succ _
      · exact Nat.le_succ _

/-- R150: a capture whose LOG and STATUS find room passes no occurrence. -/
theorem State.capture_of_room {s : State} {o : Occurrence} (hn : s.faults.first = none) (hlog : s.link.HasRoom .log)
    (hstatus : s.link.Waits .status none) :
    (s.capture o).2 = [] ∧ (s.capture o).1.alert = (s.alert.latchSource .firstFault).assertLine s.node.state
      ∧ (s.capture o).1.link.Waits .log none ∧ (s.capture o).1.link.Waits .status none := by
  let held := s.onFaults (fun f => { f with first := some (o.captured f.service) })
  let report := firstFaultLog held.faults.first held.faults.overflow FaultClass.index
  let logged := (held.putReport .log none report).1
  obtain ⟨first, log⟩ := State.putReport_passes_none (s := held) hlog rfl report
  have waits : logged.link.Waits .status none := State.status_handOffs.put held report hstatus
  obtain ⟨second, status⟩ := State.putReport_passes_none (s := logged.onAlert (AlertUnit.latchSource .firstFault)) (k := .status) (.inr waits) rfl []
  have captured : s.capture o = ((logged.raiseStep .firstFault).1, (held.putReport .log none report).2 ++ (logged.raiseStep .firstFault).2) := by
    unfold State.capture
    rw [hn]
  obtain ⟨e, he, hk, hc⟩ := log
  obtain ⟨y, hy, hyk, hyc⟩ := waits
  rw [captured, first]
  refine ⟨second, rfl, ⟨e, putEntry_keeps_other he ⟨y, hy, (TxEntry.sameKey_iff _ _).mpr ⟨hyk, hyc⟩⟩ ?_, hk, hc⟩, status⟩
  rw [Bool.eq_false_iff]
  intro hsame
  cases hk.symm.trans ((TxEntry.sameKey_iff _ _).mp hsame).1

/-- R150: an unmasked occurrence captured with room for its LOG and its STATUS. -/
theorem State.occur_of_room {s : State} {o : Occurrence} (hm : (s.faults.cls o.cls).mask = false) (hn : s.faults.first = none)
    (hlog : s.link.HasRoom .log) (hstatus : s.link.Waits .status none) :
    (s.occur o).alert = (s.alert.latchSource .firstFault).assertLine s.node.state
      ∧ (s.occur o).link.Waits .log none ∧ (s.occur o).link.Waits .status none := by
  have hmask : ((s.onFaults (FaultUnit.countOccurrence o.cls)).faults.cls o.cls).mask = false :=
    (FaultUnit.cls_countOccurrence_keeps (·.mask) (fun _ => rfl) s.faults o.cls o.cls).trans hm
  obtain ⟨none, alert, log, status⟩ := State.capture_of_room (s := s.onFaults (FaultUnit.countOccurrence o.cls)) (o := o) hn hlog hstatus
  unfold State.occur State.takeOccurrence
  dsimp only
  rw [hmask]
  simp only [Bool.false_eq_true, if_false]
  rw [none]
  split <;> exact ⟨alert, log, status⟩

/-! ## A second failed read (O20) -/

/-- R152: out of LOADING the level of an UNCONFIGURED node changes to WITHDRAWN, with one raise. -/
theorem State.updateService_raises {s : State} (hne : s.serviceOf ≠ s.faults.service) (hroom : s.link.HasRoom .status) :
    s.updateService = ((s.onFaults (fun f => { f with service := s.serviceOf })).raiseStep .serviceChange).1 := by
  unfold State.updateService
  rw [if_neg hne]
  exact State.raise_of_hasRoom (s := s.onFaults _) hroom _

/-- R151: a withdrawal changes nothing in a node that is UNCONFIGURED and served WITHDRAWN. -/
theorem State.settle_unconfigured {s : State} (hn : s.node.state = .unconfigured) (hs : s.faults.service = .withdrawn) :
    s.settle.faults = s.faults ∧ s.settle.alert = s.alert ∧ s.settle.link = s.link ∧ s.settle.body = s.body := by
  have quiet : ∀ u : State, u.node.state = .unconfigured → u.faults.service = .withdrawn → u.updateService = u := fun u hn hs => by
    unfold State.updateService
    rw [if_pos]
    unfold State.serviceOf
    rw [if_pos (.inr hn), hs]
  have carried : s.carryWithdrawal = s ∨ s.carryWithdrawal = s.setWithdrawDue false := by
    rcases s.carryWithdrawal_cases with ⟨-, e⟩ | ⟨-, e⟩ | ⟨hn', -⟩
    · exact .inl e
    · exact .inr e
    · rw [hn] at hn'
      rcases hn' with h | h | h | h <;> cases h
  unfold State.settle
  rcases carried with e | e <;> rw [e]
  · rw [quiet s hn hs]
    exact ⟨rfl, rfl, rfl, rfl⟩
  · rw [quiet (s.setWithdrawDue false) hn hs]
    exact ⟨rfl, rfl, rfl, rfl⟩

/-- Settles O20: the STATUS and the LOG find room in the empty queue, so every hand-off can be followed. -/
theorem secondFailureUnconfigures : Obligations.SecondFailureUnconfigures := by
  intro s τ bytes hf ha hn hp hj htr hfirst hservice hq hmask
  let a := s.advance τ
  have act : configReadDone bytes a = a.enterUnconfigured := configReadDone_of_none (s.advance_port hp τ) hj
  -- the STATUS of the new state, and the change of the level
  let queued := (a.unconfigured.putReport .status none []).1
  have room : a.unconfigured.link.HasRoom .status := .inl (by rw [show a.unconfigured.link.queue = [] from hq]; decide)
  have hqueued : a.unconfigured.queueStatus = queued := State.queueReport_of_hasRoom room rfl []
  have waits : queued.link.Waits .status none := (State.putReport_passes_none room rfl []).2
  have hlevel : queued.serviceOf = .withdrawn := if_pos (.inr rfl)
  let served := ((queued.onFaults (fun f => { f with service := .withdrawn })).raiseStep .serviceChange).1
  have hserved : queued.updateService = served := by
    rw [State.updateService_raises (by rw [hlevel]; show _ ≠ s.faults.service; rw [hservice]; decide) (.inr waits), hlevel]
  let lined := served.onAlert (AlertUnit.assertLine .unconfigured)
  have entered : a.enterUnconfigured = lined.fault .configInvalid := by
    rw [State.enterUnconfigured_eq, hqueued, hserved]
  have tracked : a.tracker = s.tracker := by
    show s.tracker.elapse _ _ _ = _
    rw [htr]
    rfl
  have waits' : lined.link.Waits .status none :=
    (State.putReport_passes_none (s := (queued.onFaults _).onAlert (AlertUnit.latchSource .serviceChange)) (k := .status) (.inr waits) rfl []).2
  have asserted : lined.alert.line = .asserted := by
    have released : s.alert.line = .released := ha.2.2.2.1 (by rw [hn]; rfl)
    have unmasked := AlertUnit.latchSource_unmasked (a := a.alert) ha.1 (hmask .serviceChange (by decide))
    have line : ((a.alert.latchSource .serviceChange).assertLine .unconfigured).line = .asserted := by
      rw [AlertUnit.assertLine_line, if_pos ⟨rfl, released, unmasked⟩]
    show (((a.alert.latchSource .serviceChange).assertLine .unconfigured).assertLine .unconfigured).line = _
    rw [AlertUnit.assertLine_line, line, if_neg (by simp)]
  have sources : ∀ x, lined.alert.src x = (a.alert.latchSource .serviceChange).src x := fun x =>
    AlertUnit.src_congr ((AlertUnit.assertLine_sources _ _).trans (AlertUnit.assertLine_sources _ _)) x
  have length : lined.alert.sources.length = 8 := by
    show (((a.alert.latchSource .serviceChange).assertLine .unconfigured).assertLine .unconfigured).sources.length = 8
    rw [AlertUnit.assertLine_sources, AlertUnit.assertLine_sources]
    exact (List.length_modify ..).trans ha.1
  have seq : lined.alert.raiseSeq = s.alert.raiseSeq + 1 :=
    (AlertUnit.assertLine_raiseSeq _ _).trans (AlertUnit.assertLine_raiseSeq _ _)
  have latest : ∀ x, ((lined.alert.latchSource .firstFault).assertLine lined.node.state).src x = (lined.alert.latchSource .firstFault).src x :=
    fun x => AlertUnit.src_congr (AlertUnit.assertLine_sources _ _) x
  -- the occurrence
  let o := lined.occurrence .configInvalid none none none
  have hm : (lined.faults.cls o.cls).mask = false := hf.2.2.2.1
  have log : lined.link.HasRoom .log := by
    have first : queued.link.queue.length ≤ 1 := by
      have grown := putEntry_grows { kind := .status, cyl := none, payload := [], age := a.unconfigured.link.nextAge } a.unconfigured.link.queue
      exact grown.trans (by rw [show a.unconfigured.link.queue = [] from hq]; exact le_rfl)
    have second : lined.link.queue.length ≤ queued.link.queue.length + 1 := putEntry_grows _ _
    exact .inl (by omega)
  obtain ⟨halert, hlog, hstatus⟩ := State.occur_of_room (s := lined) (o := o) hm hfirst log waits'
  have took := State.occur_took (s := lined) (o := o) hf.1 (by show FaultClass.configInvalid ≠ _; decide)
  have hbody : (lined.occur o).body = a.unconfigured.body := (lined.occur_body o).trans rfl
  have hservice' : (lined.occur o).faults.service = .withdrawn := (lined.occur_keepsSetup o).service
  obtain ⟨sfaults, salert, slink, sbody⟩ := State.settle_unconfigured (congrArg NodeCtl.state (State.body_node hbody)) hservice'
  have final : (configReadDone bytes a).settle = (lined.occur o).settle := by rw [act, entered]; rfl
  have hb := sbody.trans hbody
  refine ⟨_, rfl, ?_⟩
  show _ ∧ _
  rw [show (configReadDone bytes (s.advance τ)).settle = (lined.occur o).settle from final, sfaults, salert, slink, halert]
  have first := took.2.2.1 hm hfirst
  refine ⟨congrArg NodeCtl.state (State.body_node hb), congrArg NodeCtl.port (State.body_node hb), congrArg NodeCtl.statusTimer (State.body_node hb),
    State.body_linkPart hbody Link.mode fun _ => rfl, State.body_linkPart hbody Link.acq fun _ => rfl, State.body_linkPart hbody Link.rate fun _ => rfl,
    State.body_linkPart hbody Link.fallback fun _ => rfl, State.body_linkPart hbody Link.dwell fun _ => rfl, hservice', took.1, ?_, ?_, ?_, ?_, ?_,
    halert ▸ State.asserted_handOffs.occur o asserted, hstatus, hlog, (State.body_image hb).trans rfl, (State.body_tracker hb).trans tracked,
    (State.body_cylinders hb).trans rfl, (State.body_peers hb).trans rfl, (State.body_context hb).trans rfl, fun ch => ?_⟩
  · rw [first]
    show some (Occurrence.captured (lined.occurrence .configInvalid none none none) .withdrawn) = _
    unfold State.occurrence Occurrence.captured
    rw [show lined.tracker = Tracker.powerOn from tracked.trans htr]
    rfl
  · rw [latest .serviceChange, AlertUnit.src_latchSource_of_ne _ (by decide), sources, AlertUnit.src_latchSource (a := a.alert) ha.1]
  · rw [latest .serviceChange, AlertUnit.src_latchSource_of_ne _ (by decide), sources, AlertUnit.src_latchSource (a := a.alert) ha.1]
    rfl
  · rw [latest .firstFault, AlertUnit.src_latchSource length]
  · rw [latest .firstFault, AlertUnit.src_latchSource length]
    exact (congrArg (· + 1) seq).trans (BitVec.add_assoc ..)
  · rw [State.body_chan hb]
    cases ch <;> rfl

end Sys2Proof.Machine

/-! # The end of the probe, the listen and the status timer (O21, O22) -/

namespace Sys2Proof.Machine

/-! ## The judgement of a channel -/

theorem State.onChan_body_congr {s t : State} (h : t.body = s.body) (ch : Chan) (f : Channel → Channel) :
    (t.onChan ch f).body = (s.onChan ch f).body := by
  have swap : ∀ u : State, (u.onChan ch f).body = u.body.onChan ch f := by
    intro u
    cases ch <;> rfl
  rw [swap, swap, h]

/-- R151: an occurrence that passes no withdrawal leaves the Fault Unit well formed, with none over. -/
theorem State.occur_faultsOk {s : State} (h : s.FaultsOk) {o : Occurrence}
    (hw : (s.faults.cls o.cls).severity ≠ .withdrawing ∨ (s.faults.cls o.cls).mask = true) : (s.occur o).FaultsOk :=
  (State.faultsOk_iff _).mpr ⟨State.sound_handOffs.occur o h.sound, State.occur_due h hw⟩

theorem State.fault_faultsOk {s : State} (h : s.FaultsOk) {k : FaultClass} (hk : k ≠ .peerSilent ∧ k ≠ .clash)
    (hs : k.powerOnSeverity ≠ .withdrawing) (st : Option Station) (kind c : Option Nat) : (s.fault k st kind c).FaultsOk :=
  State.occur_faultsOk (o := s.occurrence k st kind c) h (.inl (h.sound.gentle hk hs))

theorem State.judgeChannel_faultsOk {s : State} (h : s.FaultsOk) (ch : Chan) : (s.judgeChannel ch).FaultsOk := by
  have moved : (s.onChan ch Channel.judgeProbe).FaultsOk := by
    cases ch <;> exact h
  unfold State.judgeChannel
  dsimp only
  split
  · exact State.fault_faultsOk moved (by decide) (by decide) _ _ _
  · exact moved

/-- R26: a channel is found open when its input has been above the threshold for the last 10 ms. -/
def Channel.foundOpen (c : Channel) : Bool :=
  match c.levelAbove with
  | some u => decide (200000 ≤ u)
  | none => false

theorem Channel.judgeProbe_of_open {c : Channel} (h : c.foundOpen = true) :
    c.judgeProbe = { c with state := .disabled, openFault := true, qualification := none } := by
  unfold Channel.foundOpen at h
  unfold Channel.judgeProbe
  split at h
  · next u hu => rw [hu]; exact if_pos (of_decide_eq_true h)
  · cases h

theorem Channel.judgeProbe_of_not_open {c : Channel} (h : c.foundOpen = false) :
    c.judgeProbe = { c with
      state := .enabled, openFault := c.levelAbove.isSome,
      qualification := if c.levelAbove.isSome then some 20000 else none, shockPeak := 0 } := by
  unfold Channel.foundOpen at h
  unfold Channel.judgeProbe
  split at h
  · next u hu => rw [hu]; exact if_neg (of_decide_eq_false h)
  · next hu => rw [hu]; rfl

theorem Channel.judgeProbe_disabled (c : Channel) : c.judgeProbe.state = .disabled ↔ c.foundOpen = true := by
  cases h : c.foundOpen
  · rw [Channel.judgeProbe_of_not_open h]
    simp
  · rw [Channel.judgeProbe_of_open h]
    simp

theorem State.judgeChannel_sensorOpen {s : State} (h : s.FaultsOk) (ch : Chan) :
    (s.judgeChannel ch).faults.cls .sensorOpen =
      if (s.chan ch).foundOpen = true then (s.faults.cls .sensorOpen).counted 1 else s.faults.cls .sensorOpen := by
  have faults : (s.onChan ch Channel.judgeProbe).faults = s.faults := by cases ch <;> rfl
  have chan : (s.onChan ch Channel.judgeProbe).chan ch = (s.chan ch).judgeProbe := by cases ch <;> rfl
  unfold State.judgeChannel
  dsimp only
  simp only [chan, Channel.judgeProbe_disabled]
  split
  · rw [← faults]
    exact (State.fault_took (faults ▸ h.sound.length) (by decide) none none none).1
  · rw [faults]

theorem ClassState.counted_counted (c : ClassState) (m n : Nat) : (c.counted m).counted n = c.counted (m + n) := by
  unfold ClassState.counted
  simp only [ClassState.mk.injEq, and_true, true_and]
  omega

/-! ## The end of the probe -/

/-- R162: entry to JOINING, where the listen starts at once in LOCKED. -/
theorem State.enterJoining_eq (s : State) : s.enterJoining = s.onNode (fun n => { n with
    state := .joining, probe := none,
    listen := if s.link.acq = some .locked ∧ n.listen = none then some (2 * (s.params.statusMs * 20000)) else n.listen }) := by
  unfold State.enterJoining State.startListen
  split
  · next h =>
    have starts : s.link.acq = some .locked ∧ s.node.listen = none := h.2
    unfold State.onNode
    dsimp only
    rw [if_pos starts]
    rfl
  · next h =>
    have waits : ¬(s.link.acq = some .locked ∧ s.node.listen = none) := fun hl => h ⟨rfl, hl⟩
    unfold State.onNode
    dsimp only
    rw [if_neg waits]

theorem probeEnd_of_ranOut {s : State} (hn : s.node.state = .probing) (hp : s.node.probe = some 0) :
    probeEnd s = ((s.judgeChannel .a).judgeChannel .b).enterJoining := if_pos ⟨hn, (ranOut_iff _).mpr hp⟩

/-- Settles O21. -/
theorem probeEndJudgesTheChannels : Obligations.ProbeEndJudgesTheChannels := by
  intro s τ hf
  refine ⟨fun hn hp => ?_, fun hno => ⟨_, rfl, State.settles_as (if_neg ?_) hf.due⟩⟩
  · let a := s.advance τ
    let judged := (a.judgeChannel .a).judgeChannel .b
    have okA := State.judgeChannel_faultsOk (hf.advance τ) .a
    have okB : judged.FaultsOk := State.judgeChannel_faultsOk okA .b
    have hjudged : judged.body = ((a.onChan .a Channel.judgeProbe).onChan .b Channel.judgeProbe).body :=
      (State.judgeChannel_body _ _).trans (State.onChan_body_congr (State.judgeChannel_body _ _) _ _)
    have hnode : judged.node = a.node := (State.judgeChannel_node _ _).trans (State.judgeChannel_node _ _)
    have hparams : judged.params = s.params := (State.body_params hjudged).trans rfl
    have hacq : judged.link.acq = a.link.acq := (State.body_acq hjudged).trans rfl
    have act : probeEnd a = judged.enterJoining := probeEnd_of_ranOut hn hp
    rw [State.enterJoining_eq] at act
    have settled := State.settles_as act okB.due
    have hb := settled.body_eq
    have chanB : (a.judgeChannel .a).chan .b = a.chan .b := (State.body_chan (a.judgeChannel_body .a) .b).trans rfl
    have counts : judged.faults.cls .sensorOpen = if (a.chan .b).foundOpen = true
        then ((a.judgeChannel .a).faults.cls .sensorOpen).counted 1 else (a.judgeChannel .a).faults.cls .sensorOpen := by
      rw [← chanB]
      exact State.judgeChannel_sensorOpen okA .b
    rw [State.judgeChannel_sensorOpen (hf.advance τ) .a] at counts
    have chan : ∀ ch, (probeEnd a).settle.chan ch = (a.chan ch).judgeProbe := fun ch => by
      refine (State.body_chan hb ch).trans ((State.body_chan hjudged ch).trans ?_)
      cases ch <;> rfl
    refine ⟨_, rfl, fun ch ho => ?_, fun ch ho => ?_, ?_, ?_, (State.body_tracker hb).trans ((State.body_tracker hjudged).trans rfl),
      (State.body_estimator hb).trans ((State.body_estimator hjudged).trans rfl),
      (State.body_records hb).trans ((State.body_records hjudged).trans rfl),
      (State.body_cylinders hb).trans ((State.body_cylinders hjudged).trans rfl),
      (State.body_peers hb).trans ((State.body_peers hjudged).trans rfl),
      (State.body_context hb).trans ((State.body_context hjudged).trans rfl),
      (State.body_link hb).trans ((State.body_link hjudged).trans rfl)⟩
    · exact (chan ch).trans (Channel.judgeProbe_of_open ho)
    · exact (chan ch).trans (Channel.judgeProbe_of_not_open ho)
    · refine (State.body_node hb).trans ?_
      show { judged.node with
        state := .joining, probe := none,
        listen := if judged.link.acq = some Acq.locked ∧ judged.node.listen = none then some (2 * (judged.params.statusMs * 20000))
          else judged.node.listen : NodeCtl } = _
      rw [hnode, hparams, hacq]
    · refine (settled.trails.counts.others _ (by decide)).trans (counts.trans ?_)
      show _ = if (if (a.chan .a).foundOpen = true then 1 else 0) + (if (a.chan .b).foundOpen = true then 1 else 0) = 0 then _
        else (s.faults.cls .sensorOpen).counted ((if (a.chan .a).foundOpen = true then 1 else 0) + (if (a.chan .b).foundOpen = true then 1 else 0))
      show (if (a.chan .b).foundOpen = true then _ else _) = _
      by_cases hA : (a.chan .a).foundOpen = true <;> by_cases hB : (a.chan .b).foundOpen = true <;>
        simp [hA, hB, ClassState.counted_counted, a]
  · rintro ⟨hn, hp⟩
    exact hno.elim (fun h => h hn) fun h => h ((ranOut_iff _).mp hp)

/-! ## The end of the listen, and the status timer -/

theorem State.onNode_body_congr {s t : State} (h : t.body = s.body) (f : NodeCtl → NodeCtl) : (t.onNode f).body = (s.onNode f).body := by
  have swap : ∀ u : State, (u.onNode f).body = u.body.onNode f := fun _ => rfl
  rw [swap, swap, h]

/-- R145: a STATUS queued where there is room for it. -/
theorem State.queueStatus_of_room {s : State} (h : s.link.HasRoom .status) :
    s.queueStatus.link.Waits .status none ∧ s.queueStatus.faults = s.faults ∧ s.queueStatus.alert = s.alert := by
  unfold State.queueStatus
  rw [State.queueReport_of_hasRoom h rfl []]
  exact ⟨(State.putReport_passes_none h rfl []).2, rfl, rfl⟩

/-- Settles O22. -/
theorem listenEndAndStatusTimerQueueStatus : Obligations.ListenEndAndStatusTimerQueueStatus := by
  intro s τ hf hroom
  refine ⟨fun ha hn hl => ?_, fun hno => ⟨_, rfl, State.settles_as (if_neg ?_) hf.due⟩, fun ht => ⟨_, rfl, State.settles_as (if_neg ?_) hf.due⟩, fun ht => ?_⟩
  · have act : listenEnd (s.advance τ) = (s.advance τ).listenEnded.queueStatus.onAlert (AlertUnit.assertLine .running) :=
      if_pos ⟨hn, (ranOut_iff _).mpr hl⟩
    obtain ⟨waits, -, halert⟩ := State.queueStatus_of_room (s := (s.advance τ).listenEnded) hroom
    have due : (s.advance τ).listenEnded.queueStatus.withdrawDue = false := (State.queueReport_trails _ (.inl rfl) []).due hf.sound hf.due
    have settled := State.settles_as act due
    refine ⟨_, rfl, settled.body_eq.trans (State.queueStatus_body _), settled.trails.status waits, fun hu => settled.trails.asserted ?_⟩
    show (AlertUnit.assertLine .running (s.advance τ).listenEnded.queueStatus.alert).line = .asserted
    rw [halert, AlertUnit.assertLine_line, if_pos]
    exact ⟨rfl, ha.2.2.2.1 (by rw [hn]; rfl), hu⟩
  · rintro ⟨hn, hp⟩
    exact hno.elim (fun h => h hn) fun h => h ((ranOut_iff _).mp hp)
  · exact fun h => ht ((ranOut_iff _).mp h)
  · have act : statusTimerExpiry (s.advance τ)
        = (s.advance τ).queueStatus.onNode (fun n => { n with statusTimer := some (msTicks (s.advance τ).statusMs) }) :=
      if_pos ((ranOut_iff _).mpr ht)
    obtain ⟨waits, -, -⟩ := State.queueStatus_of_room (s := s.advance τ) hroom
    have due : (s.advance τ).queueStatus.withdrawDue = false := (State.queueReport_trails _ (.inl rfl) []).due hf.sound hf.due
    have settled := State.settles_as act due
    refine ⟨_, rfl, settled.trails.status waits, settled.body_eq.trans ?_⟩
    have period : msTicks (s.advance τ).statusMs = (if s.node.state = NodeState.unconfigured then 100 else s.params.statusMs) * 20000 := rfl
    rw [period]
    exact State.onNode_body_congr (State.queueStatus_body _) _

end Sys2Proof.Machine

/-! # Frames heard: PHASE, JOLT, and the judgement of orders (O45, O48 to O51) -/

namespace Sys2Proof.Machine

/-! ## What passing time leaves of the tracker -/

/-- R14, R17: time moves the watchdog, the angle, the phase and the distances of the marks. -/
theorem Tracker.elapse_frame (tr : Tracker) (im : Image) (now : Tick) (d : Nat) :
    tr.elapse im now d = { tr with
      stallLeft := (tr.elapse im now d).stallLeft, angle := (tr.elapse im now d).angle, phase := (tr.elapse im now d).phase,
      marks := (tr.elapse im now d).marks } := by
  unfold Tracker.elapse Tracker.interpolate
  cases tr.sync <;> rfl

theorem State.advance_frame (s : State) (τ : Tick) :
    (s.advance τ).tracker = { s.tracker with
      stallLeft := (s.advance τ).tracker.stallLeft, angle := (s.advance τ).tracker.angle, phase := (s.advance τ).tracker.phase,
      marks := (s.advance τ).tracker.marks } :=
  s.tracker.elapse_frame s.params τ (ticksFrom s.now τ)

theorem State.advance_sync (s : State) (τ : Tick) : (s.advance τ).tracker.sync = s.tracker.sync :=
  (congrArg Tracker.sync (s.advance_frame τ)).trans rfl

theorem State.advance_cycleCount (s : State) (τ : Tick) : (s.advance τ).tracker.cycleCount = s.tracker.cycleCount :=
  (congrArg Tracker.cycleCount (s.advance_frame τ)).trans rfl

theorem State.advance_warmUp (s : State) (τ : Tick) : (s.advance τ).tracker.warmUp = s.tracker.warmUp :=
  (congrArg Tracker.warmUp (s.advance_frame τ)).trans rfl

/-- R22: what an occurrence of an event carries. -/
theorem State.advance_occurrence (s : State) (τ : Tick) (cls : FaultClass) (st : Option Station) (k c : Option Nat) :
    (s.advance τ).occurrence cls st k c = {
      cls := cls, cycle := s.tracker.cycleCount, angle := (s.advance τ).tracker.faultAngle, station := st, kind := k, cyl := c } := by
  unfold State.occurrence
  rw [State.advance_cycleCount]

/-! ## What hearing a frame moves -/

/-- R136, R143, R105: hearing a frame moves the link, the listen of a JOINING node and the Peer Table. -/
theorem State.heardFrame_frame (s : State) (k : Kind) (st : Station) (p : List Byte) :
    s.heardFrame k st p = { s with
      link := (s.heardFrame k st p).link, peers := (s.heardFrame k st p).peers,
      node := { s.node with listen := (s.heardFrame k st p).node.listen } } := by
  unfold State.heardFrame State.hearPeer State.goodFrame State.startListen
  split <;> split <;> rfl

section Heard
variable (s : State) (k : Kind) (st : Station) (p : List Byte)

theorem State.heardFrame_station : (s.heardFrame k st p).station = s.station := (congrArg State.station (s.heardFrame_frame k st p)).trans rfl
theorem State.heardFrame_image : (s.heardFrame k st p).image = s.image := (congrArg State.image (s.heardFrame_frame k st p)).trans rfl
theorem State.heardFrame_params : (s.heardFrame k st p).params = s.params := State.params_congr (s.heardFrame_image k st p)
theorem State.heardFrame_state : (s.heardFrame k st p).node.state = s.node.state := (congrArg (·.node.state) (s.heardFrame_frame k st p)).trans rfl
theorem State.heardFrame_tracker : (s.heardFrame k st p).tracker = s.tracker := (congrArg State.tracker (s.heardFrame_frame k st p)).trans rfl
theorem State.heardFrame_estimator : (s.heardFrame k st p).estimator = s.estimator := (congrArg State.estimator (s.heardFrame_frame k st p)).trans rfl
theorem State.heardFrame_records : (s.heardFrame k st p).records = s.records := (congrArg State.records (s.heardFrame_frame k st p)).trans rfl
theorem State.heardFrame_cylinders : (s.heardFrame k st p).cylinders = s.cylinders := (congrArg State.cylinders (s.heardFrame_frame k st p)).trans rfl
theorem State.heardFrame_cyl (c : Nat) : (s.heardFrame k st p).cyl c = s.cyl c := State.cyl_congr (s.heardFrame_cylinders k st p) c
theorem State.heardFrame_context : (s.heardFrame k st p).context = s.context := (congrArg State.context (s.heardFrame_frame k st p)).trans rfl
theorem State.heardFrame_faults : (s.heardFrame k st p).faults = s.faults := (congrArg State.faults (s.heardFrame_frame k st p)).trans rfl
theorem State.heardFrame_alert : (s.heardFrame k st p).alert = s.alert := (congrArg State.alert (s.heardFrame_frame k st p)).trans rfl
theorem State.heardFrame_due : (s.heardFrame k st p).withdrawDue = s.withdrawDue := (congrArg State.withdrawDue (s.heardFrame_frame k st p)).trans rfl

theorem Link.goodFrame_queue (l : Link) : l.goodFrame.queue = l.queue ∧ l.goodFrame.nextAge = l.nextAge
    ∧ l.goodFrame.transmitter = l.transmitter ∧ l.goodFrame.receiver = l.receiver := by
  unfold Link.goodFrame
  split
  · exact ⟨rfl, rfl, rfl, rfl⟩
  · exact ⟨rfl, rfl, rfl, rfl⟩
  · split <;> exact ⟨rfl, rfl, rfl, rfl⟩
  · exact ⟨rfl, rfl, rfl, rfl⟩

theorem State.heardFrame_link : (s.heardFrame k st p).link
    = Link.goodFrame { s.link.readFrame (frameCells (frameChars k st p)) with receiver := .idle } := by
  have heard : (s.heardFrame k st p).link = ((s.frameRead (frameCells (frameChars k st p)) .idle).goodFrame).link := by
    unfold State.heardFrame State.hearPeer
    split <;> rfl
  rw [heard]
  unfold State.goodFrame State.startListen
  split <;> rfl

theorem State.heardFrame_queue : (s.heardFrame k st p).link.queue = s.link.queue := by
  rw [State.heardFrame_link, (Link.goodFrame_queue _).1]
  obtain ⟨d, r, e⟩ := Link.readFrame_keeps (frameCells (frameChars k st p)) s.link
  rw [e]

theorem State.heardFrame_occurrence (cls : FaultClass) (x : Option Station) (kind c : Option Nat) :
    (s.heardFrame k st p).occurrence cls x kind c = s.occurrence cls x kind c := by
  unfold State.occurrence
  rw [State.heardFrame_tracker]

end Heard

theorem State.heardFrame_faultsOk {s : State} (h : s.FaultsOk) (k : Kind) (st : Station) (p : List Byte) :
    (s.heardFrame k st p).FaultsOk := by
  rw [State.faultsOk_iff, State.heardFrame_faults, State.heardFrame_due]
  exact (State.faultsOk_iff s).mp h

/-- R136, R138: a frame that the node hears goes, once heard, to the block of its kind. -/
theorem State.Hears.takeFrame {s : State} {st : Station} (h : s.Hears st) (τ : Tick) (k : Kind) (p : List Byte) (act : State → State) :
    (s.advance τ).takeFrame k st p act = act ((s.advance τ).heardFrame k st p) := by
  obtain ⟨hn, ht, hst⟩ := h
  unfold State.takeFrame
  dsimp only
  rw [State.receive_taken (s := s.advance τ) _ _ hn (by rw [State.advance_takesFrame]; exact ht)]
  exact if_neg hst

theorem State.Hears.takeOrderFrame {s : State} {st : Station} (h : s.Hears st) (τ : Tick) (target code a1 a2 : Byte) :
    (s.advance τ).takeOrderFrame st target code a1 a2
      = ((s.advance τ).heardFrame .order st [target, code, a1, a2]).takeOrder st target code.toNat a1 a2 :=
  h.takeFrame τ .order _ _

/-! ## PHASE and JOLT -/

theorem State.takePhase_of_manager {s : State} {st : Station} (hn : s.node.state.configured = true) (hm : s.params.manager = st.val)
    (ctx : EngineContext) : s.takePhase st ctx = s.onContext (fun c => { c with pendingCtx := some ctx }) := by
  unfold State.takePhase
  rw [if_pos (by rw [hn, hm]; exact beq_self_eq_true _)]

theorem State.takePhase_of_other {s : State} {st : Station} (h : s.node.state.configured = false ∨ s.params.manager ≠ st.val)
    (ctx : EngineContext) : s.takePhase st ctx = s := by
  unfold State.takePhase
  rw [if_neg]
  rcases h with h | h
  · simp [h]
  · simp [h]

theorem State.takeJolt_of_idle {s : State} {holdMs : Nat} (h : s.node.state.configured = false ∨ holdMs = 0) (st : Station) :
    s.takeJolt st holdMs = s := by
  unfold State.takeJolt
  rw [if_neg]
  rintro ⟨hn, hh⟩
  rcases h with h | h
  · exact Bool.noConfusion (h.symm.trans hn)
  · exact hh h

theorem State.takeJolt_extends {s : State} {holdMs : Nat} (hn : s.node.state.configured = true) (hh : holdMs ≠ 0) (st : Station) :
    s.takeJolt st holdMs = s.extendHold (msTicks (min holdMs 2000)) (.station st) := if_pos ⟨hn, hh⟩

theorem State.extendHold_onset {s : State} (h : s.context.hold = none) (d : Nat) (cause : HoldCause) :
    s.extendHold d cause = (s.onContext (fun c => { c with hold := some { left := d, cause := cause } })).markShock := by
  unfold State.extendHold
  rw [h]

theorem State.extendHold_running {s : State} {x : ShockHold} (h : s.context.hold = some x) (d : Nat) (cause : HoldCause) :
    s.extendHold d cause
      = if x.left < d then s.onContext (fun c => { c with hold := some { left := d, cause := cause } }) else s := by
  unfold State.extendHold
  rw [h]

/-- Settles O45. -/
theorem contextUnitTakesPhaseAndJolt : Obligations.ContextUnitTakesPhaseAndJolt := by
  intro s τ st cutMask flags peak hold hw hears a hp hj d extended
  have phase := hears.takeFrame τ .phase [cutMask, flags] (fun s => s.takePhase st (phaseContext cutMask flags))
  have jolt := hears.takeFrame τ .jolt (bytesOfWord peak ++ bytesOfWord hold) (fun s => s.takeJolt st hold.toNat)
  have hpDue : hp.withdrawDue = false := (a.heardFrame_due ..).trans hw
  have hjDue : hj.withdrawDue = false := (a.heardFrame_due ..).trans hw
  have hpState : hp.node.state = s.node.state := a.heardFrame_state ..
  have hjState : hj.node.state = s.node.state := a.heardFrame_state ..
  have hpManager : hp.params.manager = s.params.manager := congrArg Image.manager (a.heardFrame_params ..)
  have hjContext : hj.context = a.context := a.heardFrame_context ..
  have holds : hold ≠ 0 → hold.toNat ≠ 0 := fun h e => h (BitVec.eq_of_toNat_eq e)
  refine ⟨fun hc hm => ⟨_, rfl, State.settles_as (phase.trans ?_) hpDue⟩, fun hno => ⟨_, rfl, State.settles_as (phase.trans ?_) hpDue⟩,
    fun hno => ⟨_, rfl, State.settles_as (jolt.trans ?_) hjDue⟩, fun hc hh hx => ⟨_, rfl, State.settles_as (jolt.trans ?_) hjDue⟩,
    fun x hc hh hx => ⟨_, rfl, State.settles_as (jolt.trans ?_) ?_⟩⟩
  · exact State.takePhase_of_manager (hpState ▸ hc) (hpManager.trans hm) _
  · exact State.takePhase_of_other (hno.imp (hpState ▸ ·) (hpManager ▸ ·)) _
  · exact State.takeJolt_of_idle (hno.imp (hjState ▸ ·) (congrArg BitVec.toNat ·)) _
  · refine (State.takeJolt_extends (hjState ▸ hc) (holds hh) _).trans ((State.extendHold_onset (hjContext ▸ hx) _ _).trans ?_)
    rw [show s.records = hj.records from (a.heardFrame_records ..).symm]
    rfl
  · exact (State.takeJolt_extends (hjState ▸ hc) (holds hh) _).trans (State.extendHold_running (hjContext ▸ hx) _ _)
  · split
    · exact hjDue
    · exact hjDue

/-! ## The four steps of an order -/

theorem targets_iff (own : Station) (target : Byte) : targets own target = true ↔ target.toNat = own.val ∨ target.toNat = 255 := by
  simp [targets]

theorem State.sourceAllowed_iff (s : State) (st : Station) :
    s.sourceAllowed st = true ↔ s.node.state = .unconfigured ∨ s.params.orderMask.testBit st.val = true := by
  simp [State.sourceAllowed]

theorem orderOfCode_byteOf (o : OrderCode) : orderOfCode (byteOf o.code).toNat = some o := by
  cases o <;> rfl

theorem orderOfCode_unknown {n : Nat} (h : n = 0 ∨ 8 < n) : orderOfCode n = none := by
  rcases h with rfl | h
  · rfl
  · obtain ⟨m, rfl⟩ := Nat.exists_eq_add_of_lt h
    rw [show 8 + m + 1 = m + 9 from by omega]
    rfl

section Steps
variable {s : State} {st : Station} {target : Byte} {code : Nat} {a1 a2 : Byte}

theorem State.takeOrder_elsewhere (h : ¬(target.toNat = s.station.val ∨ target.toNat = 255)) : s.takeOrder st target code a1 a2 = s := by
  unfold State.takeOrder
  exact if_neg fun ht => h ((targets_iff _ _).mp ht)

theorem State.takeOrder_refused (h : target.toNat = s.station.val ∨ target.toNat = 255)
    (hs : ¬(s.node.state = .unconfigured ∨ s.params.orderMask.testBit st.val = true)) :
    s.takeOrder st target code a1 a2 = s.fault .refused (some st) (some Kind.order.code) none := by
  unfold State.takeOrder
  rw [if_pos ((targets_iff _ _).mpr h)]
  exact if_neg fun ha => hs ((State.sourceAllowed_iff _ _).mp ha)

theorem State.takeOrder_unknown (h : s.Commanded st target) (hc : orderOfCode code = none) :
    s.takeOrder st target code a1 a2 = s.fault .malformed (some st) (some Kind.order.code) none := by
  unfold State.takeOrder
  rw [if_pos ((targets_iff _ _).mpr h.1), if_pos ((State.sourceAllowed_iff _ _).mpr h.2), hc]

theorem State.takeOrder_known (h : s.Commanded st target) {o : OrderCode} (hc : orderOfCode code = some o) :
    s.takeOrder st target code a1 a2 = if o.acceptedIn s.node.state then s.actOn o st a1 a2 else s := by
  unfold State.takeOrder
  rw [if_pos ((targets_iff _ _).mpr h.1), if_pos ((State.sourceAllowed_iff _ _).mpr h.2), hc]

end Steps

theorem State.Commanded.heard {s : State} {st : Station} {target : Byte} (h : s.Commanded st target) (τ : Tick) (k : Kind) (p : List Byte) :
    ((s.advance τ).heardFrame k st p).Commanded st target := by
  obtain ⟨named, permitted⟩ := h
  refine ⟨?_, ?_⟩
  · rw [State.heardFrame_station]
    exact named
  · rw [State.heardFrame_state, State.heardFrame_params]
    exact permitted

/-- R163: an order that passes its four steps acts on the state that has heard it. -/
theorem State.Hears.order_acts {s : State} {st : Station} {target : Byte} (h : s.Hears st) (hc : s.Commanded st target) (τ : Tick)
    {o : OrderCode} (ho : o.acceptedIn s.node.state = true) (a1 a2 : Byte) :
    (s.advance τ).takeOrderFrame st target (byteOf o.code) a1 a2
      = ((s.advance τ).heardFrame .order st (o.payload target a1 a2)).actOn o st a1 a2 := by
  rw [h.takeOrderFrame, State.takeOrder_known (hc.heard τ _ _) (orderOfCode_byteOf o), State.heardFrame_state]
  exact if_pos ho

/-- The command of an order carries its frame (R163). -/
theorem exec_order (s : State) (τ : Tick) (o : OrderCode) (st : Station) (target a1 a2 : Byte) :
    exec (o.command τ st target a1 a2) s = .next ((s.advance τ).takeOrderFrame st target (byteOf o.code) a1 a2).settle := by
  cases o <;> rfl

/-- R163: the node states, LOADING apart, in which an order is accepted. -/
theorem OrderCode.acceptedIn_iff (o : OrderCode) {n : NodeState} (hn : n ≠ .loading) :
    o.acceptedIn n = true ↔ match o with
      | .serve => n ≠ .unconfigured
      | .clearCounts => n = .running ∨ n = .hold
      | .relearn => n = .running ∨ n = .hold
      | .clearFaults => True
      | .hold => n = .running
      | .resume => n = .hold
      | .restart => n ≠ .unconfigured
      | .report => True := by
  cases n with
  | loading => exact absurd rfl hn
  | _ => cases o <;> simp [OrderCode.acceptedIn, NodeState.configured]

/-- An occurrence passed by the block of a heard frame, and nothing else. -/
theorem State.heard_fault_settles {s : State} (hf : s.FaultsOk) (τ : Tick) (k : Kind) (st : Station) (p : List Byte) {cls : FaultClass}
    (hk : cls ≠ .queueOverflow ∧ cls ≠ .peerSilent ∧ cls ≠ .clash) (hs : cls.powerOnSeverity ≠ .withdrawing) (x : Option Station)
    (kind c : Option Nat) :
    (((s.advance τ).heardFrame k st p).fault cls x kind c).settle.body = ((s.advance τ).heardFrame k st p).body
      ∧ FaultUnit.Took {
          cls := cls, cycle := s.tracker.cycleCount, angle := (s.advance τ).tracker.faultAngle, station := x, kind := kind, cyl := c }
          s.faults (((s.advance τ).heardFrame k st p).fault cls x kind c).settle.faults := by
  obtain ⟨-, hbody, took⟩ := State.fault_settles (State.heardFrame_faultsOk (hf.advance τ) k st p) hk hs x kind c
  rw [State.heardFrame_occurrence, State.heardFrame_faults, State.advance_occurrence] at took
  exact ⟨hbody, took⟩

/-- Settles O48. -/
theorem ordersAreJudgedInFourSteps : Obligations.OrdersAreJudgedInFourSteps := by
  intro s τ st o target code a1 a2 hf hears a n named permitted accepted h h' passed
  have due : ∀ p, (a.heardFrame .order st p).withdrawDue = false := fun p => (State.heardFrame_faultsOk (hf.advance τ) .order st p).due
  have naming : ∀ p, (target.toNat = (a.heardFrame .order st p).station.val ∨ target.toNat = 255) ↔ named := fun p => by
    rw [State.heardFrame_station]
    exact Iff.rfl
  have allowed : ∀ p, ((a.heardFrame .order st p).node.state = .unconfigured
      ∨ (a.heardFrame .order st p).params.orderMask.testBit st.val = true) ↔ permitted := fun p => by
    rw [State.heardFrame_state, State.heardFrame_params]
    exact Iff.rfl
  have order := hears.takeOrderFrame τ target (byteOf o.code) a1 a2
  have unknown := hears.takeOrderFrame τ target code a1 a2
  have refuses : ∀ (p : List Byte) (code : Nat), named → ¬permitted →
      (a.heardFrame .order st p).takeOrder st target code a1 a2 = (a.heardFrame .order st p).fault .refused (some st) (some Kind.order.code) none :=
    fun p code hn hp => State.takeOrder_refused ((naming p).mpr hn) fun ha => hp ((allowed p).mp ha)
  refine ⟨fun hno => ⟨_, exec_order .., State.settles_as (order.trans ?_) (due _)⟩, fun hn hp => ⟨_, exec_order .., ?_⟩,
    fun hn hp hc => ⟨_, rfl, ?_⟩, fun hn hp => ⟨_, rfl, ?_⟩, fun hn => ⟨_, rfl, State.settles_as (unknown.trans ?_) (due _)⟩⟩
  · rcases hno with hno | ⟨hp, hno⟩
    · exact State.takeOrder_elsewhere fun hn => hno ((naming _).mp hn)
    · by_cases hn : named
      · rw [State.takeOrder_known ⟨(naming _).mpr hn, (allowed _).mpr hp⟩ (orderOfCode_byteOf o), State.heardFrame_state]
        exact if_neg fun ha => hno ((o.acceptedIn_iff hears.1).mp ha)
      · exact State.takeOrder_elsewhere fun hn' => hn ((naming _).mp hn')
  · rw [order.trans (refuses _ _ hn hp)]
    exact State.heard_fault_settles (cls := .refused) hf τ _ _ _ (by decide) (by decide) _ _ _
  · rw [unknown.trans (State.takeOrder_unknown ⟨(naming _).mpr hn, (allowed _).mpr hp⟩ (orderOfCode_unknown hc))]
    exact State.heard_fault_settles (cls := .malformed) hf τ _ _ _ (by decide) (by decide) _ _ _
  · rw [unknown.trans (refuses _ _ hn hp)]
    exact State.heard_fault_settles (cls := .refused) hf τ _ _ _ (by decide) (by decide) _ _ _
  · exact State.takeOrder_elsewhere fun hn' => hn ((naming _).mp hn')

/-! ## SERVE -/

theorem SourceState.serve_latch (seq : BitVec 8) (x : SourceState) :
    x.serve seq = { x with latch := x.latch && !decide ((seq - x.latest).toNat < 128) } := by
  unfold SourceState.serve
  split
  · next h =>
    rw [decide_eq_true h]
    simp
  · next h =>
    rw [decide_eq_false h]
    simp

/-- R156, R157: what SERVE does to the Alert Unit beside the latches. -/
theorem AlertUnit.serve_line (seq : BitVec 8) (set : Byte) (holdOff : Nat) (a : AlertUnit) :
    (a.serve seq set holdOff).raiseSeq = a.raiseSeq
      ∧ (a.line = .asserted → (a.serve seq set holdOff).line = .holdoff ∧ (a.serve seq set holdOff).holdOff = some holdOff)
      ∧ (a.line ≠ .asserted → (a.serve seq set holdOff).line = a.line ∧ (a.serve seq set holdOff).holdOff = a.holdOff) := by
  unfold AlertUnit.serve
  split
  · next h => exact ⟨rfl, fun _ => ⟨rfl, rfl⟩, fun hn => absurd h hn⟩
  · next h => exact ⟨rfl, fun ha => absurd ha h, fun _ => ⟨rfl, rfl⟩⟩

/-- Settles O49. -/
theorem serveClearsWhatItsSequenceCovers : Obligations.ServeClearsWhatItsSequenceCovers := by
  intro s τ st target seq set hw hears hcmd hconf a
  let h := a.heardFrame .order st (OrderCode.serve.payload target seq set)
  have act := hears.order_acts hcmd τ (o := .serve) hconf seq set
  have halert : h.alert = a.alert := a.heardFrame_alert ..
  have hparams : h.params.holdOffTicks = s.params.holdOff * 10000 := congrArg Image.holdOffTicks (a.heardFrame_params ..)
  obtain ⟨hseq, asserted, other⟩ := AlertUnit.serve_line seq set h.params.holdOffTicks a.alert
  refine ⟨_, a.alert.serve seq set h.params.holdOffTicks, rfl, State.settles_as (act.trans ?_) ((a.heardFrame_due ..).trans hw),
    fun x _ => ?_, hseq, fun hl => hparams ▸ asserted hl, other⟩
  · rw [← halert]
    rfl
  · rw [AlertUnit.src_serve]
    by_cases hx : set.getLsbD x.index = true
    · rw [if_pos hx, SourceState.serve_latch, hx]
      rfl
    · rw [if_neg hx, Bool.eq_false_iff.mpr hx]
      simp

/-! ## CLEAR COUNTS and RELEARN -/

theorem State.onMasked_frame (s : State) (mask : Byte) (f : CylEntry → CylEntry) :
    s.onMasked mask f = { s with cylinders := (s.onMasked mask f).cylinders } := by
  have step : ∀ (l : List Nat) (u : State), u = { s with cylinders := u.cylinders } →
      l.foldl (fun s c => if maskHas mask c then s.onCyl c f else s) u
        = { s with cylinders := (l.foldl (fun s c => if maskHas mask c then s.onCyl c f else s) u).cylinders } := by
    intro l
    induction l with
    | nil => exact fun u hu => hu
    | cons c l ih =>
      intro u hu
      refine ih _ ?_
      dsimp only
      split
      · rw [hu]
        rfl
      · exact hu
  exact step _ s rfl

/-- The entries of the masked cylinders, one update each. -/
theorem State.onMasked_cyl {s : State} (hlen : s.cylinders.length = 8) (mask : Byte) (f : CylEntry → CylEntry) {c : Nat}
    (hc : c ∈ allCylinders) : (s.onMasked mask f).cyl c = if mask.getLsbD (c - 1) then f (s.cyl c) else s.cyl c := by
  have step : ∀ (l : List Nat), l.Nodup → (∀ x ∈ l, x ∈ allCylinders) → ∀ u : State, u.cylinders.length = 8 →
      (l.foldl (fun s c => if maskHas mask c then s.onCyl c f else s) u).cyl c
        = if c ∈ l ∧ mask.getLsbD (c - 1) = true then f (u.cyl c) else u.cyl c := by
    intro l
    induction l with
    | nil => exact fun _ _ u _ => (if_neg (by simp)).symm
    | cons x l ih =>
      intro hnodup hall u hu
      obtain ⟨hx, hnodup⟩ := List.nodup_cons.mp hnodup
      have hxc := hall x (.head l)
      rw [List.foldl_cons, ih hnodup (fun y hy => hall y (.tail x hy)) _ (by split <;> simp [State.onCyl, hu])]
      by_cases hcx : c = x
      · subst hcx
        rw [if_neg (fun h => hx h.1)]
        by_cases hm : mask.getLsbD (c - 1) = true
        · rw [if_pos (show maskHas mask c = true from hm), if_pos ⟨.head l, hm⟩, State.cyl_onCyl hc hu]
        · rw [if_neg (show ¬maskHas mask c = true from hm), if_neg fun h => hm h.2]
      · have same : (if maskHas mask x then u.onCyl x f else u).cyl c = u.cyl c := by
          split
          · exact State.cyl_onCyl_of_ne u hxc hc hcx f
          · rfl
        rw [same]
        simp only [List.mem_cons, hcx, false_or]
  have all := step allCylinders (by decide) (fun _ h => h) s hlen
  simp only [hc, true_and] at all
  exact all

/-- Settles O50. -/
theorem clearCountsAndRelearnActOnTheMask : Obligations.ClearCountsAndRelearnActOnTheMask := by
  intro s τ st target mask a2 hw hears hcmd hn hlen a hc hr
  have hcLen : hc.cylinders.length = 8 := (congrArg List.length (a.heardFrame_cylinders ..)).trans hlen
  have hrLen : hr.cylinders.length = 8 := (congrArg List.length (a.heardFrame_cylinders ..)).trans hlen
  refine ⟨⟨_, (hc.onMasked mask CylEntry.clearCounts).cylinders, rfl, ?_⟩, ⟨_, (hr.onMasked mask CylEntry.relearn).cylinders, rfl, ?_⟩⟩
  · have act := hears.order_acts hcmd τ (o := .clearCounts) ((OrderCode.acceptedIn_iff .clearCounts hears.1).mpr hn) mask a2
    have settled := State.settles_as (act.trans (hc.onMasked_frame mask CylEntry.clearCounts)) ((a.heardFrame_due ..).trans hw)
    refine ⟨settled, fun c hcyl => (State.cyl_congr (State.body_cylinders settled.body_eq) c).trans ?_⟩
    exact (State.onMasked_cyl hcLen mask _ hcyl).trans (by rw [State.heardFrame_cyl]; rfl)
  · have act := hears.order_acts hcmd τ (o := .relearn) ((OrderCode.acceptedIn_iff .relearn hears.1).mpr hn) mask a2
    let masked := hr.onMasked mask CylEntry.relearn
    have records : masked.records = s.records := (congrArg State.records (hr.onMasked_frame mask CylEntry.relearn)).trans (a.heardFrame_records ..)
    have relearnt : hr.relearn mask = { hr with
        cylinders := masked.cylinders,
        records := s.records.map (Option.map (fun r : Record =>
          if mask.getLsbD (r.cyl - 1) && r.windowTaken then { r with learning := true, ownA := none, ownB := none } else r)) } := by
      have each : (fun r : Record => if maskHas mask r.cyl then r.relearn else r)
          = fun r => if mask.getLsbD (r.cyl - 1) && r.windowTaken then { r with learning := true, ownA := none, ownB := none } else r := by
        funext r
        unfold maskHas Record.relearn
        cases mask.getLsbD (r.cyl - 1) <;> simp
      unfold State.relearn State.onOpenRecords
      rw [each]
      show { masked with records := masked.records.map _ } = _
      rw [records]
      exact congrArg (State.onRecords fun _ => s.records.map _) (hr.onMasked_frame mask CylEntry.relearn)
    have settled := State.settles_as (act.trans relearnt) ((a.heardFrame_due ..).trans hw)
    refine ⟨settled, fun c hcyl => (State.cyl_congr (State.body_cylinders settled.body_eq) c).trans ?_⟩
    exact (State.onMasked_cyl hrLen mask _ hcyl).trans (by rw [State.heardFrame_cyl]; rfl)

end Sys2Proof.Machine

/-! # CLEAR FAULTS, HOLD, RESUME, RESTART and REPORT (O51 to O54) -/

namespace Sys2Proof.Machine

/-! ## The transmitter of a node that hears -/

theorem Link.takesFrame_iff (l : Link) : l.takesFrame = true ↔
    l.transmitter = .idle ∧ (l.receiver = .assembling ∨ (l.receiver = .idle ∧ 11 ≤ l.recessiveRun)) := by
  unfold Link.takesFrame
  rw [Bool.and_eq_true, Bool.or_eq_true, Bool.and_eq_true, beq_iff_eq, beq_iff_eq, beq_iff_eq, decide_eq_true_eq]
  exact Iff.rfl

theorem State.heardFrame_transmitter (s : State) (k : Kind) (st : Station) (p : List Byte) :
    (s.heardFrame k st p).link.transmitter = s.link.transmitter := by
  rw [State.heardFrame_link, (Link.goodFrame_queue _).2.2.1]
  obtain ⟨d, r, e⟩ := Link.readFrame_keeps (frameCells (frameChars k st p)) s.link
  rw [e]

theorem State.heardFrame_nextAge (s : State) (k : Kind) (st : Station) (p : List Byte) :
    (s.heardFrame k st p).link.nextAge = s.link.nextAge := by
  rw [State.heardFrame_link, (Link.goodFrame_queue _).2.1]
  obtain ⟨d, r, e⟩ := Link.readFrame_keeps (frameCells (frameChars k st p)) s.link
  rw [e]

theorem State.Hears.transmitter {s : State} {st : Station} (h : s.Hears st) (τ : Tick) (k : Kind) (p : List Byte) :
    ((s.advance τ).heardFrame k st p).link.transmitter = .idle := by
  rw [State.heardFrame_transmitter]
  exact (Transmitter.elapse_idle _ _).mpr ((Link.takesFrame_iff _).mp h.2.1).1

/-- R147: a removal leaves an idle transmitter's link as it was but for the queue. -/
theorem Link.removeEntries_of_idle {l : Link} (h : l.transmitter = .idle) (p : TxEntry → Bool) :
    l.removeEntries p = { l with queue := l.queue.filter (fun e => !p e) } := by
  unfold Link.removeEntries
  rw [h]

theorem State.heardFrame_queueOk {s : State} (h : s.link.QueueOk) (τ : Tick) (k : Kind) (st : Station) (p : List Byte) :
    ((s.advance τ).heardFrame k st p).link.QueueOk :=
  (State.advance_queueOk h τ).congr (State.heardFrame_queue _ _ _ _) (State.heardFrame_nextAge _ _ _ _)
    (.inl (State.heardFrame_transmitter _ _ _ _))

theorem State.heardFrame_hasRoom {s : State} {kind : Kind} (h : s.link.HasRoom kind) (τ : Tick) (k : Kind) (st : Station) (p : List Byte) :
    ((s.advance τ).heardFrame k st p).link.HasRoom kind := by
  unfold Link.HasRoom
  rw [State.heardFrame_queue]
  exact h

/-! ## CLEAR FAULTS -/

theorem State.clearFaults_due (s : State) : s.clearFaults.withdrawDue = s.withdrawDue := by
  unfold State.clearFaults
  dsimp only
  split <;> rfl

/-- Settles O51. -/
theorem clearFaultsClears : Obligations.ClearFaultsClears := by
  intro s τ st target a1 a2 hf hears hcmd hroom h
  have act := hears.order_acts hcmd τ (o := .clearFaults) ((OrderCode.acceptedIn_iff .clearFaults hears.1).mpr trivial) a1 a2
  have hdue : h.clearFaults.withdrawDue = false := h.clearFaults_due.trans ((State.heardFrame_due ..).trans hf.due)
  have settled : h.clearFaults.SettledTo _ := State.settles_as act hdue
  have room : h.clearFaults.link.HasRoom .status := by
    rw [State.clearFaults_link]
    exact State.heardFrame_hasRoom hroom _ _ _ _
  have hstate : h.node.state = s.node.state := State.heardFrame_state ..
  have hfaults : h.clearFaults.faults = s.faults.clear (s.node.state == .unconfigured) := by
    rw [State.clearFaults_faults, hstate, State.heardFrame_faults]
    rfl
  obtain ⟨faults, -, -, hoff, line⟩ := settled.of_room room
  rw [hfaults] at faults
  have hb := settled.body_eq
  refine ⟨_, rfl, fun k _ => ?_, congrArg FaultUnit.first faults, congrArg FaultUnit.overflow faults, fun hn => ?_, fun hn => ?_⟩
  · refine (congrArg (fun f : FaultUnit => f.cls k) faults).trans ?_
    show (s.faults.clear (s.node.state == .unconfigured)).cls k = _
    rw [FaultUnit.cls_clear]
    have index : k.index = 4 ↔ k = .configInvalid := by cases k <;> simp [FaultClass.index]
    by_cases hk : s.node.state = .unconfigured ∧ k = .configInvalid
    · rw [if_pos hk, if_pos (by rw [hk.1, hk.2]; rfl)]
    · rw [if_neg hk, if_neg]
      rw [Bool.and_eq_true, beq_iff_eq, beq_iff_eq, index]
      exact hk
  · refine hb.trans ?_
    unfold State.clearFaults
    dsimp only
    rw [if_neg (by rw [hstate]; exact hn)]
    rfl
  · have probing : h.clearFaults = (h.onFaults (FaultUnit.clear (h.node.state == .unconfigured))).enterProbing := if_pos (hstate.trans hn)
    rw [probing] at hb hoff line
    have hcyl : h.cylinders = s.cylinders := State.heardFrame_cylinders ..
    have hrec : h.records = s.records := State.heardFrame_records ..
    have hest : h.estimator = s.estimator := State.heardFrame_estimator ..
    clear_value h
    exact ⟨(State.body_node hb).trans rfl, fun ch => (State.body_chan hb ch).trans (by cases ch <;> rfl), line rfl, hoff,
      (State.body_cylinders hb).trans hcyl, (State.body_peers hb).trans rfl, (State.body_context hb).trans rfl,
      (State.body_tracker hb).trans rfl, (State.body_records hb).trans hrec, (State.body_estimator hb).trans hest,
      (State.body_link hb).trans rfl⟩

/-! ## Aborts of every open record -/

/-- R71, R100: aborting the records of distinct cylinders counts one abort in the entry of each. -/
theorem State.countSlotAborts_cyl {l : List (Option Record)} (hdist : (l.filterMap id).Pairwise (fun r r' => r.cyl ≠ r'.cyl))
    (hall : ∀ r ∈ l.filterMap id, r.cyl ∈ allCylinders) {s : State} (hlen : s.cylinders.length = 8) {c : Nat} (hc : c ∈ allCylinders) :
    (l.foldl State.countSlotAbort s).cyl c
      = if (l.filterMap id).any (fun r => r.cyl == c) then (s.cyl c).countAbort else s.cyl c := by
  induction l generalizing s with
  | nil => rfl
  | cons o l ih =>
    cases o with
    | none => exact ih hdist hall hlen
    | some r =>
      have hr := hall r (.head _)
      have hlen' : (s.countSlotAbort (some r)).cylinders.length = 8 := (List.length_modify ..).trans hlen
      obtain ⟨hfirst, hdist⟩ := List.pairwise_cons.mp hdist
      have rest := ih hdist (fun x hx => hall x (.tail r hx)) hlen'
      refine rest.trans ?_
      show _ = if (r :: l.filterMap id).any (fun r => r.cyl == c) = true then _ else _
      rw [List.any_cons]
      by_cases hrc : r.cyl = c
      · subst hrc
        have later : (l.filterMap id).any (fun x => x.cyl == r.cyl) = false := by
          rw [List.any_eq_false]
          exact fun x hx => by simpa using (hfirst x hx).symm
        rw [later, beq_self_eq_true]
        exact State.cyl_onCyl hc hlen CylEntry.countAbort
      · have same : (s.countSlotAbort (some r)).cyl c = s.cyl c := State.cyl_onCyl_of_ne s hr hc (Ne.symm hrc) _
        rw [same, beq_eq_false_iff_ne.mpr hrc, Bool.false_or]

theorem State.abortAll_cyl {s : State} (hlen : s.cylinders.length = 8) (hdist : s.openRecords.Pairwise (fun r r' => r.cyl ≠ r'.cyl))
    (hall : ∀ r ∈ s.openRecords, r.cyl ∈ allCylinders) {c : Nat} (hc : c ∈ allCylinders) :
    s.abortAll.cyl c = if s.openRecords.any (fun r => r.cyl == c) then (s.cyl c).countAbort else s.cyl c :=
  State.countSlotAborts_cyl hdist hall hlen hc

/-! ## What a level that changes over a queue with room leaves waiting -/

/-- R145, R146: a report queued where there is room leaves every entry of another key. -/
theorem putEntry_keeps_in_room {e x : TxEntry} {q : List TxEntry} (hroom : q.length < 12 ∨ ∃ y ∈ q, y.sameKey e = true) (hx : x ∈ q)
    (hne : x.sameKey e = false) : x ∈ (putEntry e q).1 := by
  unfold putEntry
  split
  · exact (mem_insertEntry _ _ _).mpr (.inr (List.mem_filter.mpr ⟨hx, by rw [hne]; rfl⟩))
  · next hnone =>
    have hfree : q.length < Config.queueSize :=
      hroom.resolve_right fun ⟨y, hy, hkey⟩ => List.find?_eq_none.mp hnone y hy hkey
    rw [if_pos hfree]
    exact (mem_insertEntry _ _ _).mpr (.inr hx)

theorem State.SettledTo.keeps_in_room {s t : State} (h : s.SettledTo t) (hroom : s.link.HasRoom .status) :
    ∀ e ∈ s.link.queue, e.kind ≠ .status → e ∈ t.link.queue := by
  intro e he hk
  rw [h.eq_updateService]
  unfold State.updateService
  split
  · exact he
  · rw [State.raise_of_hasRoom (s := s.onFaults (fun f => { f with service := s.serviceOf })) hroom]
    refine putEntry_keeps_in_room (hroom.imp_right ?_) he (Bool.eq_false_iff.mpr fun hs => hk ((TxEntry.sameKey_iff _ _).mp hs).1)
    rintro ⟨y, hy, hyk, hyc⟩
    exact ⟨y, hy, (TxEntry.sameKey_iff _ _).mpr ⟨hyk, hyc⟩⟩

/-! ## HOLD and RESUME -/

/-- R164: the node as it enters HOLD with no frame of its own under way. -/
def State.held (s : State) : State :=
  { s with
    cylinders := s.abortAll.cylinders, records := s.records.map (fun _ => none)
    chanA := s.chanA.abandon, chanB := s.chanB.abandon
    link := { s.link with queue := s.link.queue.filter (fun e => !purgedByHold e) }
    node := { s.node with state := .hold } }

theorem State.enterHold_of_idle {s : State} (h : s.link.transmitter = .idle) : s.enterHold = s.held := by
  obtain ⟨cs, entered⟩ := s.enterHold_eq
  have cylinders : cs = s.abortAll.cylinders := (congrArg State.cylinders entered).symm
  rw [entered, cylinders, Link.removeEntries_of_idle h]
  rfl

theorem State.held_hasRoom {s : State} (h : s.link.HasRoom .status) : s.held.link.HasRoom .status := by
  rcases h with h | ⟨e, he, hk, hc⟩
  · exact .inl ((List.length_filter_le _ _).trans_lt h)
  · exact .inr ⟨e, List.mem_filter.mpr ⟨he, by unfold purgedByHold; rw [hk]; rfl⟩, hk, hc⟩

theorem State.mem_held_queue {s : State} {e : TxEntry} : e ∈ s.held.link.queue ↔ e ∈ s.link.queue ∧ purgedByHold e = false := by
  show e ∈ s.link.queue.filter (fun e => !purgedByHold e) ↔ _
  rw [List.mem_filter, Bool.not_eq_true']

theorem purgedByHold_iff (e : TxEntry) : purgedByHold e = false ↔ e.kind ≠ .witness ∧ e.kind ≠ .verdict ∧ e.kind ≠ .tally := by
  simp [purgedByHold, and_assoc]

/-- R164: HOLD entered in an event that ends with it. -/
theorem State.held_settles {u v t : State} (e : v = u.held) (hu : u.withdrawDue = false) (hroom : u.link.HasRoom .status) (ht : t = v.settle) :
    t.node = { u.node with state := .hold } ∧ (∀ r ∈ t.records, r = none) ∧ (∀ ch, t.chan ch = { u.chan ch with integrator := .idle })
      ∧ (∀ e ∈ t.link.queue, e.kind ≠ .witness ∧ e.kind ≠ .verdict ∧ e.kind ≠ .tally)
      ∧ (∀ e ∈ u.link.queue, e.kind = .jolt ∨ e.kind = .log → e ∈ t.link.queue)
      ∧ (∀ c, t.cyl c = u.abortAll.cyl c)
      ∧ t.tracker = u.tracker ∧ t.estimator = u.estimator ∧ t.peers = u.peers ∧ t.context = u.context
      ∧ t.image = u.image ∧ t.link.acq = u.link.acq ∧ t.link.receiver = u.link.receiver := by
  have settled := State.settles_as e hu
  rw [← ht] at settled
  have hb := settled.body_eq
  have room := State.held_hasRoom hroom
  obtain ⟨-, -, queue, -, -⟩ := settled.of_room room
  refine ⟨State.body_node hb, fun r hr => ?_, fun ch => (State.body_chan hb ch).trans (by cases ch <;> rfl), fun e he => ?_, fun e he hk => ?_,
    fun c => State.cyl_congr (State.body_cylinders hb) c, (State.body_tracker hb).trans rfl, (State.body_estimator hb).trans rfl, (State.body_peers hb).trans rfl,
    (State.body_context hb).trans rfl, (State.body_image hb).trans rfl, (State.body_acq hb).trans rfl, State.body_linkPart hb Link.receiver fun _ => rfl⟩
  · have cleared : t.records = u.records.map (fun _ => none) := State.body_records hb
    rw [cleared] at hr
    obtain ⟨-, -, rfl⟩ := List.mem_map.mp hr
    rfl
  · rcases queue e he with hk | he
    · rw [hk]
      decide
    · exact (purgedByHold_iff e).mp (State.mem_held_queue.mp he).2
  · refine settled.keeps_in_room room e (State.mem_held_queue.mpr ⟨he, (purgedByHold_iff e).mpr ?_⟩) ?_
    · rcases hk with hk | hk <;> rw [hk] <;> decide
    · rcases hk with hk | hk <;> rw [hk] <;> decide

/-- Settles O52. -/
theorem holdAndResumeMoveTheNode : Obligations.HoldAndResumeMoveTheNode := by
  intro s τ st target a1 a2 hf hears hcmd hh hr
  have due : ∀ p, ((s.advance τ).heardFrame .order st p).withdrawDue = false := fun p => (State.heardFrame_due ..).trans hf.due
  refine ⟨fun hn hroom => ?_, fun hn => ⟨_, rfl, State.settles_as ?_ (due _)⟩⟩
  · have act := hears.order_acts hcmd τ (o := .hold) ((OrderCode.acceptedIn_iff .hold hears.1).mpr hn) a1 a2
    have entered := State.enterHold_of_idle (hears.transmitter τ .order (OrderCode.hold.payload target a1 a2))
    obtain ⟨node, records, chans, purged, kept, cyl, tracker, estimator, peers, context, image, acq, receiver⟩ :=
      State.held_settles (act.trans entered) (due _) (State.heardFrame_hasRoom hroom ..) rfl
    rw [State.heardFrame_queue] at kept
    rw [State.heardFrame_estimator] at estimator
    rw [State.heardFrame_image] at image
    refine ⟨_, rfl, node, records, chans, purged, kept, fun hlen hdist hall c hc => (cyl c).trans ?_, tracker, estimator, peers, context, image,
      acq, receiver⟩
    have hrecords : hh.openRecords = s.openRecords := congrArg (List.filterMap id) (State.heardFrame_records ..)
    rw [← hrecords] at hdist hall ⊢
    have hcyl : hh.cyl c = s.cyl c := State.heardFrame_cyl ..
    rw [← hcyl]
    exact State.abortAll_cyl (s := hh) ((congrArg List.length (State.heardFrame_cylinders ..)).trans hlen) hdist hall hc
  · exact hears.order_acts hcmd τ (o := .resume) ((OrderCode.acceptedIn_iff .resume hears.1).mpr hn) a1 a2

/-! ## RESTART -/

/-- Settles O53. -/
theorem restartReturnsTheBlocks : Obligations.RestartReturnsTheBlocks := by
  intro s τ st target a1 a2 hf hears hcmd hconf im h
  have act := hears.order_acts hcmd τ (o := .restart) hconf a1 a2
  have hlink := Link.removeEntries_of_idle (hears.transmitter τ .order (OrderCode.restart.payload target a1 a2)) (fun _ => true)
  have hempty : h.link.queue.filter (fun _ => !true) = [] := List.filter_eq_nil_iff.mpr fun _ _ => by simp
  have restarted := h.restart_eq
  rw [hlink, hempty, State.enterProbing_eq, show h.params = s.params from State.heardFrame_params .., show h.station = s.station from State.heardFrame_station ..] at restarted
  have settled := State.settles_as (act.trans restarted) ((State.heardFrame_due ..).trans hf.due)
  have hb := settled.body_eq
  have room : Link.HasRoom { h.link with queue := [] } .status := .inl (show 0 < 12 by decide)
  obtain ⟨faults, sources, queue, hoff, line⟩ := settled.of_room room
  have hfaults : h.faults = s.faults := State.heardFrame_faults ..
  have him : h.image = s.image := State.heardFrame_image ..
  have halert : h.alert = (s.advance τ).alert := State.heardFrame_alert ..
  refine ⟨_, rfl, (State.body_node hb).trans rfl, (State.body_tracker hb).trans rfl, (State.body_estimator hb).trans rfl, fun r hr => ?_,
    fun ch => (State.body_chan hb ch).trans (by cases ch <;> rfl),
    fun c hc => (State.cyl_congr (State.body_cylinders hb) c).trans (cylindersFromImage_getD im s.station hc),
    fun x hx => (State.peer_congr (State.body_peers hb) x).trans ((peersFromImage_getD im s.station x).trans ?_),
    (State.body_context hb).trans rfl, fun e he => ?_, (State.body_acq hb).trans rfl, (State.body_linkPart hb Link.rate fun _ => rfl).trans rfl,
    (State.body_inhibit hb).trans rfl, (State.body_linkPart hb Link.dwell fun _ => rfl).trans rfl, (State.body_linkPart hb Link.recessiveRun fun _ => rfl).trans rfl,
    (State.body_link hb).trans rfl, line rfl, hoff, fun x _ hx => (sources x hx).trans ?_, fun k _ => ?_, ?_, ?_,
    (State.body_image hb).trans him, (State.body_station hb).trans rfl⟩
  · obtain ⟨-, -, rfl⟩ := List.mem_map.mp ((State.body_records hb).trans rfl ▸ hr)
    rfl
  · rw [bne_iff_ne.mpr hx, Bool.true_and]
  · rcases queue e he with hk | he
    · exact hk
    · cases he
  · show h.alert.src x = s.alert.src x
    rw [halert]
    rfl
  · refine (congrArg (fun f : FaultUnit => f.cls k) faults).trans ?_
    show h.faults.cls k = _
    rw [hfaults]
  · refine (congrArg FaultUnit.first faults).trans ?_
    show h.faults.first = _
    rw [hfaults]
  · refine (congrArg FaultUnit.overflow faults).trans ?_
    show h.faults.overflow = _
    rw [hfaults]

/-! ## REPORT -/

/-- R145: a LOG queued where two places are free waits with its contents, also after the change of the level. -/
theorem State.logged_settles {s : State} (hq : s.link.QueueOk) (hfree : s.link.queue.length < 11) (hf : s.FaultsOk) {v : State}
    {payload : List Byte} (hv : v = s.queueReport .log none payload) :
    v.settle.body = s.body ∧ v.settle.faults.cls .malformed = s.faults.cls .malformed
      ∧ ∃ e ∈ v.settle.link.queue, e.kind = .log ∧ e.payload = payload := by
  have room : s.link.HasRoom .log := .inl (by omega)
  rw [State.queueReport_of_hasRoom room rfl payload] at hv
  have settled := State.settles_as hv hf.due
  have grown : (s.putReport .log none payload).1.link.queue.length ≤ s.link.queue.length + 1 := putEntry_grows _ _
  have roomAfter : (s.putReport .log none payload).1.link.HasRoom .status := .inl (by omega)
  obtain ⟨e, he, hk, -, hp⟩ := State.putReport_queues (k := .log) (c := none) payload hq (.inl (by omega))
  refine ⟨settled.body_eq, settled.trails.counts.others _ (by decide), e, settled.keeps_in_room roomAfter e he ?_, hk, hp⟩
  rw [hk]
  decide

theorem State.report_log {s : State} {st : Station} {selector : Nat} (h : selector ≤ 16) :
    s.report st selector = s.queueReport .log none
      (if selector = 0 then firstFaultLog s.faults.first s.faults.overflow FaultClass.index
        else classLog selector (s.faults.classes.getD (selector - 1) (ClassState.powerOn .advisory))) := by
  unfold State.report
  by_cases h0 : selector = 0
  · rw [if_pos h0, if_pos h0]
  · rw [if_neg h0, if_neg h0, if_pos h]

theorem FaultClass.index_lt_16 (k : FaultClass) : k.index < 16 := by cases k <;> decide

/-- Settles O54. -/
theorem reportQueuesTheLog : Obligations.ReportQueuesTheLog := by
  intro s τ st target selector a2 hf hq hears hcmd hfree a h queues
  have act := hears.order_acts hcmd τ (o := .report) ((OrderCode.acceptedIn_iff .report hears.1).mpr trivial) selector a2
  have hfaults : h.faults = s.faults := State.heardFrame_faults ..
  have logs : ∀ {payload : List Byte}, selector.toNat ≤ 16 →
      (if selector.toNat = 0 then firstFaultLog s.faults.first s.faults.overflow FaultClass.index
        else classLog selector.toNat (s.faults.classes.getD (selector.toNat - 1) (ClassState.powerOn .advisory))) = payload →
      queues payload := by
    intro payload hle hp
    have reported : h.report st selector.toNat = h.queueReport .log none payload := by
      rw [State.report_log hle, hfaults, hp]
    obtain ⟨hbody, hcls, waits⟩ := State.logged_settles (State.heardFrame_queueOk hq τ _ _ _)
      (by rw [State.heardFrame_queue]; exact hfree) (State.heardFrame_faultsOk (hf.advance τ) _ _ _) (act.trans reported)
    exact ⟨_, rfl, hbody, hcls.trans (congrArg (fun f : FaultUnit => f.cls .malformed) hfaults), waits⟩
  refine ⟨fun f h0 hfirst => logs ?_ ?_, fun h0 hfirst => logs ?_ ?_, fun k _ hk => logs ?_ ?_, fun hlarge => ⟨_, rfl, ?_⟩⟩
  · rw [h0]
    decide
  · rw [if_pos (by rw [h0]; rfl), hfirst]
    obtain ⟨cls, cycle, angle, station, kind, cyl, service⟩ := f
    cases station <;> cases kind <;> rfl
  · rw [h0]
    decide
  · rw [if_pos (by rw [h0]; rfl), hfirst]
    rfl
  · have := k.index_lt_16
    omega
  · have byte : byteOf selector.toNat = selector := (BitVec.ofNat_toNat 8 selector).trans (BitVec.setWidth_eq selector)
    rw [if_neg (by omega)]
    unfold classLog
    rw [byte, hk]
    rfl
  · have malformed : h.report st selector.toNat = h.fault .malformed (some st) (some Kind.order.code) none := by
      unfold State.report
      rw [if_neg (by omega), if_neg (by omega)]
    rw [show (s.advance τ).takeOrderFrame st target 8#8 selector a2 = h.fault .malformed (some st) (some Kind.order.code) none from act.trans malformed]
    exact State.heard_fault_settles (cls := .malformed) hf τ _ _ _ (by decide) (by decide) _ _ _

end Sys2Proof.Machine

/-! # The inputs of the knock channels and the segment result (O37, O42) -/

namespace Sys2Proof.Machine

/-! ## One channel moved -/

theorem State.onChan_congr {s : State} {ch : Chan} {f g : Channel → Channel} (h : f (s.chan ch) = g (s.chan ch)) :
    s.onChan ch f = s.onChan ch g := by
  cases ch
  · exact congrArg (fun c => { s with chanA := c }) h
  · exact congrArg (fun c => { s with chanB := c }) h

theorem State.onChan_of_fixed {s : State} {ch : Chan} {f : Channel → Channel} (h : f (s.chan ch) = s.chan ch) : s.onChan ch f = s := by
  rw [State.onChan_congr (g := id) h]
  cases ch <;> rfl

theorem State.onChan_due (s : State) (ch : Chan) (f : Channel → Channel) : (s.onChan ch f).withdrawDue = s.withdrawDue := by
  cases ch <;> rfl

theorem State.onChan_faultsOk {s : State} (h : s.FaultsOk) (ch : Chan) (f : Channel → Channel) : (s.onChan ch f).FaultsOk := by
  cases ch <;> exact h

theorem ticksFrom_eq_zero (u t : Tick) : ticksFrom u t = 0 ↔ u = t := by
  unfold ticksFrom
  constructor
  · intro h
    have hz : t - u = 0 := BitVec.eq_of_toNat_eq h
    exact (BitVec.sub_eq_iff_eq_add.mp hz).trans (BitVec.zero_add u) |>.symm
  · rintro rfl
    rw [BitVec.sub_self]
    rfl

theorem Channel.sample_of_idle {c : Channel} (h : c.integrator = .idle) (now : Tick) (m : Nat) : c.sample now m = c := by
  unfold Channel.sample
  rw [h]

theorem Channel.sample_at_open {c : Channel} {pos cyl sum n : Nat} {opened : Tick} {clipped : Bool}
    (h : c.integrator = .running pos cyl opened sum n clipped) (m : Nat) : c.sample opened m = c := by
  unfold Channel.sample
  rw [h]
  exact if_pos ((ticksFrom_eq_zero _ _).mpr rfl)

/-- R30: a sample is counted, and summed up to the clip. -/
theorem Channel.sample_running {c : Channel} {pos cyl sum n : Nat} {opened now : Tick} {clipped : Bool}
    (h : c.integrator = .running pos cyl opened sum n clipped) (ho : opened ≠ now) (m : Nat) :
    c.sample now m = { c with
      integrator := .running pos cyl opened (if clipped then sum else min (sum + m) 262143) (n + 1)
        (clipped || decide (262143 < sum + m)) } := by
  unfold Channel.sample
  rw [h]
  dsimp only
  rw [if_neg fun hz => ho ((ticksFrom_eq_zero _ _).mp hz)]
  cases clipped with
  | true => rfl
  | false =>
    by_cases hm : 262143 < sum + m
    · rw [if_neg (by simp), if_pos (show Config.sumLimit < sum + m from hm), if_neg (by simp), min_eq_right hm.le, decide_eq_true hm]
      rfl
    · rw [if_neg (by simp), if_neg (show ¬Config.sumLimit < sum + m from hm), if_neg (by simp), min_eq_left (not_lt.mp hm), decide_eq_false hm]
      rfl

theorem Channel.envelope_eq (v : Nat) (c : Channel) :
    c.envelope v = { c with shockPeak := if c.state = .enabled then max c.shockPeak v else c.shockPeak } := by
  unfold Channel.envelope
  by_cases hs : c.state = .enabled
  · by_cases hv : c.shockPeak < v
    · rw [if_pos ⟨hs, hv⟩, if_pos hs, max_eq_right hv.le]
    · rw [if_neg fun h => hv h.2, if_pos hs, max_eq_left (not_lt.mp hv)]
  · rw [if_neg fun h => hs h.1, if_neg hs]

theorem Channel.levelRises_eq (c : Channel) : c.levelRises = { c with
    levelAbove := some (c.levelAbove.getD 0), openFault := if c.state = .enabled then true else c.openFault,
    qualification := if c.state = .enabled ∧ c.openFault = false then some 20000 else c.qualification } := by
  unfold Channel.levelRises
  by_cases hs : c.state = .enabled
  · by_cases ho : c.openFault = false
    · rw [if_pos ⟨hs, ho⟩, if_pos hs, if_pos ⟨hs, ho⟩]
      rfl
    · rw [if_neg fun h => ho h.2, if_pos hs, if_neg fun h => ho h.2, ← Bool.eq_true_of_not_eq_false ho]
  · rw [if_neg fun h => hs h.1, if_neg hs, if_neg fun h => hs h.1]

theorem Channel.levelFalls_eq (c : Channel) : c.levelFalls = { c with
    levelAbove := none, openFault := if c.state = .enabled ∧ c.qualification ≠ some 0 then false else c.openFault,
    qualification := if c.state = .enabled ∧ c.qualification ≠ some 0 then none else c.qualification } := by
  unfold Channel.levelFalls
  have running : ranOut c.qualification = false ↔ c.qualification ≠ some 0 := by
    rw [← Bool.not_eq_true, ranOut_iff]
  by_cases h : c.state = .enabled ∧ c.qualification ≠ some 0
  · rw [if_pos ⟨h.1, running.mpr h.2⟩, if_pos h, if_pos h]
  · rw [if_neg fun hr => h ⟨hr.1, running.mp hr.2⟩, if_neg h, if_neg h]

/-- Settles O42. -/
theorem knockInputsMoveOneChannel : Obligations.KnockInputsMoveOneChannel := by
  intro s τ ch magnitude envelope hf a c
  have due : ∀ f, (a.onChan ch f).withdrawDue = false := fun f => (a.onChan_due ch f).trans hf.due
  refine ⟨⟨fun hi => ⟨_, rfl, State.settles_as (State.onChan_of_fixed (Channel.sample_of_idle hi _ _)) hf.due⟩,
      fun pos cyl opened sum n clipped hr => ⟨?_, fun ho => ⟨_, rfl, State.settles_as (State.onChan_congr ?_) (due _)⟩⟩⟩,
    ⟨_, rfl, State.settles_as (State.onChan_congr (Channel.envelope_eq _ _)) (due _)⟩,
    ⟨_, rfl, State.settles_as (State.onChan_congr (Channel.levelRises_eq _)) (due _)⟩,
    ⟨_, rfl, State.settles_as (State.onChan_congr (Channel.levelFalls_eq _)) (due _)⟩,
    fun hs hq => ⟨_, rfl, ?_⟩, fun hno => ⟨_, rfl, State.settles_as (if_neg ?_) hf.due⟩⟩
  · rintro rfl
    exact ⟨_, rfl, State.settles_as (State.onChan_of_fixed (Channel.sample_at_open hr _)) hf.due⟩
  · exact Channel.sample_running hr ho _
  · have act : qualificationExpiry ch a = (a.onChan ch Channel.disable).fault .sensorOpen := if_pos ⟨hs, (ranOut_iff _).mpr hq⟩
    obtain ⟨-, hbody, took⟩ := State.fault_settles (State.onChan_faultsOk (hf.advance τ) ch Channel.disable) (k := .sensorOpen)
      (by decide) (by decide) none none none
    rw [show qualificationExpiry ch (s.advance τ) = _ from act]
    refine ⟨hbody, ?_⟩
    have passed : (a.onChan ch Channel.disable).occurrence .sensorOpen none none none = a.occurrence .sensorOpen none none none := by
      cases ch <;> rfl
    have faults : (a.onChan ch Channel.disable).faults = s.faults := by cases ch <;> rfl
    rw [passed, faults, State.advance_occurrence] at took
    exact took
  · rintro ⟨hs, hq⟩
    exact hno.elim (fun h => h hs) fun h => h ((ranOut_iff _).mp hq)

/-! ## The segment result -/

theorem bandOf_eq (edges : List Nat) (rpm : Nat) : bandOf edges rpm = (edges.filter (fun e => decide (e ≤ rpm))).length :=
  List.countP_eq_length_filter

theorem transient_iff (t1 t2 : Nat) : transient t1 t2 = true ↔ t2 < (if t1 ≤ t2 then t2 - t1 else t1 - t2) * 16 := by
  unfold transient
  rw [decide_eq_true_eq]
  split
  · next h => rw [max_eq_right h, min_eq_left h]
  · next h => rw [max_eq_left (by omega), min_eq_right (by omega)]

theorem served_iff (rpm : Nat) : served rpm = true ↔ 400 ≤ rpm ∧ rpm ≤ 10000 := by
  simp [served]

/-- R49: the result of a full history. -/
theorem Estimator.result_full (im : Image) (depth t0 t1 t2 : Nat) :
    ({ depth := depth, t0 := some t0, t1 := some t1, t2 := some t2 } : Estimator).result im
      = { loss := if depth = 3 ∧ transient t1 t2 = false ∧ served (rpmOf im.n t1) = true then some (lossOf t0 t1 t2) else none,
          band := bandOf im.edges (rpmOf im.n t1) } := rfl

/-- R48: the loss is one less than minus 4096 at no time, and is held at 32767. -/
theorem lossOf_bounds {t0 : Nat} {e : Int} (h0 : 1 ≤ t0) (he : 1 ≤ e) :
    -4095 ≤ (((t0 : Int) - e) * 4096).tdiv e
      ∧ (32767 ≤ (((t0 : Int) - e) * 4096).tdiv e ↔ 9 * e * 4096 ≤ (t0 : Int) * 4096 + e) := by
  have hpos : 0 < e := he
  rcases le_total 0 (((t0 : Int) - e) * 4096) with hx | hx
  · rw [Int.tdiv_eq_ediv_of_nonneg hx]
    refine ⟨le_trans (by decide) (Int.ediv_nonneg hx hpos.le), ?_⟩
    rw [Int.le_ediv_iff_mul_le hpos]
    constructor <;> intro h <;> linarith
  · have neg : (((t0 : Int) - e) * 4096).tdiv e = -((e - t0) * 4096 / e) := by
      rw [← Int.tdiv_eq_ediv_of_nonneg (by linarith), ← Int.neg_tdiv]
      congr 1
      ring
    have upper : (e - t0) * 4096 / e < 4096 := by
      rw [Int.ediv_lt_iff_lt_mul hpos]
      have : (1 : Int) ≤ t0 := by exact_mod_cast h0
      linarith
    have lower : 0 ≤ (e - t0) * 4096 / e := Int.ediv_nonneg (by linarith) hpos.le
    rw [neg]
    refine ⟨by omega, ⟨fun h => by omega, fun h => ?_⟩⟩
    linarith

/-- Settles O37. -/
theorem segmentResultFollowsTheHistory : Obligations.SegmentResultFollowsTheHistory := by
  intro im depth t0 t1 t2 hn h0 h1 h2 res rpm trans expected
  have result : res = _ := Estimator.result_full im depth t0 t1 t2
  have band : res.band = (im.edges.filter (fun e => decide (e ≤ rpm))).length := by
    rw [result]
    exact bandOf_eq _ _
  have htrans : transient t1 t2 = true ↔ trans := transient_iff t1 t2
  have hserved : served (rpmOf im.n t1) = true ↔ 400 ≤ rpm ∧ rpm ≤ 10000 := served_iff _
  refine ⟨band, fun h7 => ?_, fun hno => ?_, fun h3 hsteady hlow hhigh => ?_, rfl, rfl, ?_⟩
  · rw [band, ← h7]
    exact List.length_filter_le _ _
  · rw [result]
    refine if_neg ?_
    rintro ⟨h3, ht, hs⟩
    obtain ⟨hlow, hhigh⟩ := hserved.mp hs
    rcases hno with hno | hno | hno | hno
    · exact hno h3
    · rw [htrans.mpr hno] at ht
      cases ht
    · omega
    · omega
  · have steady : ¬t2 < (if t1 ≤ t2 then t2 - t1 else t1 - t2) * 16 := hsteady
    have he : expected = 2 * (t1 : Int) - t2 := rfl
    have bounds : 1 ≤ expected ∧ 14 * (t1 : Int) ≤ 15 * expected ∧ 17 * expected ≤ 18 * (t1 : Int) := by
      split at steady <;> omega
    obtain ⟨lower, held⟩ := lossOf_bounds h0 bounds.1
    have loss : lossOf t0 t1 t2 = min 32767 ((((t0 : Int) - expected) * 4096).tdiv expected) := by
      show max (-32768) _ = _
      exact max_eq_right (le_min (by decide) (le_trans (by decide) lower))
    refine ⟨bounds.1, bounds.2.1, bounds.2.2, lossOf t0 t1 t2, ?_, ?_, ?_, loss, fun heq => ?_, ?_⟩
    · rw [result]
      exact if_pos ⟨h3, Bool.eq_false_iff.mpr fun ht => hsteady (htrans.mp ht), hserved.mpr ⟨hlow, hhigh⟩⟩
    · rw [loss]
      exact le_min (by decide) lower
    · rw [loss]
      exact min_le_left _ _
    · rw [loss, heq, sub_self, zero_mul, Int.zero_tdiv]
      rfl
    · rw [loss, min_eq_left_iff, held]
  · rw [result]
    rfl

end Sys2Proof.Machine

/-! # The line monitor and the dwell (O55, O58) -/

namespace Sys2Proof.Machine

theorem State.onLine_of_reading {s : State} (h : s.node.state ≠ .loading) (f : State → State) : s.onLine f = f s := if_neg h

theorem State.onLine_of_loading {s : State} (h : s.node.state = .loading) (f : State → State) : s.onLine f = s := if_pos h

theorem Link.dominantInIdle_of_idle {l : Link} (h : l.receiver = .idle) : l.dominantInIdle = { l with
    dominantRun := min (l.dominantRun + 1) 13, recessiveRun := 0,
    receiver := if l.recessiveRun < 11 then .discarding else .assembling } := if_pos h

/-- Settles O55. -/
theorem lineMonitorCountsTheRuns : Obligations.LineMonitorCountsTheRuns := by
  intro s τ cell hf a l stuck
  refine ⟨fun hn => ⟨⟨_, rfl, ?_⟩, fun hi => ⟨_, rfl, ?_⟩, fun hi => ⟨_, rfl, ?_⟩, fun hi => ⟨_, rfl, ?_⟩, fun hi => ⟨_, rfl, ?_⟩⟩,
    fun hn c hc => ?_⟩
  · exact State.settles_as (State.onLine_of_reading (s := a) hn _) hf.due
  · refine State.settles_as ((State.onLine_of_reading (s := a) hn _).trans ?_) hf.due
    exact congrArg (fun l => { a with link := l }) (Link.dominantInIdle_of_idle hi)
  · refine State.settles_as ((State.onLine_of_reading (s := a) hn _).trans ?_) hf.due
    exact congrArg (fun l => { a with link := l }) (if_neg hi : a.link.dominantInIdle = a.link)
  · have act : a.onLine stuckLine = (a.onLink Link.stick).fault .stuckLine :=
      (State.onLine_of_reading (s := a) hn _).trans (if_neg (by rw [show a.link.inhibit = false from hi]; decide))
    obtain ⟨-, hbody, took⟩ := State.fault_settles (s := a.onLink Link.stick) (hf.advance τ) (k := .stuckLine) (by decide) (by decide) none none none
    rw [show (s.advance τ).onLine stuckLine = _ from act]
    refine ⟨hbody, ?_⟩
    rw [show (a.onLink Link.stick).occurrence .stuckLine none none none = _ from s.advance_occurrence τ .stuckLine none none none] at took
    exact took
  · exact State.settles_as ((State.onLine_of_reading (s := a) hn _).trans (if_pos hi)) hf.due
  · simp only [List.mem_cons, List.not_mem_nil, or_false] at hc
    rcases hc with rfl | rfl | rfl | rfl | rfl | rfl | rfl | rfl <;>
      exact ⟨_, rfl, State.settles_as (State.onLine_of_loading (s := a) hn _) hf.due⟩

/-! ## The dwell -/

theorem State.startListen_of_not_locked {s : State} (h : s.link.acq ≠ some .locked) : s.startListen = s := if_neg fun hl => h hl.2.1

theorem State.startListen_of_locked {s : State} (h : s.link.acq = some .locked) : s.startListen = s.onNode (fun n => { n with
    listen := if n.state = .joining ∧ n.listen = none then some (2 * (s.params.statusMs * 20000)) else n.listen }) := by
  unfold State.startListen State.onNode
  dsimp only
  by_cases hj : s.node.state = .joining ∧ s.node.listen = none
  · rw [if_pos ⟨hj.1, h, hj.2⟩, if_pos hj]
    rfl
  · rw [if_neg fun hl => hj ⟨hl.1, hl.2.2⟩, if_neg hj]

theorem Receiver.drop_eq (r : Receiver) : r.drop = if r = .assembling then .discarding else r := by
  cases r <;> rfl

/-- R143: the hunt goes on to the next rate, with a round counted at the last of them. -/
theorem Link.dwellInHunt_next {l : Link} (h : l.rate ≠ some .k125 ∨ l.rounds < 9) :
    l.dwellInHunt = { l.huntNext with
      receiver := l.receiver.drop, rounds := if l.rate = some .k125 then l.rounds + 1 else l.rounds } := by
  unfold Link.dwellInHunt
  by_cases hr : l.rate = some .k125
  · have hlt : ¬10 ≤ l.rounds + 1 := by
      have := h.resolve_left fun hn => hn hr
      omega
    rw [if_pos hr, if_neg hlt, if_pos hr]
  · rw [if_neg hr, if_neg hr]
    rfl

/-- R143: the tenth round ends the hunt. -/
theorem Link.dwellInHunt_last {l : Link} (hr : l.rate = some .k125) (h : l.rounds = 9) :
    l.dwellInHunt = { l with rate := l.fallback, rounds := 0, acq := some .locked, dwell := none, receiver := l.receiver.drop } := by
  unfold Link.dwellInHunt
  rw [if_pos hr, if_pos (by omega)]

theorem dwellTimerExpiry_hunt {s : State} (hd : s.link.dwell = some 0) (ha : s.link.acq = some .hunt) :
    dwellTimerExpiry s = (s.onLink Link.dwellInHunt).startListen := by
  unfold dwellTimerExpiry
  rw [if_pos ((ranOut_iff _).mpr hd), ha]

/-- Settles O58. -/
theorem dwellEndHuntsOn : Obligations.DwellEndHuntsOn := by
  intro s τ hw hn a l dropped next
  have reads := State.onLine_of_reading (s := a) hn dwellTimerExpiry
  have drop : l.receiver.drop = dropped := Receiver.drop_eq _
  refine ⟨fun hno => ⟨_, rfl, State.settles_as (reads.trans ?_) hw⟩, fun hd ha hr => ⟨_, rfl, State.settles_as (reads.trans ?_) hw⟩,
    fun hd ha hr h9 => ⟨_, rfl, State.settles_as (reads.trans ?_) hw⟩, fun hd ha => ⟨_, rfl, State.settles_as (reads.trans ?_) hw⟩⟩
  · unfold dwellTimerExpiry
    rcases hno with hd | ha
    · exact if_neg fun h => hd ((ranOut_iff _).mp h)
    · rw [show a.link.acq = some .locked from ha]
      split <;> rfl
  · rw [dwellTimerExpiry_hunt hd ha]
    have hunts := Link.dwellInHunt_next (l := l) hr
    rw [State.startListen_of_not_locked]
    · show { a with link := l.dwellInHunt } = _
      rw [hunts, drop]
      rfl
    · show l.dwellInHunt.acq ≠ _
      rw [hunts]
      exact fun h => Acq.noConfusion (Option.some.inj h)
  · rw [dwellTimerExpiry_hunt hd ha]
    have locks := Link.dwellInHunt_last (l := l) hr h9
    rw [State.startListen_of_locked]
    · show { a with link := l.dwellInHunt, node := _ } = _
      rw [locks, drop]
      rfl
    · show l.dwellInHunt.acq = _
      rw [locks]
  · unfold dwellTimerExpiry
    rw [if_pos ((ranOut_iff _).mpr hd), show a.link.acq = some .confirm from ha]
    rfl

end Sys2Proof.Machine

/-! # The node's own frame begun and sent (O56) -/

namespace Sys2Proof.Machine

/-! ## Sums of flags (R169) -/

/-- The flags of the first `n` places as a number. -/
def flagSum (f : Nat → Bool) (n : Nat) : Nat := ((List.range n).map (fun i => bitAt i (f i))).sum

theorem flagSum_succ (f : Nat → Bool) (n : Nat) : flagSum f (n + 1) = bitAt n (f n) + flagSum f n := by
  unfold flagSum
  rw [List.range_succ, List.map_append, List.sum_append, List.map_singleton, List.sum_singleton, Nat.add_comm]

theorem flagSum_lt (f : Nat → Bool) (n : Nat) : flagSum f n < 2 ^ n := by
  induction n with
  | zero => exact Nat.one_pos
  | succ n ih =>
    rw [flagSum_succ, Nat.pow_succ]
    unfold bitAt
    split <;> omega

theorem flagSum_testBit (f : Nat → Bool) {n i : Nat} (hi : i < n) : (flagSum f n).testBit i = f i := by
  induction n with
  | zero => cases hi
  | succ n ih =>
    rw [flagSum_succ]
    have low := flagSum_lt f n
    rcases Nat.lt_succ_iff_lt_or_eq.mp hi with hlt | rfl
    · rw [← ih hlt]
      unfold bitAt
      split
      · exact Nat.testBit_two_pow_add_gt hlt _
      · rw [Nat.zero_add]
    · unfold bitAt
      split
      · next h => rw [Nat.testBit_two_pow_add_eq, Nat.testBit_lt_two_pow low, h]; rfl
      · next h => rw [Nat.zero_add, Nat.testBit_lt_two_pow low, Bool.eq_false_iff.mpr h]

theorem byteOf_toNat {n : Nat} (h : n < 256) : (byteOf n).toNat = n := Nat.mod_eq_of_lt h

theorem byteOf_getLsbD (n : Nat) {i : Nat} (h : i < 8) : (byteOf n).getLsbD i = n.testBit i := by
  rw [byteOf, BitVec.getLsbD_ofNat, decide_eq_true h, Bool.true_and]

/-! ## The contents of a STATUS (R169) -/

/-- The hold and its cause in byte 1 of a STATUS. -/
def holdCode : Option ShockHold → Nat
  | none => 0
  | some h => match h.cause with
    | .ownShock => 32
    | .station st => 32 + 16 + st.val

theorem holdCode_le (h : Option ShockHold) : holdCode h ≤ 63 := by
  unfold holdCode
  split
  · decide
  · split
    · decide
    · next st _ =>
      have := st.isLt
      omega

theorem holdCode_elapse (c : Context) (d : Nat) : holdCode (c.elapse d).hold = holdCode c.hold := by
  unfold Context.elapse
  cases c.hold <;> rfl

section Payload
variable (s : State)

theorem State.statusPayload_head : (s.statusPayload.getD 0 0).toNat = s.node.state.code * 32 + s.faults.service.code * 8
    + s.tracker.sync.code * 2 + (if 4 < s.context.freshness then 1 else 0) := by
  have hn : s.node.state.code ≤ 6 := by cases s.node.state <;> decide
  have hs : s.faults.service.code ≤ 2 := by cases s.faults.service <;> decide
  have ht : s.tracker.sync.code ≤ 3 := by cases s.tracker.sync <;> decide
  have stale : bitAt 0 s.context.stale = if 4 < s.context.freshness then 1 else 0 := by
    simp [bitAt, Context.stale]
  show (byteOf (_ + bitAt 0 s.context.stale)).toNat = _
  rw [stale]
  exact byteOf_toNat (by split <;> omega)

theorem State.statusPayload_hold (hl : s.link.acq = some .locked) : (s.statusPayload.getD 1 0).toNat = 2 * 64 + holdCode s.context.hold := by
  have byte : s.statusByte1 = 2 * 64 + holdCode s.context.hold := by
    unfold State.statusByte1
    rw [hl]
    rfl
  show (byteOf s.statusByte1).toNat = _
  rw [← byte]
  refine byteOf_toNat ?_
  rw [byte]
  have := holdCode_le s.context.hold
  omega

theorem State.statusPayload_latches (x : AlertSource) : (s.statusPayload.getD 3 0).getLsbD x.index = (s.alert.src x).latch := by
  have hx := x.index_lt
  show (byteOf (flagSum (fun i => (s.alert.sources.getD i SourceState.powerOn).latch) 8)).getLsbD x.index = _
  rw [byteOf_getLsbD _ hx, flagSum_testBit _ hx]
  rfl

theorem State.statusPayload_faults (k : FaultClass) :
    (s.statusPayload.getD (5 - k.index / 8) 0).getLsbD (k.index % 8) = (s.faults.cls k).status := by
  have hk := k.index_lt_16
  have bit := flagSum_testBit (fun i => (s.faults.classes.getD i (ClassState.powerOn .advisory)).status) hk
  by_cases low : k.index < 8
  · rw [Nat.div_eq_of_lt low, Nat.mod_eq_of_lt low]
    exact (byteOf_getLsbD _ low).trans bit
  · have hdiv : k.index / 8 = 1 := by omega
    have hmod : k.index % 8 = k.index - 8 := by omega
    rw [hdiv, hmod]
    have byte : s.statusPayload.getD (5 - 1) 0 = byteOf (s.faults.statusWord / 256) := rfl
    rw [byte, byteOf_getLsbD _ (by omega), show 256 = 2 ^ 8 from rfl, Nat.testBit_div_two_pow, Nat.sub_add_cancel (by omega)]
    exact bit

theorem Role.judges_iff (r : Role) : r.judges = decide (r = .owner ∨ r = .deputyActive) := by
  cases r <;> rfl

theorem State.statusPayload_roles {c : Nat} (hc : c ∈ allCylinders) : (s.statusPayload.getD 6 0).getLsbD (c - 1)
    = decide ((s.cyl c).role = .owner ∨ (s.cyl c).role = .deputyActive) := by
  obtain ⟨lo, hi⟩ := mem_allCylinders.mp hc
  show (byteOf (flagSum (fun i => (s.cyl (i + 1)).role.judges) 8)).getLsbD (c - 1) = _
  rw [byteOf_getLsbD _ (by omega), flagSum_testBit _ (by omega), Nat.sub_add_cancel lo, Role.judges_iff]

theorem State.statusPayload_first : (s.statusPayload.getD 7 0).toNat
    = (match s.faults.first with | some f => 128 + f.cls.index | none => 0) + (if s.faults.overflow then 64 else 0) := by
  show (byteOf (match s.faults.first with | none => _ | some f => _)).toNat = _
  unfold bitAt
  cases s.faults.first with
  | none =>
    have byte : (byteOf (if s.faults.overflow = true then 2 ^ 6 else 0)).toNat = if s.faults.overflow = true then 2 ^ 6 else 0 :=
      byteOf_toNat (by split <;> omega)
    exact byte.trans (Nat.zero_add _).symm
  | some f =>
    have := f.cls.index_lt_16
    have sum : (byteOf (128 + (if s.faults.overflow = true then 2 ^ 6 else 0) + f.cls.index)).toNat
        = 128 + (if s.faults.overflow = true then 2 ^ 6 else 0) + f.cls.index := byteOf_toNat (by split <;> omega)
    refine sum.trans ?_
    show _ = 128 + f.cls.index + (if s.faults.overflow = true then 2 ^ 6 else 0)
    omega

end Payload

/-! ## The beginning of a transmission (R139) -/

theorem find?_permitted {p : TxEntry → Bool} {before after : List TxEntry} {e : TxEntry} (hb : ∀ x ∈ before, p x = false) (he : p e = true) :
    (before ++ e :: after).find? p = some e ∧ (before ++ e :: after).erase e = before ++ after := by
  have hnot : e ∉ before := fun h => Bool.noConfusion ((hb e h).symm.trans he)
  refine ⟨?_, ?_⟩
  · rw [List.find?_append, List.find?_eq_none.mpr fun x hx => by simp [hb x hx], List.find?_cons, he]
    rfl
  · rw [List.erase_append_right _ hnot, List.erase_cons_head]

theorem Link.begin_eq (e : TxEntry) (p : List Byte) (l : Link) : l.begin e p = { l with
    queue := l.queue.erase e, dominantRun := 1, recessiveRun := 0, receiver := .assembling,
    transmitter := .arbitrating { e with payload := p } false (10 * ((l.rate.map Rate.cellTicks).getD 0)) } := rfl

theorem transmissionBegin_of_ready {s : State} (hb : s.link.mayBegin = true) {before after : List TxEntry} {e : TxEntry}
    (hq : s.link.queue = before ++ e :: after) (hno : ∀ x ∈ before, s.node.state.permits x.kind = false)
    (he : s.node.state.permits e.kind = true) :
    transmissionBegin s = { s with link := { s.link with
      queue := before ++ after, dominantRun := 1, recessiveRun := 0, receiver := .assembling,
      transmitter := .arbitrating { e with payload := if e.kind = .status then s.statusPayload else e.payload } false
        (10 * ((s.link.rate.map Rate.cellTicks).getD 0)) } } := by
  obtain ⟨hfind, herase⟩ := find?_permitted (p := fun x => s.node.state.permits x.kind) (after := after) hno he
  unfold transmissionBegin
  rw [if_pos hb, hq, hfind]
  dsimp only [State.onLink]
  rw [Link.begin_eq, hq, herase]

theorem transmissionBegin_of_not_ready {s : State} (h : s.link.mayBegin = false ∨ ∀ x ∈ s.link.queue, s.node.state.permits x.kind = false) :
    transmissionBegin s = s := by
  unfold transmissionBegin
  split
  · next hb =>
    have hno := h.resolve_left fun hf => Bool.noConfusion (hf.symm.trans hb)
    rw [List.find?_eq_none.mpr fun x hx => by simp [hno x hx]]
  · rfl

theorem cellTicks_eq (r : Option Rate) : (r.map Rate.cellTicks).getD 0 = match r with
    | some .k125 => 160 | some .k250 => 80 | some .k500 => 40 | some .k1000 => 20 | none => 0 := by
  cases r with
  | none => rfl
  | some r => cases r <;> rfl

/-! ## The end of a transmission -/

theorem Link.readCells_append (xs ys : List Bool) (l : Link) : l.readCells (xs ++ ys) = (l.readCells xs).readCells ys := List.foldl_append

theorem Link.readCells_recessiveRun_le (cells : List Bool) (l : Link) :
    (l.readCells cells).recessiveRun ≤ l.recessiveRun + cells.length := by
  induction cells generalizing l with
  | nil => exact le_rfl
  | cons c cells ih =>
    have step : (l.readCell c).recessiveRun ≤ l.recessiveRun + 1 := by
      cases c
      · exact Nat.zero_le _
      · exact min_le_left _ _
    have rest := ih (l.readCell c)
    rw [List.length_cons]
    show ((l.readCell c).readCells cells).recessiveRun ≤ _
    omega

/-- R134: a character ends with its stop cell, after its start cell and eight data cells. -/
theorem Link.readCells_char (b : Byte) (l : Link) :
    (l.readCells (charCells b)).dominantRun = 0 ∧ 1 ≤ (l.readCells (charCells b)).recessiveRun
      ∧ (l.readCells (charCells b)).recessiveRun ≤ 9 := by
  let data := [b.getLsbD 7, b.getLsbD 6, b.getLsbD 5, b.getLsbD 4, b.getLsbD 3, b.getLsbD 2, b.getLsbD 1, b.getLsbD 0]
  have parts : l.readCells (charCells b) = ((l.readCell false).readCells data).readCell true := rfl
  have upTo : ((l.readCell false).readCells data).recessiveRun ≤ 0 + 8 := Link.readCells_recessiveRun_le data (l.readCell false)
  rw [parts]
  refine ⟨rfl, ?_, ?_⟩
  · exact le_min (Nat.succ_le_succ (Nat.zero_le _)) (by decide)
  · exact (min_le_left _ _).trans (by omega)

theorem Link.readFrame_frameChars (k : Kind) (st : Station) (p : List Byte) (l : Link) :
    (l.readFrame (frameCells (frameChars k st p))).dominantRun = 0
      ∧ 1 ≤ (l.readFrame (frameCells (frameChars k st p))).recessiveRun
      ∧ (l.readFrame (frameCells (frameChars k st p))).recessiveRun ≤ 9 := by
  unfold Link.readFrame frameChars frameCells
  rw [List.flatMap_append, Link.readCells_append, List.flatMap_singleton]
  exact Link.readCells_char _ _

theorem Link.goodFrame_runs (l : Link) : l.goodFrame.dominantRun = l.dominantRun ∧ l.goodFrame.recessiveRun = l.recessiveRun := by
  unfold Link.goodFrame
  split
  · exact ⟨rfl, rfl⟩
  · exact ⟨rfl, rfl⟩
  · split <;> exact ⟨rfl, rfl⟩
  · exact ⟨rfl, rfl⟩

theorem Link.goodFrame_of_locked {l : Link} (h : l.acq = some .locked) : l.goodFrame = { l with failures := 0 } := by
  unfold Link.goodFrame
  rw [h]

theorem State.startListen_link (s : State) : s.startListen.link = s.link := by
  unfold State.startListen
  split <;> rfl

theorem State.startListen_node {s : State} (h : s.node.state ≠ .joining) : s.startListen = s := if_neg fun hl => h hl.1

theorem transmissionEnd_of_entry {s : State} {e : TxEntry} (h : s.link.transmitter.entry = some e) : transmissionEnd s = s.endOwnFrame e := by
  unfold transmissionEnd
  cases ht : s.link.transmitter with
  | idle => rw [ht] at h; cases h
  | arbitrating e' removed left => rw [ht] at h; cases h; rfl
  | sending e' => rw [ht] at h; cases h; rfl

theorem State.startListen_frame (s : State) : s.startListen = { s with node := { s.node with listen := s.startListen.node.listen } } := by
  unfold State.startListen
  split <;> rfl

/-- What the end of the node's own frame moves. -/
theorem State.endOwnFrame_frame (s : State) (e : TxEntry) : s.endOwnFrame e = { s with
    link := (s.endOwnFrame e).link, node := { s.node with listen := (s.endOwnFrame e).node.listen } } := by
  have frame := State.startListen_frame ((s.onLink (fun l => { l.readFrame (frameCells (s.ownFrame e)) with
    transmitter := .idle, receiver := if l.receiver = .assembling then .idle else l.receiver })).onLink Link.goodFrame)
  unfold State.endOwnFrame State.goodFrame
  rw [frame]
  rfl

theorem State.endOwnFrame_link (s : State) (e : TxEntry) : (s.endOwnFrame e).link
    = Link.goodFrame { s.link.readFrame (frameCells (s.ownFrame e)) with
        transmitter := .idle, receiver := if s.link.receiver = .assembling then .idle else s.link.receiver } := by
  unfold State.endOwnFrame State.goodFrame
  rw [State.startListen_link]
  rfl

theorem State.endOwnFrame_node {s : State} (h : s.node.state ≠ .joining) (e : TxEntry) : (s.endOwnFrame e).node = s.node := by
  unfold State.endOwnFrame State.goodFrame
  rw [State.startListen_node (by exact h)]
  rfl

/-- R139, R144: the end of the node's own frame, with the level brought up to date. -/
theorem State.endOwnFrame_settles {a v : State} {e : TxEntry} (act : v = a.endOwnFrame e) (hw : a.withdrawDue = false) :
    v.settle.link.transmitter = .idle
      ∧ v.settle.link.receiver = (if a.link.receiver = .assembling then .idle else a.link.receiver)
      ∧ v.settle.link.dominantRun = 0 ∧ 1 ≤ v.settle.link.recessiveRun ∧ v.settle.link.recessiveRun ≤ 9
      ∧ (a.link.acq = some .locked → v.settle.link.failures = 0 ∧ v.settle.link.acq = some .locked)
      ∧ (a.node.state ≠ .joining → v.settle.node = a.node)
      ∧ v.settle.peers = a.peers ∧ v.settle.context = a.context ∧ v.settle.cylinders = a.cylinders ∧ v.settle.records = a.records := by
  have frame := a.endOwnFrame_frame e
  have hb := (State.settles_as act ((congrArg State.withdrawDue frame).trans hw)).body_eq
  have hlink := a.endOwnFrame_link e
  obtain ⟨cells, runs, e'⟩ := Link.readFrame_keeps (frameCells (a.ownFrame e)) a.link
  obtain ⟨dom, lo, hi⟩ := Link.readFrame_frameChars e.kind a.station e.payload a.link
  obtain ⟨hdom, hrec⟩ := Link.goodFrame_runs { a.link.readFrame (frameCells (a.ownFrame e)) with
    transmitter := .idle, receiver := if a.link.receiver = .assembling then .idle else a.link.receiver }
  obtain ⟨-, -, htx, hrx⟩ := Link.goodFrame_queue { a.link.readFrame (frameCells (a.ownFrame e)) with
    transmitter := .idle, receiver := if a.link.receiver = .assembling then .idle else a.link.receiver }
  rw [← hlink] at hdom hrec htx hrx
  refine ⟨(State.body_transmitter hb).trans htx, (State.body_linkPart hb Link.receiver fun _ => rfl).trans hrx,
    (State.body_linkPart hb Link.dominantRun fun _ => rfl).trans (hdom.trans dom), ?_, ?_, fun ha => ?_,
    fun hj => (State.body_node hb).trans (State.endOwnFrame_node hj e), (State.body_peers hb).trans ((congrArg State.peers frame).trans rfl),
    (State.body_context hb).trans ((congrArg State.context frame).trans rfl),
    (State.body_cylinders hb).trans ((congrArg State.cylinders frame).trans rfl),
    (State.body_records hb).trans ((congrArg State.records frame).trans rfl)⟩
  · rw [State.body_linkPart hb Link.recessiveRun fun _ => rfl, hrec]
    exact lo
  · rw [State.body_linkPart hb Link.recessiveRun fun _ => rfl, hrec]
    exact hi
  · rw [Link.goodFrame_of_locked (by rw [e']; exact ha)] at hlink
    have failures := State.body_linkPart hb Link.failures fun _ => rfl
    have acq := State.body_acq hb
    rw [hlink] at failures acq
    refine ⟨failures, acq.trans ?_⟩
    rw [e']
    exact ha

/-- Settles O56. -/
theorem transmissionTakesTheFirstPermitted : Obligations.TransmissionTakesTheFirstPermitted := by
  intro s τ before after e hw hn a n permitted ready cell
  have reads := fun f => State.onLine_of_reading (s := a) hn f
  have permits : ∀ k, a.node.state.permits k = true ↔ permitted k := fun k => NodeState.permits_iff _ _
  have forbids : ∀ k, ¬permitted k → a.node.state.permits k = false := fun k h => Bool.eq_false_iff.mpr fun hp => h ((permits k).mp hp)
  have begins : a.link.mayBegin = true ↔ ready := Link.mayBegin_iff _
  refine ⟨fun hr hq hb he => ⟨_, if e.kind = .status then a.statusPayload else e.payload, rfl, State.settles_as ((reads _).trans ?_) hw,
      fun hk => if_neg hk, fun hk => ?_⟩, fun hno => ⟨_, rfl, State.settles_as ((reads _).trans (transmissionBegin_of_not_ready ?_)) hw⟩,
    fun he => ⟨_, rfl, ?_⟩, fun hi => ⟨_, rfl, State.settles_as ((reads _).trans ?_) hw⟩⟩
  · rw [transmissionBegin_of_ready (begins.mpr hr) hq (fun x hx => forbids _ (hb x hx)) ((permits _).mpr he), cellTicks_eq]
    rfl
  · rw [if_pos hk]
    have head := a.statusPayload_head
    rw [State.advance_sync] at head
    have hold := a.statusPayload_hold hr.1
    rw [show holdCode a.context.hold = holdCode s.context.hold from holdCode_elapse _ _] at hold
    refine ⟨rfl, head, hold.trans ?_, rfl, fun _ x _ => a.statusPayload_latches x, fun _ k _ => a.statusPayload_faults k,
      fun c hc => a.statusPayload_roles hc, a.statusPayload_first⟩
    unfold holdCode
    cases s.context.hold <;> rfl
  · rcases hno with hno | hno
    · exact .inl (Bool.eq_false_iff.mpr fun hb => hno (begins.mp hb))
    · exact .inr fun x hx => forbids _ (hno x hx)
  · have act : (s.advance τ).onLine transmissionEnd = a.endOwnFrame e := (reads _).trans (transmissionEnd_of_entry he)
    obtain ⟨tx, rx, dom, lo, hi, good, node, peers, context, cylinders, records⟩ := State.endOwnFrame_settles act hw
    exact ⟨tx, rx, dom, lo, hi, good, node, peers, context, cylinders, records⟩
  · unfold transmissionEnd
    rw [hi]

end Sys2Proof.Machine

/-! # CLASH, and the cells at which the node's own frame is lost (O57) -/

namespace Sys2Proof.Machine

/-! ## A CLASH and the end of its event -/

/-- R151: a withdrawal moves of the link only the queue, where no frame of the node's own is under way. -/
theorem State.carryWithdrawal_bare {s : State} (h : s.link.transmitter = .idle) : s.carryWithdrawal.link.bare = s.link.bare := by
  rcases s.carryWithdrawal_cases with ⟨-, e⟩ | ⟨-, e⟩ | ⟨-, e⟩ <;> rw [e]
  · rfl
  · rw [State.enterWithdrawn_link]
    show (s.link.removeEntries purgedByWithdrawal).bare = _
    rw [Link.removeEntries_of_idle h]
    rfl

/-- The blocks that a withdrawal leaves alone. -/
theorem State.carryWithdrawal_keeps (s : State) : s.carryWithdrawal.tracker = s.tracker ∧ s.carryWithdrawal.peers = s.peers
    ∧ s.carryWithdrawal.context = s.context ∧ s.carryWithdrawal.estimator = s.estimator := by
  rcases s.carryWithdrawal_cases with ⟨-, e⟩ | ⟨-, e⟩ | ⟨-, e⟩ <;> rw [e]
  · exact ⟨rfl, rfl, rfl, rfl⟩
  · exact ⟨rfl, rfl, rfl, rfl⟩
  · obtain ⟨cs, a, h⟩ := (s.setWithdrawDue false).enterWithdrawn_eq
    rw [h]
    exact ⟨rfl, rfl, rfl, rfl⟩

theorem State.settle_trails (s : State) : s.carryWithdrawal.TrailsTo s.settle := (State.updateService_settled _).trails

theorem State.withdrawDue_handOffs : State.HandOffs (fun s => s.withdrawDue = true) where
  put _ _ h := h
  raise _ _ h := h
  count _ _ h := h
  first _ _ _ h := h
  overflow _ h := h
  due _ _ := rfl

/-- R151: an unmasked occurrence of a WITHDRAWING class passes a withdrawal. -/
theorem State.occur_passes_withdrawal {s : State} {o : Occurrence} (hs : (s.faults.cls o.cls).severity = .withdrawing)
    (hm : (s.faults.cls o.cls).mask = false) : (s.occur o).withdrawDue = true := by
  have taken : (s.takeOccurrence o).1.withdrawDue = true := by
    rw [s.takeOccurrence_due o, hs, hm]
    simp
  exact State.HandOffs.foldl (P := fun s => s.withdrawDue = true) (f := fun s o => (s.takeOccurrence o).1) (fun _ o h => State.withdrawDue_handOffs.takeOccurrence o h) _ taken

/-- R141, R142, R151: CLASH passed at the end of an event, with no frame of the node's own under way. -/
theorem State.clash_settles {u v : State} (hf : u.FaultsOk) (hidle : u.link.transmitter = .idle) {st k : _}
    (act : v = u.fault .clash st k none) :
    FaultUnit.Took (u.occurrence .clash st k none) u.faults v.settle.faults
      ∧ v.settle.link.bare = u.link.bare
      ∧ v.settle.tracker = u.tracker ∧ v.settle.peers = u.peers ∧ v.settle.context = u.context ∧ v.settle.estimator = u.estimator
      ∧ ((u.faults.cls .clash).severity ≠ .withdrawing ∨ (u.faults.cls .clash).mask = true → v.settle.body = u.body)
      ∧ ((u.faults.cls .clash).severity = .withdrawing → (u.faults.cls .clash).mask = false →
          u.node.state = .running ∨ u.node.state = .hold →
          v.settle.node = { u.node with state := .withdrawn, probe := none, listen := none }
            ∧ (∀ r ∈ v.settle.records, r = none) ∧ (∀ ch, v.settle.chan ch = { u.chan ch with integrator := .idle })
            ∧ v.settle.link.Reduced) := by
  let o := u.occurrence .clash st k none
  have hbody : v.body = u.body := by rw [act]; exact u.fault_body _ _ _ _
  have took : FaultUnit.Took o u.faults v.carryWithdrawal.faults := by
    rw [State.carryWithdrawal_faults, act]
    exact State.fault_took hf.sound.length (by decide) st k none
  have trail := v.settle_trails
  obtain ⟨tracker, peers, context, estimator⟩ := v.carryWithdrawal_keeps
  have htx : v.link.transmitter = .idle := (State.body_transmitter hbody).trans hidle
  refine ⟨took.trail (by show FaultClass.clash ≠ _; decide) trail,
    (State.body_link trail.body).trans ((State.carryWithdrawal_bare htx).trans (State.body_link hbody)),
    (State.body_tracker trail.body).trans (tracker.trans (State.body_tracker hbody)),
    (State.body_peers trail.body).trans (peers.trans (State.body_peers hbody)),
    (State.body_context trail.body).trans (context.trans (State.body_context hbody)),
    (State.body_estimator trail.body).trans (estimator.trans (State.body_estimator hbody)), fun hw => ?_, fun hs hm hn => ?_⟩
  · have due : v.withdrawDue = false := by rw [act]; exact State.occur_due (o := o) hf hw
    exact (State.settle_settled v due).body_eq.trans hbody
  · have due : v.withdrawDue = true := by rw [act]; exact State.occur_passes_withdrawal (o := o) hs hm
    have sound : v.faults.Sound := by rw [act]; exact State.sound_handOffs.occur o hf.sound
    have hnode : v.node = u.node := State.body_node hbody
    obtain ⟨node, -, records, chans, reduced, -⟩ := State.settle_of_due due sound (by rw [hnode]; tauto)
    rw [hnode] at node
    exact ⟨node, records, fun ch => (chans ch).trans (by rw [State.body_chan hbody]), reduced⟩

/-! ## The runs of the line monitor (R142) -/

/-- The cells at the end of a run of cells that have the level of its last ones. -/
def runOf (cells : List Bool) (level : Bool) : Nat := (cells.reverse.takeWhile (fun c => c == level)).length

theorem runOf_append (cells : List Bool) (c level : Bool) :
    runOf (cells ++ [c]) level = if c = level then runOf cells level + 1 else 0 := by
  unfold runOf
  rw [List.reverse_append, List.reverse_singleton, List.singleton_append, List.takeWhile_cons]
  by_cases h : c = level
  · rw [if_pos (by simpa using h), if_pos h, List.length_cons]
  · rw [if_neg (by simpa using h), if_neg h]
    rfl

theorem Link.readCells_dominantRun {l : Link} (h : l.dominantRun = 0) (cells : List Bool) :
    (l.readCells cells).dominantRun = min (runOf cells false) 13 := by
  induction cells using List.reverseRecOn with
  | nil => exact h
  | append_singleton cells c ih =>
    rw [Link.readCells_append, runOf_append]
    cases c
    · rw [if_pos rfl]
      show min ((l.readCells cells).dominantRun + 1) 13 = _
      omega
    · rfl

theorem Link.readCells_recessiveRun {l : Link} {cells : List Bool} (h : false ∈ cells) :
    (l.readCells cells).recessiveRun = min (runOf cells true) 11 := by
  induction cells using List.reverseRecOn with
  | nil => cases h
  | append_singleton cells c ih =>
    rw [Link.readCells_append, runOf_append]
    cases c
    · rfl
    · have before := ih ((List.mem_append.mp h).resolve_right (by simp))
      rw [if_pos rfl]
      show min ((l.readCells cells).recessiveRun + 1) 11 = _
      omega

/-- A run ends at the latest cell of the other level. -/
theorem runOf_le {cells : List Bool} {level : Bool} {i : Nat} (h : cells[i]? = some (!level)) : runOf cells level ≤ cells.length - 1 - i := by
  induction cells using List.reverseRecOn with
  | nil => cases h
  | append_singleton cells c ih =>
    rw [runOf_append, List.length_append, List.length_singleton]
    by_cases hc : c = level
    · have hi : i < cells.length := by
        by_contra hge
        rw [List.getElem?_append_right (by omega)] at h
        obtain ⟨h0, h1⟩ := List.getElem?_eq_some_iff.mp h
        have : i - cells.length = 0 := by
          have := h0
          rw [List.length_singleton] at this
          omega
        simp only [this, List.getElem_singleton] at h1
        rw [hc] at h1
        cases level <;> cases h1
      rw [List.getElem?_append_left hi] at h
      have := ih h
      rw [if_pos hc]
      omega
    · rw [if_neg hc]
      exact Nat.zero_le _

/-- R134: the start cell and the stop cell of a character. -/
theorem frameCells_start {chars : List Byte} {q : Nat} (hq : q < chars.length) :
    (frameCells chars)[10 * q]? = some false ∧ (frameCells chars)[10 * q + 9]? = some true := by
  induction chars generalizing q with
  | nil => cases hq
  | cons b chars ih =>
    have cells : frameCells (b :: chars) = charCells b ++ frameCells chars := List.flatMap_cons
    rw [cells]
    cases q with
    | zero => exact ⟨rfl, rfl⟩
    | succ q =>
      obtain ⟨hstart, hstop⟩ := ih (Nat.lt_of_succ_lt_succ hq)
      have len : (charCells b).length = 10 := rfl
      rw [List.getElem?_append_right (by omega), List.getElem?_append_right (by omega), len,
        show 10 * (q + 1) - 10 = 10 * q from by omega, show 10 * (q + 1) + 9 - 10 = 10 * q + 9 from by omega]
      exact ⟨hstart, hstop⟩

theorem frameCells_length (chars : List Byte) : (frameCells chars).length = 10 * chars.length := by
  induction chars with
  | nil => rfl
  | cons b chars ih =>
    have cells : frameCells (b :: chars) = charCells b ++ frameCells chars := List.flatMap_cons
    rw [cells, List.length_append, ih, List.length_cons]
    show 10 + _ = _
    omega

/-- No run within a frame is longer than nine cells. -/
theorem runOf_frame_le (chars : List Byte) {cell : Nat} (h : cell ≤ (frameCells chars).length) (level : Bool) (hc : 0 < cell) :
    runOf ((frameCells chars).take cell) level ≤ 9 := by
  have len : ((frameCells chars).take cell).length = cell := List.length_take_of_le h
  have hlen := frameCells_length chars
  cases level
  · by_cases hlow : cell < 10
    · have : runOf ((frameCells chars).take cell) false ≤ ((frameCells chars).take cell).length := by
        unfold runOf
        exact (List.takeWhile_sublist _).length_le.trans (List.length_reverse ..).le
      omega
    · have stop := (frameCells_start (chars := chars) (q := cell / 10 - 1) (by omega)).2
      have := runOf_le (cells := (frameCells chars).take cell) (level := false) (i := 10 * (cell / 10 - 1) + 9)
        (by rw [List.getElem?_take_of_lt (by omega)]; exact stop)
      omega
  · have start := (frameCells_start (chars := chars) (q := (cell - 1) / 10) (by omega)).1
    have := runOf_le (cells := (frameCells chars).take cell) (level := true) (i := 10 * ((cell - 1) / 10))
      (by rw [List.getElem?_take_of_lt (by omega)]; exact start)
    omega

/-- R140, R141, R142: the runs as the cells up to a mismatch leave them. -/
theorem Link.readFrame_mismatch (l : Link) {chars : List Byte} {cell : Nat} (h : cell < (frameCells chars).length) :
    l.readFrame (mismatchCells chars cell)
      = if (frameCells chars).getD cell false then
          { l with recessiveRun := 0, dominantRun := runOf ((frameCells chars).take cell) false + 1 }
        else if cell = 0 then { l with recessiveRun := 11, dominantRun := 0 }
        else { l with recessiveRun := runOf ((frameCells chars).take cell) true + 1, dominantRun := 0 } := by
  let fresh : Link := { l with dominantRun := 0, recessiveRun := 11 }
  let before := (frameCells chars).take cell
  have driven : (frameCells chars).getD cell true = (frameCells chars).getD cell false := by
    rw [List.getD_eq_getElem _ _ h, List.getD_eq_getElem _ _ h]
  have parts : l.readFrame (mismatchCells chars cell) = (fresh.readCells before).readCell (!(frameCells chars).getD cell false) := by
    unfold mismatchCells Link.readFrame
    rw [Link.readCells_append, driven]
    rfl
  obtain ⟨d, r, keeps⟩ := Link.readCells_keeps before fresh
  have dom : d = min (runOf before false) 13 := by
    have := Link.readCells_dominantRun (l := fresh) rfl before
    rwa [keeps] at this
  rw [parts, keeps]
  by_cases hc : cell = 0
  · subst hc
    have start := (frameCells_start (chars := chars) (q := 0) (by have := frameCells_length chars; omega)).1
    have low : (frameCells chars).getD 0 false = false := by
      rw [List.getD_eq_getElem?_getD, start]
      rfl
    have empty : d = 0 ∧ r = 11 := by
      have : fresh.readCells before = fresh := rfl
      rw [keeps] at this
      exact ⟨congrArg Link.dominantRun this, congrArg Link.recessiveRun this⟩
    rw [low, if_neg (by decide), if_pos rfl, empty.1, empty.2]
    rfl
  · have domLe := runOf_frame_le chars h.le false (Nat.pos_of_ne_zero hc)
    have recLe := runOf_frame_le chars h.le true (Nat.pos_of_ne_zero hc)
    have start := (frameCells_start (chars := chars) (q := 0) (by have := frameCells_length chars; omega)).1
    have low : false ∈ before := by
      refine List.mem_of_getElem? (i := 0) ?_
      rw [List.getElem?_take_of_lt (Nat.pos_of_ne_zero hc)]
      exact start
    have hr : r = min (runOf before true) 11 := by
      have := Link.readCells_recessiveRun (l := fresh) low
      rwa [keeps] at this
    have hdom : d = runOf before false := dom.trans (min_eq_left (by show runOf ((frameCells chars).take cell) false ≤ 13; omega))
    have hrec : r = runOf before true := hr.trans (min_eq_left (by show runOf ((frameCells chars).take cell) true ≤ 11; omega))
    rw [hdom, hrec]
    cases (frameCells chars).getD cell false
    · rw [if_neg (by decide), if_neg hc]
      show { l with recessiveRun := min (runOf before true + 1) 11, dominantRun := 0 } = _
      rw [min_eq_left (by show runOf ((frameCells chars).take cell) true + 1 ≤ 11; omega)]
    · rw [if_pos rfl]
      show { l with recessiveRun := 0, dominantRun := min (runOf before false + 1) 13 } = _
      rw [min_eq_left (by show runOf ((frameCells chars).take cell) false + 1 ≤ 13; omega)]

/-! ## An overflow that captures nothing, and a level that stays (R145, R152) -/

/-- R152: what the service level is computed from. -/
theorem State.serviceOf_of_inputs {s t : State} (hn : t.node.state = s.node.state) (hc : t.channelDegrades = s.channelDegrades)
    (ht : t.tracker.sync = s.tracker.sync) (hi : t.link.inhibit = s.link.inhibit) (hx : t.context.stale = s.context.stale)
    (hf : t.faults.degrades = s.faults.degrades) : t.serviceOf = s.serviceOf := by
  unfold State.serviceOf State.trackerDegrades
  rw [hn, hc, ht, hi, hx, hf]

theorem State.channelDegrades_congr {s t : State} (hi : t.image = s.image) (hc : ∀ ch, (t.chan ch).state = (s.chan ch).state) :
    t.channelDegrades = s.channelDegrades := by
  unfold State.channelDegrades
  simp only [hc, State.params_congr hi]

theorem State.advance_serviceOf (s : State) (τ : Tick) : (s.advance τ).serviceOf = s.serviceOf :=
  State.serviceOf_of_inputs rfl (State.channelDegrades_congr rfl fun ch => by cases ch <;> rfl) (s.advance_sync τ) rfl rfl rfl

/-- R145, R150, R152: a QUEUE_OVERFLOW that captures nothing, in an event after which the level is as it was. -/
theorem State.quiet_overflow_settles {u v : State} (hf : u.FaultsOk) {o : Occurrence} (act : v = u.occur o) (ho : o.cls = .queueOverflow)
    (hquiet : u.faults.first.isSome = true ∨ (u.faults.cls o.cls).mask = true) (hlevel : u.serviceOf = u.faults.service) :
    v.settle.body = u.body ∧ v.settle.link.queue = u.link.queue ∧ FaultUnit.Took o u.faults v.settle.faults := by
  have hbody : v.body = u.body := by rw [act]; exact u.occur_body o
  have counts : u.CountsOverflow v := by rw [act]; exact State.occur_countsOverflow ho
  have took : FaultUnit.Took o u.faults v.faults := by rw [act]; exact State.occur_took_quiet hf.sound.length hquiet
  have service : v.faults.service = u.faults.service := by rw [act]; exact (u.occur_keepsSetup o).service
  have level : v.serviceOf = v.faults.service := by
    rw [service, ← hlevel]
    exact State.serviceOf_congr hbody (FaultUnit.degrades_congr counts.others)
  have due : v.withdrawDue = false := by
    rw [act]
    exact (State.occur_atRest (hf.sound.atRest hf.due) ho).due
  have ends : v.settle = v := by
    have settled := State.settle_settled v due
    unfold State.SettledTo at settled
    rwa [if_pos level] at settled
  rw [ends]
  exact ⟨hbody, by rw [act, (State.occur_quiet hquiet).1], took⟩

/-! ## The entry put back (R140) -/

theorem State.reinsert_of_none {s : State} {e : TxEntry}
    (h : (putEntry (if e.kind = .status then { e with payload := [] } else e) s.link.queue).2 = none) :
    s.reinsert e = s.onLink (fun l => { l with queue := (putEntry (if e.kind = .status then { e with payload := [] } else e) s.link.queue).1 }) := by
  unfold State.reinsert
  dsimp only
  rw [h]
  rfl

theorem State.reinsert_of_some {s : State} {e : TxEntry} {k : Kind} {c : Option Nat}
    (h : (putEntry (if e.kind = .status then { e with payload := [] } else e) s.link.queue).2 = some (k, c)) :
    s.reinsert e = (s.onLink (fun l => { l with
      queue := (putEntry (if e.kind = .status then { e with payload := [] } else e) s.link.queue).1 })).occur
        (s.occurrence .queueOverflow none (some k.code) c) := by
  unfold State.reinsert
  dsimp only
  rw [h]
  rfl

/-- R140: an entry put back under a younger one of its key takes the contents of that one. -/
theorem putEntry_restores {q : List TxEntry} (hkeys : q.Pairwise (fun a b => a.sameKey b = false)) {x e : TxEntry} (hx : x ∈ q)
    (h : x.sameKey e = true) (hage : e.age < x.age) :
    (putEntry e q).1.Perm ({ e with payload := x.payload } :: q.erase x)
      ∧ (putEntry e q).2 = if replacementLost e.kind then some (e.kind, e.cyl) else none := by
  obtain ⟨y, hy⟩ := Option.isSome_iff_exists.mp (List.find?_isSome (p := fun y => y.sameKey e) |>.mpr ⟨x, hx, h⟩)
  have hk : y.sameKey e = true := List.find?_some (p := fun z : TxEntry => z.sameKey e) hy
  have hyx : y = x := eq_of_sameKey hkeys (List.mem_of_find?_eq_some hy) hx
    (TxEntry.sameKey_trans hk ((TxEntry.sameKey_comm e x).trans h))
  subst hyx
  unfold putEntry
  rw [hy]
  refine ⟨(insertEntry_perm _ _).trans ?_, rfl⟩
  rw [show coalesce y e = { e with payload := y.payload } from if_neg (Nat.not_le.mpr hage)]
  exact (filter_key_perm_erase hkeys hx h).cons _

/-! ## The cells -/

theorem losesAt_iff (chars : List Byte) (cell : Nat) :
    losesAt chars cell = true ↔ cell < 10 ∧ (frameCells chars).getD cell false = true := by
  unfold losesAt
  rw [Bool.and_eq_true, decide_eq_true_eq]

theorem clashesAt_iff (chars : List Byte) (cell : Nat) :
    clashesAt chars cell = true ↔ cell < (frameCells chars).length ∧ ((frameCells chars).getD cell false = false ∨ 10 ≤ cell) := by
  unfold clashesAt
  rw [Bool.and_eq_true, Bool.or_eq_true, decide_eq_true_eq, decide_eq_true_eq, Bool.not_eq_true']

theorem lt_of_losesAt {chars : List Byte} {cell : Nat} (h : losesAt chars cell = true) : cell < (frameCells chars).length := by
  by_contra hge
  have := ((losesAt_iff _ _).mp h).2
  rw [List.getD_eq_default _ _ (Nat.not_lt.mp hge)] at this
  cases this

theorem transmitClash_of_entry {s : State} {e : TxEntry} (h : s.link.transmitter.entry = some e) (cell : Nat) :
    transmitClash cell s = s.clashAt e cell := by
  unfold transmitClash
  cases ht : s.link.transmitter with
  | idle => rw [ht] at h; cases h
  | arbitrating e' removed left => rw [ht] at h; cases h; rfl
  | sending e' => rw [ht] at h; cases h; rfl

theorem arbitrationLost_of_not {s : State} {e : TxEntry} (h : s.link.transmitter.entry = some e) {cell : Nat}
    (hc : losesAt (s.ownFrame e) cell = false) : arbitrationLost cell s = s := by
  unfold arbitrationLost
  cases ht : s.link.transmitter with
  | idle => rfl
  | arbitrating e' removed left =>
    rw [ht] at h
    cases h
    exact if_neg (by rw [hc]; decide)
  | sending e' => rfl

theorem arbitrationLost_of_lost {s : State} {e : TxEntry} {removed : Bool} {left : Nat} (h : s.link.transmitter = .arbitrating e removed left)
    {cell : Nat} (hc : losesAt (s.ownFrame e) cell = true) : arbitrationLost cell s =
      if removed then s.onLink (fun l => { l.readFrame (mismatchCells (s.ownFrame e) cell) with transmitter := .idle })
      else (s.onLink (fun l => { l.readFrame (mismatchCells (s.ownFrame e) cell) with transmitter := .idle })).reinsert e := by
  unfold arbitrationLost
  rw [h]
  exact if_pos hc

/-- The node at a mismatch, its own frame ended there. -/
def State.endedAt (s : State) (e : TxEntry) (cell : Nat) : State :=
  s.onLink (fun l => { l.readFrame (mismatchCells (s.ownFrame e) cell) with transmitter := .idle })

theorem State.endedAt_queue (s : State) (e : TxEntry) (cell : Nat) :
    (s.endedAt e cell).link.queue = s.link.queue ∧ (s.endedAt e cell).link.inhibit = s.link.inhibit := by
  obtain ⟨d, r, h⟩ := Link.readFrame_keeps (mismatchCells (s.ownFrame e) cell) s.link
  unfold State.endedAt State.onLink
  dsimp only
  rw [h]
  exact ⟨rfl, rfl⟩

/-- What an entry put back leaves in the queue, and the QUEUE_OVERFLOW it passes, where no report follows. -/
theorem State.reinsert_settles {u v : State} {e : TxEntry} (act : v = u.reinsert e) (hf : u.FaultsOk) {queue : List TxEntry}
    {lost : Option (Kind × Option Nat)}
    (hput : putEntry (if e.kind = .status then { e with payload := [] } else e) u.link.queue = (queue, lost)) :
    (lost = none → (u.onLink fun l => { l with queue := queue }).SettledTo v.settle)
      ∧ (∀ k c, lost = some (k, c) → u.faults.first.isSome = true ∨ (u.faults.cls .queueOverflow).mask = true →
          u.serviceOf = u.faults.service →
          v.settle.body = u.body ∧ v.settle.link.queue = queue
            ∧ FaultUnit.Took (u.occurrence .queueOverflow none (some k.code) c) u.faults v.settle.faults) := by
  refine ⟨fun h => ?_, fun k c h hquiet hlevel => ?_⟩
  · have put := State.reinsert_of_none (s := u) (e := e) (by rw [hput, h])
    rw [hput] at put
    exact State.settles_as (act.trans put) hf.due
  · have put := State.reinsert_of_some (s := u) (e := e) (k := k) (c := c) (by rw [hput, h])
    rw [hput] at put
    exact State.quiet_overflow_settles (u := u.onLink fun l => { l with queue := queue }) hf (act.trans put) rfl hquiet hlevel

/-- Settles O57. -/
theorem lostArbitrationReinsertsAndClashDiscards : Obligations.LostArbitrationReinsertsAndClashDiscards := by
  intro s τ cell e left hf hn a frame driven lost clash before runOf' runs back quiet overflow free
  have reads := fun f => State.onLine_of_reading (s := a) hn f
  have hlost : losesAt (a.ownFrame e) cell = true ↔ lost := losesAt_iff _ _
  have hclash : clashesAt (a.ownFrame e) cell = true ↔ clash := clashesAt_iff _ _
  have hruns : cell < frame.length → a.link.readFrame (mismatchCells (a.ownFrame e) cell) = runs := fun h => Link.readFrame_mismatch _ h
  let ended := a.endedAt e cell
  obtain ⟨hqueue, hinhibit⟩ : ended.link.queue = s.link.queue ∧ ended.link.inhibit = s.link.inhibit := a.endedAt_queue e cell
  have hended : lost → ended = { a with link := { runs with transmitter := .idle } } := fun h => by
    show a.onLink _ = _
    unfold State.onLink
    dsimp only
    rw [hruns (lt_of_losesAt (hlost.mpr h))]
  have putBack : a.link.transmitter = .arbitrating e false left → lost → (s.advance τ).onLine (arbitrationLost cell) = ended.reinsert e :=
    fun ht h => (reads _).trans ((arbitrationLost_of_lost ht (hlost.mpr h)).trans (if_neg (by decide)))
  have faultsOk : ended.FaultsOk := hf
  have level : s.serviceOf = s.faults.service → ended.serviceOf = ended.faults.service := fun h =>
    (State.serviceOf_of_inputs (s := a) (t := ended) rfl (State.channelDegrades_congr rfl fun _ => rfl) rfl hinhibit rfl rfl).trans
      ((s.advance_serviceOf τ).trans h)
  have passed : ∀ (k : Kind) c, ended.occurrence .queueOverflow none (some k.code) c
      = { cls := .queueOverflow, cycle := s.tracker.cycleCount, angle := a.tracker.faultAngle, station := none, kind := some k.code, cyl := c } :=
    fun k c => s.advance_occurrence τ .queueOverflow none (some k.code) c
  have backKey : ∀ x : TxEntry, x.sameKey back = x.sameKey e := fun x => by
    unfold back
    split <;> rfl
  have backKind : back.kind = e.kind := by
    unfold back
    split <;> rfl
  have backCyl : back.cyl = e.cyl := by
    unfold back
    split <;> rfl
  have backAge : back.age = e.age := by
    unfold back
    split <;> rfl
  have backContents : ∀ p, { back with payload := p } = { e with payload := p } := fun p => by
    unfold back
    split <;> rfl
  refine ⟨fun ht h => ⟨_, rfl, ?_⟩, fun ht h hfree hlen => ?_, fun y ht h hq hy hkey hage => ?_, fun ht h hq hfree hfull hquiet => ?_,
    fun h he => ⟨_, rfl, State.settles_as ((reads _).trans (arbitrationLost_of_not he ?_)) hf.due⟩,
    fun h => ⟨_, rfl, State.settles_as ((reads _).trans ?_) hf.due⟩, fun he h => ⟨_, rfl, ?_⟩,
    fun he h => ⟨_, rfl, State.settles_as ((reads _).trans ?_) hf.due⟩, fun hi => ⟨_, rfl, State.settles_as ((reads _).trans ?_) hf.due⟩⟩
  · rw [← hended h]
    exact State.settles_as ((reads _).trans ((arbitrationLost_of_lost ht (hlost.mpr h)).trans (if_pos rfl))) hf.due
  · obtain ⟨perm, none⟩ := putEntry_takes_place (q := s.link.queue) (e := back) (fun x hx => (backKey x).trans (hfree x hx)) hlen
    have settled := (State.reinsert_settles (putBack ht h) faultsOk (by rw [hqueue])).1 none
    refine ⟨_, _, rfl, perm, ?_⟩
    rw [hended h] at settled
    exact settled
  · obtain ⟨perm, gone⟩ := putEntry_restores (e := back) hq.2.2.1 hy ((backKey y).trans hkey) (backAge ▸ hage)
    rw [backContents] at perm
    obtain ⟨silent, loud⟩ := State.reinsert_settles (putBack ht h) faultsOk (by rw [hqueue])
    refine ⟨fun hv hta => ?_, fun hk hquiet => ⟨_, rfl, ?_⟩⟩
    · have settled := silent (gone.trans (if_neg fun hr => ((replacementLost_iff _).mp hr).elim (fun hv' => hv (backKind ▸ hv')) fun ht' => hta (backKind ▸ ht')))
      rw [hended h] at settled
      exact ⟨_, _, rfl, settled, perm⟩
    · obtain ⟨body, queue, took⟩ := loud back.kind back.cyl (gone.trans (if_pos ((replacementLost_iff _).mpr (backKind ▸ hk)))) hquiet.1 (level hquiet.2)
      rw [hended h] at body
      rw [passed, backKind, backCyl] at took
      exact ⟨body, queue ▸ perm, took⟩
  · have freed : ∀ x ∈ s.link.queue, x.sameKey back = false := fun x hx => (backKey x).trans (hfree x hx)
    obtain ⟨-, loud⟩ := State.reinsert_settles (putBack ht h) faultsOk (by rw [hqueue])
    refine ⟨fun d hd => ⟨_, rfl, ?_⟩, fun hall => ⟨_, rfl, ?_⟩⟩
    · obtain ⟨perm, gone⟩ := putEntry_gives_up freed hfull.ge hq.2.1 (d := d) ⟨hd.1, backKind ▸ hd.2.1, hd.2.2⟩
      obtain ⟨body, queue, took⟩ := loud d.kind d.cyl gone hquiet.1 (level hquiet.2)
      rw [hended h] at body
      rw [passed] at took
      exact ⟨body, queue ▸ perm, took⟩
    · have refused := putEntry_refuses freed hfull.ge (e := back) (backKind ▸ hall)
      obtain ⟨body, queue, took⟩ := loud back.kind back.cyl (congrArg Prod.snd refused) hquiet.1 (level hquiet.2)
      rw [hended h] at body
      rw [passed, backKind, backCyl] at took
      exact ⟨body, queue.trans (congrArg Prod.fst refused), took⟩
  · exact Bool.eq_false_iff.mpr fun hc => h (hlost.mp hc)
  · unfold arbitrationLost
    split
    · next e' removed left' ht => exact absurd ht (h e' removed left')
    · rfl
  · have act : (s.advance τ).onLine (transmitClash cell)
        = ({ a with link := { runs with transmitter := .idle, receiver := .discarding } } : State).fault .clash (some a.station) (some e.kind.code) none := by
      refine (reads _).trans ((transmitClash_of_entry he cell).trans ((if_pos (hclash.mpr h)).trans ?_))
      unfold State.onLink
      dsimp only
      rw [hruns h.1]
    obtain ⟨took, bare, -, -, -, -, stays, withdraws⟩ := State.clash_settles (u := { a with link := { runs with transmitter := .idle, receiver := .discarding } })
      hf rfl act
    refine ⟨?_, congrArg Link.transmitter bare, congrArg Link.receiver bare, (congrArg Link.recessiveRun bare).trans rfl, (congrArg Link.dominantRun bare).trans rfl,
      stays, fun hs hm hr => ?_⟩
    · exact (s.advance_occurrence τ .clash (some s.station) (some e.kind.code) none) ▸ took
    · obtain ⟨node, records, -⟩ := withdraws hs hm hr
      exact ⟨congrArg NodeCtl.state node, records⟩
  · rw [transmitClash_of_entry he]
    exact if_neg fun hc => h (hclash.mp hc)
  · unfold transmitClash
    rw [hi]

end Sys2Proof.Machine

/-! # Frames taken, let pass and not read, and a CLASH (O44) -/

namespace Sys2Proof.Machine

/-- A command that reports a frame brings its cells to the receiver (R136). -/
theorem exec_of_reportedCells {s : State} {c : Instr} {cells : List Bool} (h : reportedCells s.station c = some cells) :
    ∃ take, exec c s = .next ((s.advance c.instant).receive cells take).settle := by
  cases c <;> cases h <;> exact ⟨_, rfl⟩

/-- What a good frame moves. -/
theorem State.goodFrame_frame (s : State) (cells : List Bool) (r : Receiver) :
    (s.frameRead cells r).goodFrame = { s with
      link := Link.goodFrame { s.link.readFrame cells with receiver := r },
      node := { s.node with listen := (s.frameRead cells r).goodFrame.node.listen } } :=
  State.startListen_frame ((s.frameRead cells r).onLink Link.goodFrame)

theorem State.goodFrame_transmitter {s : State} (h : s.link.transmitter = .idle) (cells : List Bool) (r : Receiver) :
    (s.frameRead cells r).goodFrame.link.transmitter = .idle := by
  rw [State.goodFrame_frame]
  dsimp only
  rw [(Link.goodFrame_queue _).2.2.1]
  obtain ⟨d, x, e⟩ := Link.readFrame_keeps cells s.link
  rw [e]
  exact h

/-- R138: a valid frame that bears the node's own station number. -/
theorem State.takeFrame_own {s : State} (hn : s.node.state ≠ .loading) (ht : s.link.takesFrame = true) (τ : Tick) (k : Kind)
    (p : List Byte) (act : State → State) :
    (s.advance τ).takeFrame k s.station p act
      = (((s.advance τ).frameRead (frameCells (frameChars k s.station p)) .idle).goodFrame).fault .clash (some s.station) (some k.code) none := by
  unfold State.takeFrame
  dsimp only
  rw [State.receive_taken (s := s.advance τ) _ _ hn (by rw [State.advance_takesFrame]; exact ht)]
  exact if_pos rfl

theorem PassiveKind.kind_eq_status (k : PassiveKind) : k.kind = .status ↔ k = .status := by
  cases k <;> simp [PassiveKind.kind]

/-- R105: the sender of a TALLY, STATUS or LOG heard. -/
theorem PeerEntry.hear_passive (k : PassiveKind) (now : Tick) (p : PeerEntry) : p.hear k.kind now = match p.state with
    | .unknown => { p with lastHeard := some now, state := .active, misses := 0 }
    | .active => { p with lastHeard := some now }
    | .silent => { p with lastHeard := some now, state := .rejoining, rejoinRun := 0 }
    | .rejoining =>
      if k = .status ∧ p.expectedFor = false then { p with lastHeard := some now, state := .active, misses := 0, rejoinRun := 0 }
      else { p with lastHeard := some now } := by
  unfold PeerEntry.hear
  cases p.state <;> simp only [PassiveKind.kind_eq_status]

theorem State.heardFrame_peers (s : State) (k : Kind) (st : Station) (p : List Byte) : (s.heardFrame k st p).peers
    = if s.node.state.configured then s.peers.modify st.val (PeerEntry.hear k s.now) else s.peers := by
  have good := s.goodFrame_frame (frameCells (frameChars k st p)) .idle
  unfold State.heardFrame State.hearPeer
  rw [good]
  dsimp only
  split <;> rfl

theorem State.heardFrame_peer_of_ne (s : State) (k : Kind) {st st' : Station} (h : st' ≠ st) (p : List Byte) :
    (s.heardFrame k st p).peer st' = s.peer st' := by
  unfold State.peer
  rw [State.heardFrame_peers]
  split
  · exact getD_modify_ne _ _ _ fun hv => h (Fin.ext hv.symm)
  · rfl

theorem State.heardFrame_peer {s : State} (hc : s.node.state.configured = true) (hlen : s.peers.length = 16) (k : Kind) (st : Station)
    (p : List Byte) : (s.heardFrame k st p).peer st = (s.peer st).hear k s.now := by
  unfold State.peer
  rw [State.heardFrame_peers, if_pos hc]
  exact getD_modify_eq _ _ _ _ (by rw [hlen]; exact st.isLt)

/-- Settles O44. -/
theorem validFrameIsAClashOrIsHeard : Obligations.ValidFrameIsAClashOrIsHeard := by
  intro s τ st k pk own payload hf a taken clashed
  have takes : s.link.takesFrame = true ↔ taken := Link.takesFrame_iff _
  have passes : ¬taken → a.link.takesFrame = false := fun h => by
    rw [State.advance_takesFrame]
    exact Bool.eq_false_iff.mpr fun ht => h (takes.mp ht)
  refine ⟨takes, fun hn ht => ⟨_, rfl, ?_⟩, fun hears => ⟨_, rfl, ?_⟩, fun c cells hc hcells ht hn hi => ?_, fun c cells hc hcells h => ?_⟩
  · have frame : clashed = _ := a.goodFrame_frame (frameCells (frameChars k s.station own)) .idle
    have ok : clashed.FaultsOk := by
      rw [frame]
      exact hf
    have idle : clashed.link.transmitter = .idle := State.goodFrame_transmitter ((Transmitter.elapse_idle _ _).mpr ht.1) _ _
    obtain ⟨took, -, tracker, peers, context, estimator, stays, withdraws⟩ :=
      State.clash_settles ok idle (State.takeFrame_own hn (takes.mpr ht) τ k own id)
    have keeps : clashed.tracker = a.tracker ∧ clashed.peers = s.peers ∧ clashed.context = a.context ∧ clashed.estimator = s.estimator
        ∧ clashed.faults = s.faults ∧ clashed.node.state = s.node.state ∧ ∀ ch, clashed.chan ch = a.chan ch := by
      rw [frame]
      exact ⟨rfl, rfl, rfl, rfl, rfl, rfl, fun ch => by cases ch <;> rfl⟩
    obtain ⟨htracker, hpeers, hcontext, hestimator, hfaults, hstate, hchan⟩ := keeps
    have passed : clashed.occurrence .clash (some s.station) (some k.code) none = a.occurrence .clash (some s.station) (some k.code) none := by
      unfold State.occurrence
      rw [htracker]
    rw [show State.occurrence _ .clash (some s.station) (some k.code) none = _ from passed, State.advance_occurrence, hfaults] at took
    refine ⟨took, peers.trans hpeers, context.trans hcontext, tracker.trans htracker, estimator.trans hestimator, fun hw => stays (hfaults ▸ hw),
      fun hs hm hr => ?_⟩
    obtain ⟨node, records, chans, reduced⟩ := withdraws (hfaults ▸ hs) (hfaults ▸ hm) (.inl (hstate.trans hr))
    exact ⟨node, records, fun ch => (chans ch).trans (by rw [hchan]), reduced⟩
  · let h := a.heardFrame pk.kind st (payloadBytes payload)
    have settled : h.SettledTo _ := State.settles_as (hears.takeFrame τ pk.kind (payloadBytes payload) id) ((a.heardFrame_due ..).trans hf.due)
    have hb := settled.body_eq
    have hlink : h.link = _ := State.heardFrame_link a pk.kind st (payloadBytes payload)
    refine ⟨settled, ?_, fun hl => ?_, fun st' hne => ?_, fun hu => ?_, fun hc hlen => ?_⟩
    · rw [State.body_linkPart hb Link.receiver fun _ => rfl, hlink, (Link.goodFrame_queue _).2.2.2]
    · obtain ⟨d, r, e⟩ := Link.readFrame_keeps (frameCells (frameChars pk.kind st (payloadBytes payload))) a.link
      rw [State.body_linkPart hb Link.failures fun _ => rfl, State.body_acq hb, hlink, Link.goodFrame_of_locked (by rw [e]; exact hl), e]
      exact ⟨rfl, hl⟩
    · rw [State.peer_congr (State.body_peers hb)]
      exact State.heardFrame_peer_of_ne a pk.kind hne _
    · rw [State.body_peers hb, State.heardFrame_peers, if_neg (by rw [show a.node.state = .unconfigured from hu]; decide)]
      rfl
    · intro p
      rw [State.peer_congr (State.body_peers hb)]
      exact (State.heardFrame_peer (s := a) hc hlen pk.kind st _).trans (PeerEntry.hear_passive pk τ p)
  · obtain ⟨take, he⟩ := exec_of_reportedCells hcells
    rw [hc] at he
    have read : a.receive cells take = _ := State.receive_passed cells take hn (passes ht) ((Transmitter.elapse_idle _ _).mpr hi)
    exact ⟨_, he, State.settles_as read hf.due⟩
  · obtain ⟨take, he⟩ := exec_of_reportedCells hcells
    rw [hc] at he
    refine ⟨_, he, State.settles_as ?_ hf.due⟩
    by_cases hn : s.node.state = .loading
    · exact State.receive_loading (s := a) cells take hn
    · have busy : a.link.transmitter ≠ .idle := fun hi => h.resolve_left hn ((Transmitter.elapse_idle _ _).mp hi)
      unfold State.receive
      rw [if_neg (show a.node.state ≠ .loading from hn), if_neg, if_neg busy]
      exact fun ht => busy ((Link.takesFrame_iff _).mp ht).1

end Sys2Proof.Machine

/-! # Marks issued between teeth: the one pass of R17, and the marks that start an integration or judge the cam window -/

namespace Sys2Proof.Machine

/-! ## One event inside another -/

/-- The end of an event that has ended already changes nothing. -/
theorem State.settle_settle {s : State} (h : s.faults.Sound) : s.settle.settle = s.settle := by
  have rest := State.settle_atRest h
  have again : s.settle.SettledTo s.settle.settle := State.settle_settled _ rest.due
  exact again.eq_self s.settle_service.symm

/-! ## The pending list (R16, R17) -/

theorem insertMark_perm (m : PendingMark) (l : List PendingMark) : (insertMark m l).Perm (m :: l) := by
  induction l with
  | nil => exact .refl _
  | cons x l ih =>
    unfold insertMark
    split
    · exact .refl _
    · exact (ih.cons x).trans (.swap m x l)

theorem foldl_insertMark_perm {α : Type} (f : α → PendingMark) (xs : List α) (l : List PendingMark) :
    (xs.foldl (fun l x => insertMark (f x) l) l).Perm (xs.map f ++ l) := by
  induction xs generalizing l with
  | nil => exact .refl _
  | cons x xs ih => exact (ih _).trans (((insertMark_perm (f x) l).append_left _).trans List.perm_middle)

/-- R16: a cycle mark or a firing mark leaves the list with what it places. -/
theorem replaceMark_perm (im : Image) {m : PendingMark} (h : m.kind = .cycle ∨ m.kind = .firing) (rest : List PendingMark) :
    (replaceMark im m rest).Perm (rest ++ im.placedBy m) := by
  unfold replaceMark Image.placedBy
  rcases h with h | h <;> rw [h] <;> dsimp only
  · exact (insertMark_perm _ _).trans (List.perm_append_comm (l₁ := [_]))
  · rw [if_pos rfl]
    refine (foldl_insertMark_perm id _ _).trans ?_
    rw [List.map_id]
    refine ((insertMark_perm _ _).append_left _).trans ?_
    refine List.perm_middle.trans (.trans ?_ (List.perm_append_comm (l₁ := _ :: _)))
    simp only [Image.dependentMarks, Image.deadlineOffset, Image.interval, Nat.add_assoc, Int.add_comm m.dist]
    exact .refl _

theorem Image.issuesExactly_nil {im : Image} {l : List PendingMark} (h : im.issuesExactly [] l = true) : ∀ x ∈ l, 0 < x.dist := by
  simpa [Image.issuesExactly] using h

theorem Image.issuesExactly_cons {im : Image} {m : PendingMark} {ms l : List PendingMark} (h : im.issuesExactly (m :: ms) l = true) :
    l = m :: l.tail ∧ m.dist ≤ 0 ∧ im.issuesExactly ms (replaceMark im m l.tail) = true := by
  simp only [Image.issuesExactly, Bool.and_eq_true, beq_iff_eq, decide_eq_true_eq] at h
  obtain ⟨⟨head, due⟩, rest⟩ := h
  cases l with
  | nil => cases head
  | cons x l => exact ⟨by rw [Option.some.inj head]; rfl, due, rest⟩

/-- The list with its head `m` issued (R16). -/
def State.replaced (m : PendingMark) (s : State) : State :=
  s.onTracker (fun tr => { tr with marks := replaceMark s.params m tr.marks.tail })

theorem State.issueMarks_of_ahead {s : State} (h : ∀ x ∈ s.tracker.marks, 0 < x.dist) (fuel : Nat) (order : BoundaryOrder) :
    s.issueMarks fuel order = s := by
  cases fuel with
  | zero => rfl
  | succ n =>
    unfold State.issueMarks
    split
    · next m rest hm => exact if_neg (Int.not_le.mpr (h m (hm ▸ .head _)))
    · rfl

theorem State.issueMarks_of_due {s : State} {m : PendingMark} {rest : List PendingMark} (hm : s.tracker.marks = m :: rest)
    (hd : m.dist ≤ 0) (fuel : Nat) (order : BoundaryOrder) :
    s.issueMarks (fuel + 1) order = (((s.replaced m).deliverMark m order).settle).issueMarks fuel order := by
  have issued : s.issueMark m rest order = ((s.replaced m).deliverMark m order).settle := by
    unfold State.replaced
    rw [show rest = s.tracker.marks.tail by rw [hm]; rfl]
    rfl
  conv_lhs => unfold State.issueMarks
  rw [hm, ← issued]
  exact if_pos hd

/-! ## What the delivery of a mark leaves of the list -/

theorem State.lossEvent_tracker (s : State) : s.lossEvent.tracker = s.tracker := by
  obtain ⟨cs, e⟩ := s.abortAll_eq
  unfold State.lossEvent
  rw [e]
  rfl

theorem State.camMismatch_marks (s : State) : s.camMismatch.tracker.marks = [] := by
  unfold State.camMismatch
  rw [State.lossEvent_tracker]
  split <;> rfl

theorem State.extendHold_tracker (s : State) (d : Nat) (cause : HoldCause) : (s.extendHold d cause).tracker = s.tracker := by
  unfold State.extendHold
  split
  · rfl
  · split <;> rfl

theorem State.boundaryPeak_tracker (s : State) : s.boundaryPeak.tracker = s.tracker := by
  unfold State.boundaryPeak
  split
  · unfold State.takePeak
    split
    · rw [State.core_tracker (State.engine_core (State.considerJolt_engine _ _)), State.extendHold_tracker]
      rfl
    · rfl
  · rfl

theorem State.takePeriod_tracker (s : State) (p : Nat) (pos : Option Nat) : (s.takePeriod p pos).tracker = s.tracker := by
  cases pos with
  | none => rfl
  | some k =>
    have taken := State.recordSegment_ground (s.onEstimator (Estimator.shift p))
    exact (State.ground_tracker (taken _ _ _)).trans rfl

theorem State.boundary_tracker (s : State) (ended : Option Nat) (order : BoundaryOrder) :
    (s.boundary ended order).tracker = { s.tracker with chain := some s.now } := by
  unfold State.boundary
  dsimp only
  split
  · cases order with
    | segmentEndFirst => exact (State.boundaryPeak_tracker _).trans (State.takePeriod_tracker _ _ _)
    | peakFirst => exact (State.takePeriod_tracker _ _ _).trans (State.boundaryPeak_tracker _)
  · exact State.boundaryPeak_tracker _

theorem State.cycleMark_tracker (s : State) : s.cycleMark.tracker = s.tracker.cycleMark s.params :=
  State.core_tracker (State.engine_core ((State.cylinderCycleMark_engine _).trans (State.contextCycleMark_engine _)))

theorem State.openRecord_tracker (s : State) (k c : Nat) : (s.openRecord k c).tracker = s.tracker := by
  unfold State.openRecord
  split
  · split <;> rfl
  · rfl

theorem State.firingMark_tracker (s : State) (k : Nat) : (s.firingMark k).tracker = s.tracker := State.openRecord_tracker _ _ _

theorem State.windowOpen_tracker (s : State) (k c : Nat) : (s.windowOpen k c).tracker = s.tracker := by
  unfold State.windowOpen
  split <;> rfl

theorem State.windowClose_tracker (s : State) (k c : Nat) : (s.windowClose k c).tracker = s.tracker := by
  have clipped := (State.body_tracker (State.reportClip_body ((s.onChans Channel.abandon).reportClip c (s.windowResult .a k c)) c
    (s.windowResult .b k c))).trans (State.body_tracker (State.reportClip_body (s.onChans Channel.abandon) c (s.windowResult .a k c)))
  unfold State.windowClose
  dsimp only
  split
  · split
    · exact (State.ground_tracker (State.recordWindow_ground _ _ _ _)).trans clipped
    · exact (State.core_tracker (State.engine_core (State.produceWitness_engine _ _ _ _))).trans clipped
  · rfl

/-- R15: what a delivered mark leaves of the list: all of it, or nothing where it drops PHASED. -/
theorem State.deliverMark_marks (s : State) (m : PendingMark) (order : BoundaryOrder) :
    (s.deliverMark m order).tracker.marks = s.tracker.marks ∨ (s.deliverMark m order).tracker.marks = [] := by
  unfold State.deliverMark
  cases m.kind with
  | cycle => exact .inl ((congrArg Tracker.marks s.cycleMark_tracker).trans rfl)
  | firing => exact .inl (congrArg Tracker.marks (s.firingMark_tracker _))
  | segment => exact .inl ((congrArg Tracker.marks (s.boundary_tracker _ _)).trans rfl)
  | windowOpen => exact .inl (congrArg Tracker.marks (s.windowOpen_tracker _ _))
  | windowClose => exact .inl (congrArg Tracker.marks (s.windowClose_tracker _ _))
  | camWindowEnd =>
    show s.camWindowEnd.tracker.marks = _ ∨ _
    unfold State.camWindowEnd
    split
    · exact .inl rfl
    · split
      · exact .inl rfl
      · exact .inr s.camMismatch_marks
  | deadline => exact .inl (congrArg Tracker.marks (State.ground_tracker (s.deadlineMark_ground _)))

theorem State.settle_tracker (s : State) : s.settle.tracker = s.tracker := State.ground_tracker s.settle_ground

/-- R17: with nothing due the pass issues nothing. -/
theorem State.issueDue_none {s : State} (h : s.params.issuesExactly [] s.tracker.marks = true) (order : BoundaryOrder) :
    s.issueDue order = s := State.issueMarks_of_ahead (Image.issuesExactly_nil h) _ order

/-- R17: with one mark due the pass issues that mark. -/
theorem State.issueDue_one {s : State} {m : PendingMark} (h : s.params.issuesExactly [m] s.tracker.marks = true) (order : BoundaryOrder) :
    s.issueDue order = ((s.replaced m).deliverMark m order).settle := by
  obtain ⟨hm, hd, hrest⟩ := Image.issuesExactly_cons h
  unfold State.issueDue
  rw [congrArg List.length hm, List.length_cons, show 4 * (s.tracker.marks.tail.length + 1) = 4 * s.tracker.marks.tail.length + 3 + 1 from rfl,
    State.issueMarks_of_due hm hd]
  refine State.issueMarks_of_ahead (fun x hx => ?_) _ order
  rw [State.settle_tracker] at hx
  rcases (s.replaced m).deliverMark_marks m order with e | e <;> rw [e] at hx
  · exact Image.issuesExactly_nil hrest x hx
  · cases hx

/-! ## The command -/

theorem exec_interpolatedMark_none {s : State} {τ : Tick} (h : s.tracker.sync ≠ .phased ∨ (s.advance τ).Due []) :
    exec (.interpolatedMark τ) s = .next (s.advance τ).settle := by
  refine congrArg (fun t : State => Host.Outcome.next t.settle) ?_
  unfold interpolatedMark
  split
  · next hp => exact State.issueDue_none (h.resolve_left fun hn => hn (s.advance_sync τ ▸ hp)).2 _
  · rfl

/-- R17, R18: one mark due is issued as one event, which ends with the command. -/
theorem exec_interpolatedMark_one {s : State} (hf : s.FaultsOk) {τ : Tick} {m : PendingMark} (h : (s.advance τ).Due [m]) :
    exec (.interpolatedMark τ) s = .next (((s.advance τ).replaced m).deliverMark m .segmentEndFirst).settle := by
  have sound : (((s.advance τ).replaced m).deliverMark m .segmentEndFirst).faults.Sound :=
    (State.deliverMark_moves _ m _).sound hf.sound
  have issued : interpolatedMark (s.advance τ) = (((s.advance τ).replaced m).deliverMark m .segmentEndFirst).settle := by
    unfold interpolatedMark
    rw [if_pos h.1]
    exact State.issueDue_one h.2 _
  show Host.Outcome.next (interpolatedMark (s.advance τ)).settle = _
  rw [issued, State.settle_settle sound]

/-! ## The loss of the phase (R10, R12) -/

/-- An occurrence that passes no withdrawal, with writes to the blocks in the same event after it. -/
theorem State.occur_then_settles {u v : State} (hf : u.FaultsOk) {o : Occurrence} (ho : o.cls ≠ .queueOverflow)
    (hw : (u.faults.cls o.cls).severity ≠ .withdrawing ∨ (u.faults.cls o.cls).mask = true) (hv : v.control = (u.occur o).control) :
    v.SettledTo v.settle ∧ FaultUnit.Took o u.faults v.settle.faults := by
  have settled := State.settle_settled v ((State.control_withdrawDue hv).trans (State.occur_due hf hw))
  refine ⟨settled, FaultUnit.Took.trail ?_ ho settled.trails⟩
  rw [State.control_faults hv]
  exact State.occur_took hf.sound.length ho

theorem State.lossEvent_eq (s : State) : ∃ cs, s.lossEvent = { s with
    cylinders := cs, records := s.records.map (fun _ => none), chanA := s.chanA.lossEvent, chanB := s.chanB.lossEvent } := by
  obtain ⟨cs, e⟩ := s.abortAll_eq
  unfold State.lossEvent
  rw [e]
  exact ⟨cs, rfl⟩

/-- What the loss of the phase by the cam leaves in the tracker (R10, R21). -/
def Tracker.mismatched (im : Image) (tr : Tracker) : Tracker :=
  { tr.dropPhase with chain := if im.n % 2 = 1 then none else tr.chain }

theorem State.dropPhase_eq (f : State) (odd : Prop) [Decidable odd] :
    ∃ cs, (if odd then (f.onTracker Tracker.dropPhase).breakChain else f.onTracker Tracker.dropPhase).lossEvent = { f with
      tracker := { f.tracker.dropPhase with chain := if odd then none else f.tracker.chain }
      estimator := if odd then Estimator.empty else f.estimator
      cylinders := cs, records := f.records.map (fun _ => none), chanA := f.chanA.lossEvent, chanB := f.chanB.lossEvent } := by
  split
  · exact State.lossEvent_eq (f.onTracker Tracker.dropPhase).breakChain
  · exact State.lossEvent_eq (f.onTracker Tracker.dropPhase)

/-- R10, R12, R150: the loss of the phase by the cam, to the end of its event. -/
theorem State.camMismatch_settles {u : State} (hf : u.FaultsOk) :
    u.camMismatch.settle.tracker = u.tracker.mismatched u.params
      ∧ u.camMismatch.settle.estimator = (if u.params.n % 2 = 1 then Estimator.empty else u.estimator)
      ∧ (∀ r ∈ u.camMismatch.settle.records, r = none)
      ∧ (∀ ch, u.camMismatch.settle.chan ch = { u.chan ch with integrator := .idle, shockPeak := 0 })
      ∧ FaultUnit.Took (u.occurrence .camMismatch none none none) u.faults u.camMismatch.settle.faults
      ∧ u.camMismatch.settle.node = u.node ∧ u.camMismatch.settle.peers = u.peers ∧ u.camMismatch.settle.context = u.context
      ∧ u.camMismatch.settle.link.bare = u.link.bare := by
  have hb : (u.fault .camMismatch).body = u.body := u.fault_body ..
  obtain ⟨cs, e⟩ := (u.fault .camMismatch).dropPhase_eq (u.params.n % 2 = 1)
  change u.camMismatch = _ at e
  obtain ⟨settled, took⟩ := State.occur_then_settles (v := u.camMismatch) (o := u.occurrence .camMismatch none none none) hf
    (by exact (by decide : FaultClass.camMismatch ≠ .queueOverflow)) (.inl (hf.sound.gentle (k := .camMismatch) (by decide) (by decide)))
    (by rw [e]; rfl)
  have body := settled.body_eq
  generalize u.camMismatch.settle = t at took body
  rw [e] at body
  clear e settled
  generalize u.fault .camMismatch = f at hb body
  refine ⟨(State.body_tracker body).trans ?_, (State.body_estimator body).trans ?_, fun r hr => ?_, fun ch => ?_, took,
    (State.body_node body).trans (State.body_node hb :), (State.body_peers body).trans (State.body_peers hb :),
    (State.body_context body).trans (State.body_context hb :), (State.body_link body).trans (State.body_link hb :)⟩
  · unfold Tracker.mismatched
    rw [← State.body_tracker hb]
  · rw [← State.body_estimator hb]
  · rw [State.body_records body] at hr
    obtain ⟨-, -, rfl⟩ := List.mem_map.mp hr
    rfl
  · rw [State.body_chan body, ← State.body_chan hb]
    cases ch <;> rfl

/-- Settles O34: the mark opens the window in the channels that are ENABLED, and leaves the list. -/
theorem windowOpenStartsIntegration : Obligations.WindowOpenStartsIntegration := by
  intro s τ m k hf due hkind hpos a opened
  refine ⟨_, exec_interpolatedMark_one hf due, State.settles_as ?_ hf.due⟩
  have list : a.replaced m = a.onTracker (fun tr => { tr with marks := tr.marks.tail }) := by
    unfold State.replaced replaceMark
    rw [hkind]
  unfold State.deliverMark
  rw [hkind, hpos, list]
  show State.windowOpen _ k _ = _
  unfold State.windowOpen
  by_cases hn : s.node.state = .running
  · rw [if_pos (show (a.onTracker _).node.state = .running from hn)]
    unfold State.onChans Channel.openWindow
    simp only [opened, hn, true_and]
    rfl
  · rw [if_neg (show ¬(a.onTracker _).node.state = .running from hn)]
    simp only [opened, hn, false_and, if_false]
    rfl

/-! ## The cam window (R10, R11) -/

/-- R11: a window that had its edge, or misses it for the first time. -/
theorem State.camWindowEnd_of_tolerated {u : State} (h : u.tracker.camSeen = true ∨ u.tracker.camMiss = 0) :
    u.camWindowEnd = u.onTracker (fun tr => { tr with camSeen := false, camMiss := if tr.camSeen then 0 else 1 }) := by
  unfold State.camWindowEnd
  cases hs : u.tracker.camSeen with
  | true => simp [State.onTracker, hs]
  | false =>
    have missed : u.tracker.camMiss = 0 := h.resolve_left (by rw [hs]; exact Bool.false_ne_true)
    simp [State.onTracker, hs, missed]

/-- Settles O30: nothing due, a window with its edge or a first miss, and a second miss. -/
theorem camWindowEndJudgesTheWindow : Obligations.CamWindowEndJudgesTheWindow := by
  intro s τ hf a
  have judged : ∀ m, a.Due [m] → m.kind = .camWindowEnd →
      exec (.interpolatedMark τ) s = .next ((a.replaced m).camWindowEnd).settle := fun m due hkind => by
    rw [exec_interpolatedMark_one hf due]
    unfold State.deliverMark
    rw [hkind]
  have placed : ∀ m : PendingMark, m.kind = .camWindowEnd →
      a.replaced m = a.onTracker (fun tr => { tr with marks := insertMark { m with dist := m.dist + 7200 } tr.marks.tail }) := by
    intro m hkind
    unfold State.replaced replaceMark
    rw [hkind]
  have seen : a.tracker.camSeen = s.tracker.camSeen := (congrArg Tracker.camSeen (s.advance_frame τ)).trans rfl
  have missed : a.tracker.camMiss = s.tracker.camMiss := (congrArg Tracker.camMiss (s.advance_frame τ)).trans rfl
  refine ⟨fun h => ⟨_, exec_interpolatedMark_none h, State.settle_settled _ hf.due⟩, fun m due hkind hcam => ?_, fun m due hkind hseen hmiss => ?_⟩
  · refine ⟨_, judged m due hkind, State.settles_as ?_ hf.due⟩
    rw [placed m hkind]
    rw [State.camWindowEnd_of_tolerated (by rw [State.onTracker_tracker, seen, missed]; exact hcam), ← seen]
    rfl
  · have lost : (a.replaced m).camWindowEnd = (a.replaced m).camMismatch := by
      rw [placed m hkind]
      unfold State.camWindowEnd
      simp only [State.onTracker_tracker, seen, missed, hseen, hmiss]
      rfl
    obtain ⟨tracker, -, records, -, took, -⟩ := State.camMismatch_settles (u := a.replaced m) (hf.advance τ)
    rw [← lost] at tracker records took
    have passed : (a.replaced m).occurrence .camMismatch none none none = {
        cls := .camMismatch, cycle := s.tracker.cycleCount, angle := a.tracker.angle, station := none, kind := none, cyl := none } := by
      have angle : a.tracker.faultAngle = a.tracker.angle := if_pos due.1
      rw [← angle, ← s.advance_occurrence τ]
      rfl
    rw [passed] at took
    refine ⟨_, judged m due hkind, ?_, ?_, ?_, ?_, ?_, ?_, records, took⟩ <;> rw [tracker]
    · rfl
    · rfl
    · rfl
    · rfl
    · rfl
    · exact (congrArg Tracker.toothIndex (s.advance_frame τ)).trans rfl

end Sys2Proof.Machine

/-! # Stalls and cam edges (R8 to R12, R16) -/

namespace Sys2Proof.Machine

/-! ## Stall -/

theorem stall_of_left {u : State} (h : u.tracker.sync = .stopped ∨ u.tracker.stallLeft ≠ some 0) : stall u = u := by
  unfold stall ranOut
  by_cases hz : u.tracker.stallLeft = some 0
  · rw [h.resolve_right (absurd hz)]
    simp
  · rw [if_neg (by simpa using hz)]

theorem stall_unphased {u : State} (h : u.tracker.sync = .seeking ∨ u.tracker.sync = .crankLocked) (hz : u.tracker.stallLeft = some 0) :
    stall u = { u with tracker := { Tracker.powerOn with cycleCount := u.tracker.cycleCount }, estimator := Estimator.empty } := by
  unfold stall ranOut
  rw [if_pos (by rw [hz]; rfl)]
  rcases h with h | h <;> rw [h] <;> rfl

/-- The aborts of a loss event write the Cylinder Table by nothing but the records and the table. -/
theorem State.abortAll_cylinders_congr {s t : State} (hr : t.records = s.records) (hc : t.cylinders = s.cylinders) :
    t.abortAll.cylinders = s.abortAll.cylinders := by
  have counted : ∀ (l : List (Option Record)) {s t : State}, t.cylinders = s.cylinders →
      (l.foldl State.countSlotAbort t).cylinders = (l.foldl State.countSlotAbort s).cylinders := by
    intro l
    induction l with
    | nil => exact id
    | cons o l ih =>
      intro s t h
      refine ih ?_
      cases o with
      | none => exact h
      | some r => exact congrArg (List.modify · (r.cyl - 1) CylEntry.countAbort) h
  show (t.records.foldl State.countSlotAbort t).cylinders = _
  rw [hr]
  exact counted _ hc

theorem stall_phased {u : State} (h : u.tracker.sync = .phased) (hz : u.tracker.stallLeft = some 0) :
    stall u = { u with
      tracker := { Tracker.powerOn with cycleCount := u.tracker.cycleCount }, estimator := Estimator.empty
      cylinders := u.abortAll.cylinders, records := u.records.map (fun _ => none)
      chanA := u.chanA.lossEvent, chanB := u.chanB.lossEvent } := by
  unfold stall ranOut
  rw [if_pos (by rw [hz]; rfl), h]
  let stopped := (u.onTracker Tracker.stalled).breakChain
  obtain ⟨cs, e⟩ := stopped.abortAll_eq
  have table : u.abortAll.cylinders = cs :=
    (State.abortAll_cylinders_congr (s := stopped) (t := u) rfl rfl).trans (congrArg State.cylinders e)
  show stopped.abortAll.onChans Channel.lossEvent = _
  rw [e, table]
  rfl

/-- Settles O27: the watchdog still running, a stall out of PHASED, and one in PHASED. -/
theorem stallStopsTheTracker : Obligations.StallStopsTheTracker := by
  intro s τ hdue a stopped
  have sync : a.tracker.sync = s.tracker.sync := s.advance_sync τ
  have cycles := s.advance_cycleCount τ
  refine ⟨fun h => ⟨_, rfl, State.settles_as (stall_of_left (by rwa [sync])) hdue⟩, fun h hz => ⟨_, rfl, State.settles_as ?_ hdue⟩, fun h hz => ?_⟩
  · rw [stall_unphased (u := a) (by rwa [sync]) hz, cycles]
  · have settled : _ := State.settles_as (stall_phased (u := a) (sync.trans h) hz) hdue
    rw [cycles] at settled
    refine ⟨_, rfl, _, settled, fun hlen hdist hall c hc => ?_⟩
    rw [State.cyl_congr (State.body_cylinders settled.body_eq)]
    exact State.abortAll_cyl (s := a) hlen hdist hall hc

/-! ## The marks that stand when PHASED is entered (R16) -/

theorem flatMap_pair_perm {α β : Type} (f g : α → β) (l : List α) : (l.flatMap (fun a => [f a, g a])).Perm (l.map f ++ l.map g) := by
  induction l with
  | nil => exact .refl _
  | cons a l ih => exact ((ih.cons (g a)).trans List.perm_middle.symm).cons (f a)

/-- R16: a firing position stands within the cycle. -/
theorem Image.firingAngle_mod (im : Image) {k : Nat} (hk : k < im.n) : (k * (7200 / im.n)) % 7200 = k * (7200 / im.n) := by
  refine Nat.mod_eq_of_lt ?_
  calc k * (7200 / im.n) ≤ (im.n - 1) * (7200 / im.n) := Nat.mul_le_mul_right _ (by omega)
    _ < 7200 := by
      have whole := Nat.mul_div_le 7200 im.n
      rw [Nat.sub_mul]
      by_cases hq : 7200 / im.n = 0
      · simp [hq]
      · omega

/-- R9, R16: the list built at entry to PHASED is that of the standing marks, each ahead. -/
theorem Image.entryMarks_perm (im : Image) (c : Nat) : (im.entryMarks c).Perm
    (([(.cycle, 0, none), (.camWindowEnd, (im.camStart + im.camWidth) % 7200, none)]
        ++ (List.range im.n).map (fun k => (.firing, k * (7200 / im.n), some k))
        ++ (List.range im.n).map (fun k => (.segment, (k * (7200 / im.n) + im.sigma) % 7200, some k))
        : List (MarkKind × Nat × Option Nat)).map (fun m => {
          kind := m.1, angle := m.2.1, pos := m.2.2
          dist := if (m.2.1 + 7200 - c) % 7200 = 0 then 7200 else ((m.2.1 + 7200 - c) % 7200 : Nat) })) := by
  refine (foldl_insertMark_perm (fun m : MarkKind × Nat × Option Nat =>
    { kind := m.1, angle := m.2.1, pos := m.2.2, dist := (entryDistance m.2.1 c : Int) }) im.standingMarks []).trans ?_
  have dist : ∀ x : Nat, (entryDistance x c : Int) = if (x + 7200 - c) % 7200 = 0 then (7200 : Int) else (((x + 7200 - c) % 7200 : Nat) : Int) := by
    intro x
    unfold entryDistance
    split <;> rfl
  have firing : (List.range im.n).map (fun k => ((.firing, (k * im.interval) % 7200, some k) : MarkKind × Nat × Option Nat))
      = (List.range im.n).map (fun k => (.firing, k * (7200 / im.n), some k)) :=
    List.map_congr_left fun k hk => by rw [Image.interval, im.firingAngle_mod (List.mem_range.mp hk)]
  rw [List.append_nil, ← firing]
  have stood : im.standingMarks.Perm ([(.cycle, 0, none), (.camWindowEnd, (im.camStart + im.camWidth) % 7200, none)]
      ++ (List.range im.n).map (fun k => (.firing, (k * im.interval) % 7200, some k))
      ++ (List.range im.n).map (fun k => (.segment, (k * im.interval + im.sigma) % 7200, some k))) :=
    ((flatMap_pair_perm _ _ _).cons _).cons _
  refine (stood.map _).trans (.of_eq (List.map_congr_left fun m _ => ?_))
  rw [dist]

/-! ## Cam edges -/

theorem camEdge_before_lock {u : State} (h : u.tracker.sync = .stopped ∨ u.tracker.sync = .seeking) : camEdge u = u := by
  unfold camEdge
  rcases h with h | h <;> rw [h]

/-- Settles O28. -/
theorem camEdgeFindsThePhase : Obligations.CamEdgeFindsThePhase := by
  intro s τ angle hdue im a locked inside standing phasedAt
  have sync : a.tracker.sync = s.tracker.sync := s.advance_sync τ
  have edge : locked → camEdge a = if inside angle then a.onTracker (Tracker.enterPhased im τ angle)
      else if inside (angle + 3600) then a.onTracker (Tracker.enterPhased im τ (angle + 3600)) else a := by
    intro ⟨hl, ha⟩
    unfold camEdge
    rw [sync, hl, ha]
    rfl
  have enters : ∀ c, camEdge a = a.onTracker (Tracker.enterPhased im τ c) → phasedAt c := fun c hc =>
    ⟨_, im.entryMarks c, rfl, State.settles_as hc hdue, im.entryMarks_sorted c, im.entryMarks_perm c⟩
  refine ⟨fun h => ⟨_, rfl, State.settles_as (camEdge_before_lock (by rwa [sync])) hdue⟩, fun hl hin => enters _ ?_, fun hl hout hin => enters _ ?_,
    fun hl hout hout' => ⟨_, rfl, State.settles_as ?_ hdue⟩⟩
  · rw [edge hl, if_pos hin]
  · rw [edge hl, if_neg (by rw [hout]; decide), if_pos hin]
  · rw [edge hl, if_neg (by rw [hout]; decide), if_neg (by rw [hout']; decide)]

/-- Settles O29: an edge inside the window, and one outside it. -/
theorem camEdgeAgreesOrDropsThePhase : Obligations.CamEdgeAgreesOrDropsThePhase := by
  intro s τ angle hf hp ha im a inside
  have sync : a.tracker.sync = .phased := (s.advance_sync τ).trans hp
  have edge : camEdge a = if inside then a.onTracker (fun tr => { tr with camSeen := true, camMiss := 0 }) else a.camMismatch := by
    unfold camEdge
    rw [sync, ha]
    rfl
  refine ⟨fun hin => ⟨_, rfl, State.settles_as (edge.trans (if_pos hin)) hf.due⟩, fun hout => ?_⟩
  have lost : camEdge a = a.camMismatch := edge.trans (if_neg (by rw [hout]; decide))
  obtain ⟨tracker, estimator, records, chans, took, node, peers, context, link⟩ := State.camMismatch_settles (u := a) (hf.advance τ)
  rw [← lost] at tracker estimator records chans took node peers context link
  have passed : a.occurrence .camMismatch none none none = {
      cls := .camMismatch, cycle := s.tracker.cycleCount, angle := some angle, station := none, kind := none, cyl := none } := by
    have phased : a.tracker.faultAngle = some angle := (if_pos sync).trans ha
    rw [← phased]
    exact s.advance_occurrence τ _ _ _ _
  rw [passed] at took
  refine ⟨_, rfl, tracker.trans ?_, estimator, records, chans, took, node, peers, context, link⟩
  unfold Tracker.mismatched Tracker.dropPhase
  rw [ha, show a.tracker.chain = s.tracker.chain from (congrArg Tracker.chain (s.advance_frame τ)).trans rfl]
  rfl

end Sys2Proof.Machine

/-! # Segment boundaries and the shock that they find (R19, R20, R37, R68, R126 to R128) -/

namespace Sys2Proof.Machine

/-! ## The peak of a segment (R37) -/

/-- The shock peak of an ENABLED channel. -/
def Channel.peak (c : Channel) : Nat := if c.state = .enabled then c.shockPeak else 0

/-- R37: the larger peak of the ENABLED channels. -/
def State.topPeak (s : State) : Nat := max s.chanA.peak s.chanB.peak

/-- R127: an ENABLED channel's peak reaches the shock threshold. -/
def State.shocked (s : State) : Bool :=
  decide ((s.chanA.state = .enabled ∨ s.chanB.state = .enabled) ∧ s.params.shockThr ≤ s.topPeak)

/-- R128: a local shock queues a JOLT. -/
def State.signals (s : State) : Bool := decide ((s.node.state = .running ∨ s.node.state = .hold) ∧ s.context.joltGuard = none)

theorem State.segmentPeak_eq (s : State) :
    s.segmentPeak = if s.chanA.state = .enabled ∨ s.chanB.state = .enabled then some s.topPeak else none := by
  unfold State.segmentPeak State.topPeak Channel.peak
  cases ha : s.chanA.state <;> cases hb : s.chanB.state <;> simp

theorem Channel.restartPeak_of_not {c : Channel} (h : c.state ≠ .enabled) : c.restartPeak = c := if_neg h

/-! ## What a boundary's peak does (R126 to R128) -/

/-- R126: the hold that a shock of duration `d` leaves. -/
def ShockHold.after (d : Nat) (hold : Option ShockHold) : ShockHold :=
  match hold with
  | none => { left := d, cause := .ownShock }
  | some h => if h.left < d then { left := d, cause := .ownShock } else h

/-- What a boundary leaves in the Context Unit. -/
def State.peakContext (s : State) : Context :=
  { s.context with
    hold := if s.shocked then some (ShockHold.after (s.params.shockHold * 20000) s.context.hold) else s.context.hold
    joltGuard := if s.shocked && s.signals then some (s.params.shockHold * 10000) else s.context.joltGuard }

/-- R68: what a boundary leaves in the Record Table before a close. -/
def State.peakRecords (s : State) : List (Option Record) :=
  if s.shocked = true ∧ s.context.hold = none then s.records.map (Option.map fun r => { r with shock := true }) else s.records

theorem State.extendHold_eq (s : State) (d : Nat) : s.extendHold d .ownShock = { s with
    context := { s.context with hold := some (ShockHold.after d s.context.hold) }
    records := if s.context.hold = none then s.records.map (Option.map fun r => { r with shock := true }) else s.records } := by
  unfold State.extendHold ShockHold.after
  cases hh : s.context.hold with
  | none => rfl
  | some h =>
    by_cases hl : h.left < d
    · simp only [hl, if_true, reduceCtorEq, if_false]
      rfl
    · simp only [hl, reduceCtorEq, if_false]
      rw [← hh]

theorem State.considerJolt_body (s : State) (peak : Nat) : (s.considerJolt peak).body = (s.onContext (fun c => { c with
    joltGuard := if s.signals then some (s.params.shockHold * 10000) else c.joltGuard })).body := by
  unfold State.considerJolt State.signals
  by_cases h : (s.node.state = .running ∨ s.node.state = .hold) ∧ s.context.joltGuard = none
  · rw [if_pos h]
    have queued := State.queueReport_body s .jolt none (joltPayload peak s.params.shockHold)
    simp only [State.onContext, h, decide_true, and_self, if_true]
    exact congrArg (fun u : State => ({ u with context := { u.context with joltGuard := some (s.params.shockHold * 10000) } } : State)) queued
  · rw [if_neg h, decide_eq_false h]
    rfl

/-- R37, R127: a boundary without a shock restarts the peaks. -/
theorem State.boundaryPeak_of_quiet {s : State} (h : s.shocked = false) : s.boundaryPeak = s.onChans Channel.restartPeak := by
  unfold State.boundaryPeak
  rw [s.segmentPeak_eq]
  split
  · next p hp =>
    split at hp
    · next he =>
      cases hp
      exact if_neg fun ht => of_decide_eq_false h ⟨he, ht⟩
    · cases hp
  · next hp =>
    split at hp
    · cases hp
    · next he =>
      obtain ⟨ha, hb⟩ := not_or.mp he
      unfold State.onChans State.onChanB State.onChanA
      dsimp only
      rw [Channel.restartPeak_of_not ha, Channel.restartPeak_of_not hb]

/-- R127: a shock extends the hold and may queue a JOLT. -/
theorem State.boundaryPeak_of_shock {s : State} (h : s.shocked = true) :
    s.boundaryPeak = ((s.onChans Channel.restartPeak).extendHold (s.params.shockHold * 20000) .ownShock).considerJolt s.topPeak := by
  unfold State.boundaryPeak
  obtain ⟨he, ht⟩ := of_decide_eq_true h
  rw [s.segmentPeak_eq, if_pos he]
  exact if_pos ht

theorem State.boundaryPeak_body (s : State) : s.boundaryPeak.body = { s with
    chanA := s.chanA.restartPeak, chanB := s.chanB.restartPeak, context := s.peakContext, records := s.peakRecords }.body := by
  unfold State.peakContext State.peakRecords
  by_cases h : s.shocked = true
  · rw [State.boundaryPeak_of_shock h, State.considerJolt_body, State.extendHold_eq]
    simp only [h, true_and, Bool.true_and, if_true]
    rfl
  · rw [State.boundaryPeak_of_quiet (Bool.eq_false_iff.mpr h)]
    simp only [h, false_and, Bool.false_and, if_false, Bool.false_eq_true]
    rfl

theorem State.queueReport_atRest {s : State} (h : s.AtRest) (k : Kind) (c : Option Nat) (p : List Byte) : (s.queueReport k c p).AtRest :=
  foldl_atRest State.occur_atRest (fun _ h => State.mem_overflowOf h) (s := (s.putReport k c p).1) ⟨h.advisory, h.due⟩

theorem State.considerJolt_atRest {s : State} (h : s.AtRest) (peak : Nat) : (s.considerJolt peak).AtRest := by
  unfold State.considerJolt
  split
  · have queued := State.queueReport_atRest h .jolt none (joltPayload peak s.params.shockHold)
    exact ⟨queued.advisory, queued.due⟩
  · exact h

theorem State.boundaryPeak_atRest {s : State} (h : s.AtRest) : s.boundaryPeak.AtRest := by
  by_cases hs : s.shocked = true
  · rw [State.boundaryPeak_of_shock hs, State.extendHold_eq]
    refine State.considerJolt_atRest ?_ _
    exact ⟨h.advisory, h.due⟩
  · rw [State.boundaryPeak_of_quiet (Bool.eq_false_iff.mpr hs)]
    exact ⟨h.advisory, h.due⟩

/-! ## A JOLT that waits (R128, R146) -/

/-- A JOLT with these contents waits. -/
def Link.Holds (p : List Byte) (l : Link) : Prop := ∃ e ∈ l.queue, e.kind = .jolt ∧ e.payload = p

/-- R146: a waiting JOLT gives way to no report but another JOLT. -/
theorem State.putReport_holds {s : State} {p : List Byte} (h : s.link.Holds p) {k : Kind} (hk : k ≠ .jolt) (c : Option Nat) (q : List Byte) :
    (s.putReport k c q).1.link.Holds p := by
  obtain ⟨e, he, hjolt, hp⟩ := h
  have higher : Kind.jolt.code < k.code := by
    cases k with
    | jolt => exact absurd rfl hk
    | _ => decide
  exact ⟨e, putEntry_keeps_higher he (by rw [hjolt]; exact higher), hjolt, hp⟩

theorem State.holds_handOffs (p : List Byte) : State.HandOffs (fun s => s.link.Holds p) where
  put s q h := State.putReport_holds h (by decide) none q
  raise s x h := State.putReport_holds (s := s.onAlert (AlertUnit.latchSource x)) h (by decide) none []
  count _ _ h := h
  first _ _ _ h := h
  overflow _ h := h
  due _ h := h

/-- R128: a JOLT is queued with the peak and the hold. -/
theorem State.boundaryPeak_jolt {s : State} (h : s.shocked = true) (hn : s.signals = true) (ht : s.link.Takes .jolt none) :
    s.boundaryPeak.link.Holds (joltPayload s.topPeak s.params.shockHold) := by
  rw [State.boundaryPeak_of_shock h, State.extendHold_eq]
  unfold State.considerJolt
  rw [if_pos (by exact of_decide_eq_true hn)]
  refine (State.holds_handOffs (joltPayload s.topPeak s.params.shockHold)).report ?_
  obtain ⟨e, he, hk, -, hp⟩ := State.putReport_queues_of_takes (s := { s.onChans Channel.restartPeak with
    context := _, records := _ }) ht (joltPayload s.topPeak s.params.shockHold)
  exact ⟨e, he, hk, hp⟩

/-! ## The period (R20, R42) -/

/-- The history that a boundary at the instant of the state leaves. -/
def State.boundaryEstimator (s : State) : Estimator :=
  match s.tracker.chain with
  | some u => s.estimator.shift (clampPeriod (ticksFrom u s.now))
  | none => s.estimator

theorem State.onEstimator_body_congr {s t : State} (h : t.body = s.body) (f : Estimator → Estimator) :
    (t.onEstimator f).body = (s.onEstimator f).body :=
  congrArg (fun u : State => u.onEstimator f) h

/-- R19: a boundary of CRANK_LOCKED, which ends no position, outside the queue, the faults and the alerts. -/
theorem State.boundary_none_body (s : State) (order : BoundaryOrder) : (s.boundary none order).body = { s with
    tracker := { s.tracker with chain := some s.now }, estimator := s.boundaryEstimator
    chanA := s.chanA.restartPeak, chanB := s.chanB.restartPeak, context := s.peakContext, records := s.peakRecords }.body := by
  unfold State.boundary State.boundaryEstimator
  dsimp only
  cases s.tracker.chain with
  | none => exact State.boundaryPeak_body _
  | some u =>
    cases order with
    | segmentEndFirst => exact State.boundaryPeak_body _
    | peakFirst => exact State.onEstimator_body_congr (State.boundaryPeak_body _) _

/-- R19: a boundary of CRANK_LOCKED passes no withdrawal. -/
theorem State.boundary_none_atRest {s : State} (h : s.AtRest) (order : BoundaryOrder) : (s.boundary none order).AtRest := by
  have peaked : ∀ t : State, t.AtRest → t.boundaryPeak.AtRest := fun _ => State.boundaryPeak_atRest
  unfold State.boundary
  dsimp only
  split
  · cases order with
    | segmentEndFirst => exact peaked _ ⟨h.advisory, h.due⟩
    | peakFirst =>
      have first := peaked (s.onTracker (fun tr => { tr with chain := some s.now })) ⟨h.advisory, h.due⟩
      exact ⟨first.advisory, first.due⟩
  · exact peaked _ ⟨h.advisory, h.due⟩

theorem State.boundary_none_jolt {s : State} (h : s.shocked = true) (hn : s.signals = true) (ht : s.link.Takes .jolt none)
    (order : BoundaryOrder) : (s.boundary none order).link.Holds (joltPayload s.topPeak s.params.shockHold) := by
  unfold State.boundary
  dsimp only
  split
  · cases order with
    | segmentEndFirst => exact State.boundaryPeak_jolt (s := (s.onTracker _).onEstimator _) h hn ht
    | peakFirst => exact State.boundaryPeak_jolt (s := s.onTracker _) h hn ht
  · exact State.boundaryPeak_jolt (s := s.onTracker _) h hn ht

end Sys2Proof.Machine

/-! # Tooth edges: the count from the gap, and its errors (R2 to R8) -/

namespace Sys2Proof.Machine

/-! ## What an edge measures (R3, R4, R8) -/

/-- R3, R8: with the period measured, what an edge leaves behind. -/
theorem Tracker.estimate_eq {tr : Tracker} {q : Nat} (h : tr.periodCur = some q) (im : Image) (candidate : Bool) :
    tr.estimate im candidate = { tr with
      span := some (if candidate then im.gap + 1 else 1), perPitch := some (max 1 (q / if candidate then im.gap + 1 else 1))
      stallLeft := some (min ((im.gap + 3) * max 1 (q / if candidate then im.gap + 1 else 1)) 4000000) } := by
  unfold Tracker.estimate
  rw [h]
  rfl

theorem Tracker.measure_eq {tr : Tracker} {u : Tick} (h : tr.lastEdge = some u) (now : Tick) :
    tr.measure now = { tr with lastEdge := some now, periodPrev := tr.periodCur, periodCur := some (now - u).toNat } := by
  unfold Tracker.measure
  rw [h]
  rfl

/-- R4: the gap test of an edge on the period before it. -/
def gapTest (im : Image) (before : Option Nat) (period : Nat) : Bool :=
  match before with
  | some p => decide ((2 * im.gap + 1) * p < 2 * period)
  | none => false

theorem Tracker.gapCandidate_measure {tr : Tracker} {u : Tick} (h : tr.lastEdge = some u) (im : Image) (now : Tick) :
    (tr.measure now).gapCandidate im = gapTest im tr.periodCur (now - u).toNat := by
  rw [Tracker.measure_eq h]
  unfold Tracker.gapCandidate gapTest
  cases tr.periodCur <;> rfl

theorem State.advance_lastEdge (s : State) (τ : Tick) : (s.advance τ).tracker.lastEdge = s.tracker.lastEdge :=
  (congrArg Tracker.lastEdge (s.advance_frame τ)).trans rfl

theorem State.advance_periodCur (s : State) (τ : Tick) : (s.advance τ).tracker.periodCur = s.tracker.periodCur :=
  (congrArg Tracker.periodCur (s.advance_frame τ)).trans rfl

theorem State.advance_toothIndex (s : State) (τ : Tick) : (s.advance τ).tracker.toothIndex = s.tracker.toothIndex :=
  (congrArg Tracker.toothIndex (s.advance_frame τ)).trans rfl

theorem State.advance_refCount (s : State) (τ : Tick) : (s.advance τ).tracker.refCount = s.tracker.refCount :=
  (congrArg Tracker.refCount (s.advance_frame τ)).trans rfl

theorem State.advance_edgeAngle (s : State) (τ : Tick) : (s.advance τ).tracker.edgeAngle = s.tracker.edgeAngle :=
  (congrArg Tracker.edgeAngle (s.advance_frame τ)).trans rfl

theorem State.advance_chain (s : State) (τ : Tick) : (s.advance τ).tracker.chain = s.tracker.chain :=
  (congrArg Tracker.chain (s.advance_frame τ)).trans rfl

/-! ## A boundary of CRANK_LOCKED, or none -/

/-- R19: an accepted edge of CRANK_LOCKED writes the chain at most, in the tracker, and passes no withdrawal. -/
theorem State.lockedBoundary_frame {u : State} (h : u.AtRest) (order : BoundaryOrder) :
    (∃ chain, (u.lockedBoundary order).tracker = { u.tracker with chain := chain }) ∧ (u.lockedBoundary order).AtRest
      ∧ (u.lockedBoundary order).cylinders = u.cylinders ∧ (u.lockedBoundary order).peers = u.peers
      ∧ (u.lockedBoundary order).image = u.image ∧ (u.lockedBoundary order).node = u.node := by
  unfold State.lockedBoundary
  split
  · have body := u.boundary_none_body order
    exact ⟨⟨_, State.boundary_tracker _ _ _⟩, State.boundary_none_atRest h order, (State.body_cylinders body).trans rfl,
      (State.body_peers body).trans rfl, (State.body_image body).trans rfl, (State.body_node body).trans rfl⟩
  · exact ⟨⟨u.tracker.chain, rfl⟩, h, rfl, rfl, rfl, rfl⟩

theorem State.lockedBoundary_of_not_locked {u : State} (h : u.tracker.sync ≠ .crankLocked) (order : BoundaryOrder) :
    u.lockedBoundary order = u := if_neg fun hc => h hc.1

/-! ## The edge in each sync state -/

theorem toothEdge_of_not_configured {u : State} (h : ¬u.node.state.configured = true) (order : BoundaryOrder) : toothEdge order u = u := by
  unfold toothEdge
  rw [if_neg h]

theorem toothEdge_of_stopped {u : State} (h : u.node.state.configured = true) (hs : u.tracker.sync = .stopped) (order : BoundaryOrder) :
    toothEdge order u = u.onTracker (Tracker.startSeeking u.now) := by
  unfold toothEdge
  rw [if_pos h, if_pos hs]

theorem toothEdge_of_seeking {u : State} (h : u.node.state.configured = true) (hs : u.tracker.sync = .seeking) (order : BoundaryOrder) :
    let candidate := (u.tracker.measure u.now).gapCandidate u.params
    toothEdge order u = (((u.onTracker (Tracker.measure u.now)).onTracker (Tracker.seek u.params candidate)).lockedBoundary order).onTracker
      (Tracker.estimate u.params candidate) := by
  unfold toothEdge State.takeTooth
  rw [if_pos h, if_neg (by rw [hs]; decide), hs]
  rfl

theorem Tracker.seek_frame (tr : Tracker) (im : Image) (candidate : Bool) :
    tr.seek im candidate = { tr with
      sync := (tr.seek im candidate).sync, refCount := (tr.seek im candidate).refCount
      toothIndex := (tr.seek im candidate).toothIndex, edgeAngle := (tr.seek im candidate).edgeAngle, angle := (tr.seek im candidate).angle } := by
  unfold Tracker.seek
  split
  · split <;> rfl
  · split
    · split <;> rfl
    · split <;> rfl

/-- R6: the table of SEEKING. -/
theorem Tracker.seek_table {tr : Tracker} (hs : tr.sync = .seeking) (im : Image) (candidate : Bool) :
    (tr.refCount = none → (tr.seek im candidate).sync = .seeking ∧ (tr.seek im candidate).refCount = if candidate then some 0 else none)
      ∧ (∀ n, tr.refCount = some n → n + 1 ≠ im.teeth - im.gap →
          (tr.seek im candidate).sync = .seeking ∧ (tr.seek im candidate).refCount = if candidate then some 0 else some (n + 1))
      ∧ (∀ n, tr.refCount = some n → n + 1 = im.teeth - im.gap → candidate = false →
          (tr.seek im candidate).sync = .seeking ∧ (tr.seek im candidate).refCount = none)
      ∧ (∀ n, tr.refCount = some n → n + 1 = im.teeth - im.gap → candidate = true → tr.seek im candidate = tr.lock im) := by
  unfold Tracker.seek Image.realTeeth
  refine ⟨fun hr => ?_, fun n hr hn => ?_, fun n hr hn hc => ?_, fun n hr hn hc => ?_⟩ <;> rw [hr]
  · cases candidate
    · exact ⟨hs, hr⟩
    · exact ⟨hs, rfl⟩
  · dsimp only
    rw [if_neg hn]
    cases candidate <;> exact ⟨hs, rfl⟩
  · dsimp only
    rw [if_pos hn, hc]
    exact ⟨hs, rfl⟩
  · dsimp only
    rw [if_pos hn, hc]
    rfl

/-- Settles O23. -/
theorem seekingBeginsAndCountsFromTheGap : Obligations.SeekingBeginsAndCountsFromTheGap := by
  intro s τ order hf im a acts
  have sync : a.tracker.sync = s.tracker.sync := s.advance_sync τ
  refine ⟨fun h => ⟨_, rfl, State.settles_as (toothEdge_of_not_configured (u := a) h order) hf.due⟩,
    fun h hs => ⟨_, rfl, State.settles_as (toothEdge_of_stopped (u := a) h (sync.trans hs) order) hf.due⟩, ?_⟩
  intro u h hs hu period candidate span per
  have edge := toothEdge_of_seeking (u := a) h (sync.trans hs) order
  have last : a.tracker.lastEdge = some u := (s.advance_lastEdge τ).trans hu
  have test : (a.tracker.measure τ).gapCandidate im = candidate := by
    rw [Tracker.gapCandidate_measure last, s.advance_periodCur τ]
    unfold gapTest
    rfl
  let measured : Tracker := { a.tracker with lastEdge := some τ, periodPrev := a.tracker.periodCur, periodCur := some period }
  let sought := measured.seek im candidate
  let x : State := { a with tracker := sought }
  replace edge : toothEdge order a = (x.lockedBoundary order).onTracker (Tracker.estimate im candidate) := by
    rw [edge, show (a.tracker.measure a.now).gapCandidate a.params = candidate from test]
    unfold State.onTracker
    rw [show a.tracker.measure a.now = measured from Tracker.measure_eq last τ]
    rfl
  obtain ⟨⟨chain, tracker⟩, rest, cylinders, peers, image, node⟩ := State.lockedBoundary_frame (u := x) ⟨(hf.sound.atRest hf.due).advisory, hf.due⟩ order
  have settled := State.settles_as edge (by exact rest.due)
  have body := settled.body_eq
  have frame := measured.seek_frame im candidate
  obtain ⟨t, ht⟩ : ∃ t, t = (toothEdge order a).settle := ⟨_, rfl⟩
  rw [← ht] at body
  have found : t.tracker = { sought with
      chain := chain, span := some span, perPitch := some per, stallLeft := some (min ((im.gap + 3) * per) 4000000) } := by
    rw [State.body_tracker body]
    show (x.lockedBoundary order).tracker.estimate im candidate = _
    rw [tracker]
    have cur : sought.periodCur = some period := (congrArg Tracker.periodCur frame).trans rfl
    exact Tracker.estimate_eq (tr := { sought with chain := chain }) cur im candidate
  obtain ⟨fresh, counting, missed, locking⟩ := measured.seek_table (by exact sync.trans hs) im candidate
  have count : measured.refCount = s.tracker.refCount := s.advance_refCount τ
  refine ⟨t, by rw [ht]; rfl, ?_⟩
  rw [State.body_tracker body] at found ⊢
  rw [found]
  refine ⟨(congrArg Tracker.lastEdge frame).trans rfl, ((congrArg Tracker.periodPrev frame).trans rfl).trans (s.advance_periodCur τ),
    (congrArg Tracker.periodCur frame).trans rfl, rfl, rfl, rfl, fun hr => fresh (count.trans hr),
    fun n hr hn => counting n (count.trans hr) hn, fun n hr hn hc => missed n (count.trans hr) hn hc, fun n hr hn hc => ?_,
    (State.body_cylinders body).trans cylinders, (State.body_peers body).trans peers, (State.body_image body).trans image,
    (State.body_node body).trans node, fun hseek => ?_⟩
  · show sought.sync = _ ∧ sought.refCount = _ ∧ sought.toothIndex = _ ∧ sought.edgeAngle = _ ∧ sought.angle = _
    rw [show sought = measured.lock im from locking n (count.trans hr) hn hc]
    exact ⟨rfl, rfl, rfl, rfl, rfl⟩
  · have loose : x.lockedBoundary order = x :=
      State.lockedBoundary_of_not_locked (by show sought.sync ≠ _; rw [show sought.sync = .seeking from hseek]; decide) order
    rw [← found, body, loose]
    rfl

/-! ## The tooth-count error (R7, R12, R21) -/

/-- An edge that disagrees with the tooth count, in the state that its measure leaves. -/
theorem toothEdge_of_error {u : State} (h : u.node.state.configured = true)
    (hs : u.tracker.sync = .phased ∨ u.tracker.sync = .crankLocked) {measured : Tracker} (hm : u.tracker.measure u.now = measured)
    (hno : measured.edgeAccepted u.params (measured.gapCandidate u.params) = false) (order : BoundaryOrder) :
    toothEdge order u = (({ u with tracker := measured } : State).toothCountError (measured.gapCandidate u.params)
      (u.occurrence .crankLost none none none)).onTracker (Tracker.estimate u.params (measured.gapCandidate u.params)) := by
  have moved : u.onTracker (Tracker.measure u.now) = { u with tracker := measured } := by
    rw [← hm]
    rfl
  unfold toothEdge State.takeTooth
  rw [if_pos h, if_neg (by rcases hs with hs | hs <;> rw [hs] <;> decide)]
  dsimp only
  rw [moved]
  rcases hs with hs | hs <;> rw [hs] <;> dsimp only <;> rw [if_neg (by exact Bool.eq_false_iff.mp hno)]

/-- R7, R12, R21, R150: an error to the end of its event, with the estimate of its edge. -/
theorem State.toothCountError_settles {u v : State} (hf : u.FaultsOk) {lost : Occurrence} (hl : lost.cls = .crankLost) {candidate : Bool}
    {f : Tracker → Tracker} (hv : v = (u.toothCountError candidate lost).onTracker f) :
    v.settle.tracker = f (u.tracker.miscounted candidate (u.tracker.sync == .phased)) ∧ v.settle.estimator = Estimator.empty
      ∧ FaultUnit.Took lost u.faults v.settle.faults
      ∧ (u.tracker.sync = .phased → (∀ r ∈ v.settle.records, r = none)
        ∧ (∀ ch, v.settle.chan ch = { u.chan ch with integrator := .idle, shockPeak := 0 })
        ∧ v.settle.node = u.node ∧ v.settle.peers = u.peers ∧ v.settle.context = u.context ∧ v.settle.link.bare = u.link.bare)
      ∧ (u.tracker.sync ≠ .phased →
        v.settle.body = ({ u with tracker := f (u.tracker.miscounted candidate false), estimator := Estimator.empty } : State).body) := by
  have hb : (u.occur lost).body = u.body := u.occur_body lost
  have htracker := State.body_tracker hb
  have gentle : (u.faults.cls lost.cls).severity ≠ .withdrawing := by
    rw [hl]
    exact hf.sound.gentle (k := .crankLost) (by decide) (by decide)
  rw [State.toothCountError_eq] at hv
  by_cases hp : u.tracker.sync = .phased
  · rw [if_pos (beq_iff_eq.mpr hp)] at hv
    obtain ⟨cs, e⟩ := State.lossEvent_eq (((u.occur lost).onTracker (Tracker.miscounted candidate true)).onEstimator fun _ => Estimator.empty)
    rw [e] at hv
    obtain ⟨settled, took⟩ := State.occur_then_settles (v := v) hf (by rw [hl]; decide) (.inl gentle) (by rw [hv]; rfl)
    have body := settled.body_eq
    generalize v.settle = t at took body
    rw [hv] at body
    clear e settled hv
    generalize u.occur lost = g at hb body htracker
    refine ⟨(State.body_tracker body).trans ?_, (State.body_estimator body).trans rfl, took, fun _ => ⟨fun r hr => ?_, fun ch => ?_,
      (State.body_node body).trans (State.body_node hb :), (State.body_peers body).trans (State.body_peers hb :),
      (State.body_context body).trans (State.body_context hb :), (State.body_link body).trans (State.body_link hb :)⟩, fun h => absurd hp h⟩
    · rw [← htracker, beq_iff_eq.mpr (show g.tracker.sync = .phased by rw [htracker]; exact hp)]
      rfl
    · rw [State.body_records body] at hr
      obtain ⟨-, -, rfl⟩ := List.mem_map.mp hr
      rfl
    · rw [State.body_chan body, ← State.body_chan hb]
      cases ch <;> rfl
  · have loose : (u.tracker.sync == Sync.phased) = false := by simpa using hp
    rw [loose, if_neg Bool.false_ne_true] at hv
    obtain ⟨settled, took⟩ := State.occur_then_settles (v := v) hf (by rw [hl]; decide) (.inl gentle) (by rw [hv]; rfl)
    have body : v.settle.body = ({ u with tracker := f (u.tracker.miscounted candidate false), estimator := Estimator.empty } : State).body := by
      rw [settled.body_eq, hv, ← htracker]
      exact congrArg (fun t : State => ({ t with
        tracker := f ((u.occur lost).tracker.miscounted candidate false), estimator := Estimator.empty } : State)) hb
    rw [loose]
    exact ⟨(State.body_tracker body).trans rfl, (State.body_estimator body).trans rfl, took, fun h => absurd h hp, fun _ => body⟩

/-- Settles O26. -/
theorem toothCountErrorLosesThePhase : Obligations.ToothCountErrorLosesThePhase := by
  intro s τ u p i order hf hconf hs hu hp hi im a phased period candidate span per hne
  have sync : a.tracker.sync = s.tracker.sync := s.advance_sync τ
  have last : a.tracker.lastEdge = some u := (s.advance_lastEdge τ).trans hu
  have cur : a.tracker.periodCur = some p := (s.advance_periodCur τ).trans hp
  let measured : Tracker := { a.tracker with lastEdge := some τ, periodPrev := some p, periodCur := some period }
  have hm : a.tracker.measure τ = measured := by rw [Tracker.measure_eq last, cur]
  have test : measured.gapCandidate im = candidate := by
    rw [← hm, Tracker.gapCandidate_measure last, cur]
    rfl
  have error : measured.edgeAccepted im (measured.gapCandidate im) = false := by
    unfold Tracker.edgeAccepted
    rw [test, show measured.toothIndex = some i from (s.advance_toothIndex τ).trans hi]
    exact beq_eq_false_iff_ne.mpr hne
  have edge := toothEdge_of_error (u := a) hconf (by rw [sync]; exact hs) hm error order
  rw [show measured.gapCandidate a.params = candidate from test] at edge
  obtain ⟨tracker, estimator, took, lossed, kept⟩ := State.toothCountError_settles (u := { a with tracker := measured }) hf rfl edge
  have passed : a.occurrence .crankLost none none none = {
      cls := .crankLost, cycle := s.tracker.cycleCount, angle := if phased then a.tracker.angle else none
      station := none, kind := none, cyl := none } := by
    rw [State.advance_occurrence]
    unfold Tracker.faultAngle
    rw [sync]
  have moved : measured.sync = s.tracker.sync := sync
  have warm : measured.warmUp = s.tracker.warmUp := s.advance_warmUp τ
  have cleared : ∀ b, (measured.miscounted candidate b).estimate im candidate = { a.tracker with
      sync := .seeking, lastEdge := some τ, periodPrev := some p, periodCur := some period, span := some span
      perPitch := some per, refCount := if candidate then some 0 else none, toothIndex := none, edgeAngle := none
      angle := none, phase := none, warmUp := if b then 0 else s.tracker.warmUp, chain := none, marks := []
      stallLeft := some (min ((im.gap + 3) * per) 4000000) } := fun b => by
    rw [Tracker.estimate_eq (q := period) rfl, ← warm]
    rfl
  replace tracker : (toothEdge order a).settle.tracker = _ :=
    tracker.trans ((cleared _).trans (by rw [show (measured.sync == Sync.phased) = decide phased by rw [moved]; rfl]))
  rw [passed] at took
  refine ⟨_, rfl, tracker.trans ?_, estimator, took, fun h => lossed (moved.trans h), fun h => ?_⟩
  · by_cases h : phased <;> simp [h]
  · have body := kept fun hm => h (moved.symm.trans hm)
    replace body : (toothEdge order a).settle.body = ({ a with tracker := _, estimator := Estimator.empty } : State).body :=
      body.trans (congrArg (fun tr => ({ a with tracker := tr, estimator := Estimator.empty } : State).body) (cleared false))
    have final : State.tracker (State.settle _) = _ := State.body_tracker body
    rw [show State.tracker (State.settle _) = _ from final]
    exact body

end Sys2Proof.Machine

/-! # Cycle marks and firing marks (R13, R15, R16, R59 to R61, R92, R117, R123, R124) -/

namespace Sys2Proof.Machine

/-! ## What queues reports and raises sources, and no more -/

/-- From `s` to `t` no class but QUEUE_OVERFLOW was counted, no first fault was lost, no withdrawal was passed and no latch was
cleared. -/
structure State.Calm (s t : State) : Prop where
  counts : s.CountsOverflow t
  overflow : s.faults.overflow = true → t.faults.overflow = true
  faults : s.FaultsOk → t.FaultsOk
  latches : s.alert.sources.length = 8 → t.alert.sources.length = 8
    ∧ ∀ x, x ≠ .firstFault → (s.alert.src x).latch = true → (t.alert.src x).latch = true

namespace State.Calm

theorem refl (s : State) : s.Calm s := ⟨.refl s, id, id, fun h => ⟨h, fun _ _ => id⟩⟩

theorem trans {s t u : State} (h : s.Calm t) (h' : t.Calm u) : s.Calm u where
  counts := h.counts.trans h'.counts
  overflow hs := h'.overflow (h.overflow hs)
  faults hs := h'.faults (h.faults hs)
  latches hs := ⟨(h'.latches (h.latches hs).1).1, fun x hx hl => (h'.latches (h.latches hs).1).2 x hx ((h.latches hs).2 x hx hl)⟩

/-- A write that leaves the Fault Unit, the Alert Unit and the withdrawal. -/
theorem of_eq {s t : State} (hf : t.faults = s.faults) (ha : t.alert.sources = s.alert.sources) (hd : t.withdrawDue = s.withdrawDue) :
    s.Calm t where
  counts := ⟨fun _ _ => by rw [hf], fun _ h => by rw [hf]; exact h⟩
  overflow h := by rw [hf]; exact h
  faults h := (State.faultsOk_iff t).mpr ⟨by rw [hf]; exact h.sound, hd.trans h.due⟩
  latches h := ⟨by rw [ha]; exact h, fun x _ hl => by rw [AlertUnit.src_congr ha]; exact hl⟩

theorem queueReport (s : State) (k : Kind) (c : Option Nat) (p : List Byte) : s.Calm (s.queueReport k c p) where
  counts := s.queueReport_countsOverflow k c p
  overflow h := State.overflow_handOffs.report (s := s) h
  faults h := (State.faultsOk_iff _).mpr ⟨State.sound_handOffs.report (s := s) h.sound,
    (State.queueReport_atRest (h.sound.atRest h.due) k c p).due⟩
  latches h := ⟨(State.queueReport_keepsSetup s k c p).sources_length.trans h,
    fun x hx hl => by rw [(State.queueReport_occurredTo s k c p).sources x hx]; exact hl⟩

theorem raise (s : State) (x : AlertSource) (hx : x ≠ .firstFault) : s.Calm (s.raise x) where
  counts := s.raise_countsOverflow x
  overflow := State.overflow_handOffs.raised x
  faults h := (State.faultsOk_iff _).mpr ⟨State.sound_handOffs.raised x h.sound, (State.raise_atRest (h.sound.atRest h.due) x).due⟩
  latches h := ⟨(State.raise_keepsSetup s x).sources_length.trans h, fun y hy hl => by
    by_cases hyx : y = x
    · rw [hyx, State.raise_src h hx]
    · rw [State.raise_src_of_ne s hy hyx]
      exact hl⟩

theorem foldl {α : Type} {f : State → α → State} (h : ∀ (s : State) (a : α), s.Calm (f s a)) (l : List α) (s : State) : s.Calm (l.foldl f s) := by
  induction l generalizing s with
  | nil => exact .refl s
  | cons a l ih => exact (h s a).trans (ih (f s a))

theorem raiseWhen (b : Bool) (s : State) {x : AlertSource} (hx : x ≠ .firstFault) : s.Calm (s.raiseWhen b x) := by
  cases b
  · exact .refl s
  · exact .raise s x hx

theorem updateService (s : State) : s.Calm s.updateService := by
  unfold State.updateService
  split
  · exact .refl s
  · refine State.Calm.trans (t := s.onFaults (fun f => { f with service := s.serviceOf })) ?_ (.raise _ .serviceChange (by decide))
    exact ⟨⟨fun _ _ => rfl, fun _ h => h⟩, id, id, fun h => ⟨h, fun _ _ => id⟩⟩

theorem settle {s : State} (h : s.withdrawDue = false) : s.Calm s.settle := by
  have e : s.carryWithdrawal = s := by
    unfold State.carryWithdrawal
    rw [h]
    rfl
  unfold State.settle
  rw [e]
  exact .updateService s

end State.Calm

/-- What was taken stays taken where nothing but reports and raises follows. -/
theorem FaultUnit.Took.calm {o : Occurrence} {f : FaultUnit} {s t : State} (h : FaultUnit.Took o f s.faults)
    (ho : o.cls ≠ .queueOverflow) (ht : s.Calm t) : FaultUnit.Took o f t.faults := by
  obtain ⟨counted, others, captured, full⟩ := h
  exact ⟨(ht.counts.others _ ho).trans counted, fun d hd hne hq => (ht.counts.others d hq).trans (others d hd hne hq),
    fun hm hf => ht.counts.kept _ (captured hm hf),
    fun hm x hx => ⟨ht.counts.kept _ (full hm x hx).1, ht.overflow (full hm x hx).2⟩⟩

/-! ## The Cylinder Table at a cycle mark (R92, R117) -/

theorem State.endBlock_calm (s : State) (c : Nat) : s.Calm (s.endBlock c) := by
  rw [State.endBlock_eq]
  have judged : s.Calm (s.judgedBlock c) :=
    State.Calm.trans (t := s.onCyl c (fun _ => (s.cyl c).judgeBlock s.params)) (.of_eq rfl rfl rfl)
      ((State.Calm.raiseWhen _ _ (by decide)).trans (State.Calm.raiseWhen _ _ (by decide)))
  exact judged.trans ((State.Calm.queueReport _ _ _ _).trans (.of_eq rfl rfl rfl))

theorem State.countCycle_calm (s : State) (c : Nat) : s.Calm (s.countCycle c) := by
  unfold State.countCycle
  split
  · split
    · exact (s.endBlock_calm c).trans (.of_eq rfl rfl rfl)
    · exact .of_eq rfl rfl rfl
  · exact .refl s

theorem State.takeOverIfDue_calm (s : State) (c : Nat) : s.Calm (s.takeOverIfDue c) := by
  unfold State.takeOverIfDue
  split
  · exact State.Calm.trans (t := s.onCyl c CylEntry.takeOver) (.of_eq rfl rfl rfl) (.raise _ _ (by decide))
  · exact .refl s

theorem State.countSilences_calm (s : State) : s.Calm s.countSilences :=
  State.Calm.trans (t := s.onCylinders (fun l => l.map CylEntry.countSilence)) (.of_eq rfl rfl rfl)
    (.foldl State.takeOverIfDue_calm _ _)

theorem State.cylinderCycleMark_calm (s : State) : s.Calm s.cylinderCycleMark := by
  unfold State.cylinderCycleMark
  split
  · exact State.Calm.trans (t := s.setMarkCounted true) (.of_eq rfl rfl rfl)
      ((State.countSilences_calm _).trans (.foldl State.countCycle_calm _ _))
  · exact .of_eq rfl rfl rfl

/-! ## The Context Unit at a cycle mark (R123, R124) -/

theorem State.contextCycleMark_body (s : State) : s.contextCycleMark.body = ({ s with context := s.context.cycleMark } : State).body := by
  unfold State.contextCycleMark
  dsimp only
  split
  · exact (State.fault_body ..).trans rfl
  · rfl

theorem State.contextCycleMark_faultsOk {s : State} (h : s.FaultsOk) : s.contextCycleMark.FaultsOk := by
  unfold State.contextCycleMark
  dsimp only
  split
  · exact State.fault_faultsOk (s := s.onContext Context.cycleMark) h (by decide) (by decide) _ _ _
  · exact h

/-- R124: the count passes 4. -/
theorem State.contextCycleMark_stale {s : State} (h : s.FaultsOk) (hp : s.context.pendingCtx = none) (hf : s.context.freshness = 4) :
    FaultUnit.Took (s.occurrence .contextStale none none none) s.faults s.contextCycleMark.faults := by
  have stale : (!s.context.stale && s.context.cycleMark.stale) = true := by
    unfold Context.stale Context.cycleMark
    rw [hp, hf]
    rfl
  have passes : s.contextCycleMark = (s.onContext Context.cycleMark).fault .contextStale := if_pos stale
  rw [passes]
  exact State.occur_took (s := s.onContext Context.cycleMark) (o := s.occurrence .contextStale none none none) h.sound.length
    (by exact (by decide : FaultClass.contextStale ≠ .queueOverflow))

/-! ## The cycle mark (R13, R15) -/

/-- The state in which the Cylinder Table takes a cycle mark. -/
def State.contextMarked (s : State) : State := (s.onTracker (Tracker.cycleMark s.params)).contextCycleMark

theorem State.contextMarked_body (s : State) :
    s.contextMarked.body = ({ s with tracker := s.tracker.cycleMark s.params, context := s.context.cycleMark } : State).body :=
  State.contextCycleMark_body _

theorem State.cycleMark_faultsOk {s : State} (h : s.FaultsOk) : s.cycleMark.FaultsOk :=
  (State.cylinderCycleMark_calm _).faults (State.contextCycleMark_faultsOk (s := s.onTracker _) h)

theorem State.cycleMark_outer (s : State) : s.cycleMark.outer = ({ s with
    tracker := s.tracker.cycleMark s.params, context := s.context.cycleMark, markCounted := decide (s.node.state = .running) } : State).outer := by
  have marked := State.outer_of_body s.contextMarked_body
  show s.contextMarked.cylinderCycleMark.outer = _
  rw [State.cylinderCycleMark_outer, show s.contextMarked.node = s.node from (State.outer_node marked :)]
  exact congrArg (fun t : State => ({ t with markCounted := decide (s.node.state = .running) } : State)) marked

theorem State.cycleMark_records (s : State) : s.cycleMark.records = s.records :=
  (State.engine_records ((State.cylinderCycleMark_engine _).trans (State.contextCycleMark_engine _))).trans rfl

theorem State.cycleMark_peers (s : State) : s.cycleMark.peers = s.peers :=
  (State.engine_peers ((State.cylinderCycleMark_engine _).trans (State.contextCycleMark_engine _))).trans rfl

/-- R92, R117: out of RUNNING the mark is not counted. -/
theorem State.cycleMark_cylinders {s : State} (h : s.node.state ≠ .running) : s.cycleMark.cylinders = s.cylinders := by
  have marked : s.contextMarked.node = s.node := (State.body_node s.contextMarked_body).trans rfl
  have unmoved : s.cycleMark = s.contextMarked.setMarkCounted false :=
    if_neg (show ¬s.contextMarked.node.state = .running by rw [marked]; exact h)
  rw [unmoved]
  exact (State.body_cylinders s.contextMarked_body).trans rfl

/-! ## Firing marks (R59 to R61, R113) -/

theorem State.openRecord_of_not {u : State} {k c : Nat}
    (h : ¬(u.node.state = .running ∧ u.phasedWarm = true ∧ (u.cyl c).role.judges = true)) : u.openRecord k c = u := if_neg h

theorem State.openRecord_of_free {u : State} {k c slot : Nat}
    (h : u.node.state = .running ∧ u.phasedWarm = true ∧ (u.cyl c).role.judges = true)
    (hfree : u.records[slot]? = some none) (htaken : ∀ i < slot, ∃ r, u.records[i]? = some (some r)) :
    u.openRecord k c = (u.onRecords (fun l => l.set slot (some (u.newRecord slot k c)))).onCyl c
      (fun e => { e with counted := decide (1 ≤ e.block.cycles) && u.markCounted }) := by
  have found : u.records.findIdx? Option.isNone = some slot := by
    rw [List.findIdx?_eq_some_iff_getElem]
    obtain ⟨hlt, he⟩ := List.getElem?_eq_some_iff.mp hfree
    refine ⟨hlt, by rw [he]; rfl, fun i hi => ?_⟩
    obtain ⟨r, hr⟩ := htaken i hi
    obtain ⟨hi', he'⟩ := List.getElem?_eq_some_iff.mp hr
    rw [he']
    exact Bool.false_ne_true
  unfold State.openRecord
  rw [if_pos h, found]

theorem State.firingMark_calm (s : State) (k : Nat) : s.Calm (s.firingMark k) := by
  have control := (s.removeReports fun e => e.kind == .witness && e.cyl == some (s.params.cylAt k)).openRecord_control k (s.params.cylAt k)
  exact .of_eq ((State.control_faults control :).trans rfl) (congrArg AlertUnit.sources ((State.control_alert control :).trans rfl))
    ((State.control_withdrawDue control :).trans rfl)

theorem State.firingMark_core (s : State) (k : Nat) : (s.firingMark k).outer = (s.removeReports
    (fun e => e.kind == .witness && e.cyl == some (s.params.cylAt k))).outer := by
  unfold State.firingMark State.openRecord
  split
  · split <;> rfl
  · rfl

theorem State.firingMark_peers (s : State) (k : Nat) : (s.firingMark k).peers = s.peers := by
  unfold State.firingMark State.openRecord
  split
  · split <;> rfl
  · rfl

/-- No report of a kind waits for a cylinder. -/
def Link.Without (k : Kind) (c : Nat) (l : Link) : Prop := ∀ e ∈ l.queue, ¬(e.kind = k ∧ e.cyl = some c)

/-- Reports of other kinds leave none. -/
theorem State.putReport_without {s : State} {k : Kind} {c : Nat} (h : s.link.Without k c) {k' : Kind} (hk : k' ≠ k) (c' : Option Nat)
    (p : List Byte) : (s.putReport k' c' p).1.link.Without k c := by
  intro e he
  rcases putEntry_cases { kind := k', cyl := c', payload := p, age := s.link.nextAge } s.link.queue with hq | ⟨y, -, hy, -, -, hall⟩
  · exact h e (hq ▸ he)
  · rcases hall e he with rfl | he
    · exact fun hw => hk (hy.symm.trans hw.1)
    · exact h e he

theorem State.without_handOffs {k : Kind} (hk : k ≠ .log ∧ k ≠ .status) (c : Nat) : State.HandOffs (fun s => s.link.Without k c) where
  put _ p h := State.putReport_without h hk.1.symm none p
  raise s x h := State.putReport_without (s := s.onAlert (AlertUnit.latchSource x)) h hk.2.symm none []
  count _ _ h := h
  first _ _ _ h := h
  overflow _ h := h
  due _ h := h

/-- R147: what a removal event takes of a cylinder. -/
theorem Link.removeEntries_without (l : Link) (k : Kind) (c : Nat) :
    (l.removeEntries fun e => e.kind == k && e.cyl == some c).Without k c := by
  intro e he hw
  have kept := (List.mem_filter.mp he).2
  simp [hw.1, hw.2] at kept

/-- The end of an event leaves none. -/
theorem State.SettledTo.without {s t : State} (h : s.SettledTo t) {k : Kind} (hk : k ≠ .log ∧ k ≠ .status) {c : Nat}
    (hs : s.link.Without k c) : t.link.Without k c := by
  rw [h.eq_updateService]
  exact State.updateService_handOffs (State.without_handOffs hk c) (fun _ _ h => h) hs

theorem State.firingMark_noWitness (s : State) (k : Nat) : (s.firingMark k).link.Without .witness (s.params.cylAt k) := by
  have link : (s.firingMark k).link = (s.link.removeEntries fun e => e.kind == .witness && e.cyl == some (s.params.cylAt k)) :=
    State.control_link ((State.removeReports s _).openRecord_control k _)
  rw [link]
  exact s.link.removeEntries_without .witness _

/-! ## O33 -/

/-- R16: the marks that an issue leaves in order. -/
theorem State.replaced_sorted {s : State} (h : s.TrackerOk) (τ : Tick) (m : PendingMark) :
    ((s.advance τ).replaced m).tracker.marks.Pairwise (fun x y => x.notAfter y = true) := by
  have sorted : MarksSorted (s.advance τ).tracker.marks :=
    (((State.trackerOk_iff s).mp h).1.elapse s.params τ (ticksFrom s.now τ)).1.sorted
  exact MarksSorted.replaceMark (List.Pairwise.tail sorted) _ m

/-- Settles O33. -/
theorem firingMarkOpensARecord : Obligations.FiringMarkOpensARecord := by
  intro s τ m k slot hf due hkind hpos im a c stale D opens
  let u := a.replaced m
  have uf : u.FaultsOk := hf
  have issued : (u.deliverMark m .segmentEndFirst) = u.firingMark k := by
    unfold State.deliverMark
    rw [hkind, hpos]
    rfl
  have settled : (u.firingMark k).SettledTo (u.firingMark k).settle :=
    State.settle_settled _ ((u.firingMark_calm k).faults uf).due
  have body := settled.body_eq
  have outer := (State.outer_of_body body).trans (u.firingMark_core k)
  have opened : opens ↔ (u.node.state = .running ∧ u.phasedWarm = true ∧ (u.cyl c).role.judges = true) := by
    have warm : u.phasedWarm = true ↔ s.tracker.warmUp = im.warmUp := by
      unfold State.phasedWarm State.warm
      rw [show u.tracker.sync = .phased from due.1, show u.tracker.warmUp = s.tracker.warmUp from s.advance_warmUp τ]
      exact beq_iff_eq
    rw [warm, Role.judges_iff, decide_eq_true_iff]
    rfl
  refine ⟨_, exec_interpolatedMark_one hf due, ?_⟩
  rw [issued]
  have marks : (u.firingMark k).settle.tracker = u.tracker := (State.body_tracker body).trans (u.firingMark_tracker k)
  refine ⟨?_, fun hno => ?_, fun hop hfree htaken => ⟨?_, fun hlo hhi => ?_⟩, ?_, ?_, fun htr => ?_, (State.body_peers body).trans (u.firingMark_peers k),
    (State.outer_context outer).trans rfl, (State.outer_estimator outer).trans rfl, (State.outer_node outer).trans rfl⟩
  · exact settled.without ⟨by decide, by decide⟩ (u.firingMark_noWitness k)
  · have shut : u.firingMark k = u.removeReports _ := State.openRecord_of_not fun h => hno (opened.mpr h)
    rw [State.body_records body, State.body_cylinders body, shut]
    exact ⟨rfl, rfl⟩
  · have open_ : u.firingMark k = _ := State.openRecord_of_free (u := u.removeReports _) (opened.mp hop) hfree htaken
    rw [State.body_records body, open_]
    show s.records.set slot (some (State.newRecord _ slot k c)) = _
    rw [← show a.context.hold.isSome = s.context.hold.isSome from Option.isSome_map]
    rfl
  · have open_ : u.firingMark k = _ := State.openRecord_of_free (u := u.removeReports _) (opened.mp hop) hfree htaken
    rw [State.cyl_congr (State.body_cylinders body), open_]
    exact getD_modify_eq _ _ _ _ (by omega : c - 1 < s.cylinders.length)
  · rw [marks]
    rfl
  · rw [marks]
    refine (replaceMark_perm im (.inr hkind) a.tracker.marks.tail).trans ?_
    unfold Image.placedBy
    dsimp only
    rw [if_pos hkind, hpos]
    exact .refl _
  · rw [marks]
    exact State.replaced_sorted htr τ m

end Sys2Proof.Machine

/-! # A cycle mark with the firing mark that may follow it (R13, R15, R92, R99, R117, R118, R123, R124) -/

namespace Sys2Proof.Machine

/-! ## Two marks in one pass (R17) -/

theorem State.settle_params (s : State) : s.settle.params = s.params := State.params_congr (State.ground_image s.settle_ground)

theorem State.issueDue_two {s : State} {m f : PendingMark} {order : BoundaryOrder} (h : s.params.issuesExactly [m, f] s.tracker.marks = true)
    (hkeeps : ((s.replaced m).deliverMark m order).tracker.marks = (s.replaced m).tracker.marks)
    (himage : ((s.replaced m).deliverMark m order).image = s.image) :
    s.issueDue order = (((((s.replaced m).deliverMark m order).settle).replaced f).deliverMark f order).settle := by
  obtain ⟨hm, hd, hrest⟩ := Image.issuesExactly_cons h
  obtain ⟨hf, hfd, hlast⟩ := Image.issuesExactly_cons hrest
  let first := ((s.replaced m).deliverMark m order).settle
  have params : first.params = s.params := (State.settle_params _).trans (State.params_congr himage)
  have marks : first.tracker.marks = replaceMark s.params m s.tracker.marks.tail := by
    rw [show first.tracker = _ from State.settle_tracker _, hkeeps]
    rfl
  have list : (first.replaced f).tracker.marks = replaceMark s.params f (replaceMark s.params m s.tracker.marks.tail).tail := by
    unfold State.replaced
    rw [State.onTracker_tracker, params, marks]
  unfold State.issueDue
  rw [congrArg List.length hm, List.length_cons, show 4 * (s.tracker.marks.tail.length + 1) = 4 * s.tracker.marks.tail.length + 2 + 1 + 1 from rfl,
    State.issueMarks_of_due hm hd, State.issueMarks_of_due (s := first) (marks.trans hf) hfd]
  refine State.issueMarks_of_ahead (fun x hx => ?_) _ order
  rw [State.settle_tracker] at hx
  rcases (first.replaced f).deliverMark_marks f order with e | e <;> rw [e] at hx
  · exact Image.issuesExactly_nil hlast x (list ▸ hx)
  · cases hx

/-! ## The two events -/

/-- The state after the event of a cycle mark. -/
def State.cycled (m : PendingMark) (s : State) : State := ((s.replaced m).cycleMark).settle

/-- The state after the event of a firing mark. -/
def State.fired (f : PendingMark) (s : State) : State := ((s.replaced f).firingMark (f.pos.getD 0)).settle

/-! ## What the cycle mark leaves -/

theorem State.cycled_settles {s : State} (hf : s.FaultsOk) (m : PendingMark) : ((s.replaced m).cycleMark).SettledTo (s.cycled m) :=
  State.settle_settled _ (State.cycleMark_faultsOk (s := s.replaced m) hf).due

theorem State.cycled_calm {s : State} (hf : s.FaultsOk) (m : PendingMark) : ((s.replaced m).cycleMark).Calm (s.cycled m) :=
  State.Calm.settle (State.cycleMark_faultsOk (s := s.replaced m) hf).due

theorem State.cycled_faultsOk {s : State} (hf : s.FaultsOk) (m : PendingMark) : (s.cycled m).FaultsOk :=
  (State.cycled_calm hf m).faults (State.cycleMark_faultsOk (s := s.replaced m) hf)

theorem State.cycled_tracker (s : State) (m : PendingMark) : (s.cycled m).tracker = { s.tracker.cycleMark s.params with
    marks := replaceMark s.params m s.tracker.marks.tail } := by
  rw [show (s.cycled m).tracker = _ from State.settle_tracker _, State.cycleMark_tracker]
  rfl

theorem State.cycled_outer {s : State} (hf : s.FaultsOk) (m : PendingMark) : (s.cycled m).outer = ({ s with
    tracker := (s.replaced m).tracker.cycleMark s.params, context := s.context.cycleMark
    markCounted := decide (s.node.state = .running) } : State).outer :=
  (State.outer_of_body (State.cycled_settles hf m).body_eq).trans (State.cycleMark_outer (s.replaced m))

/-- R124: what the mark passes when the context enters staleness. -/
theorem State.cycled_stale {s : State} (hf : s.FaultsOk) (hs : s.tracker.sync = .phased) (m : PendingMark)
    (hp : s.context.pendingCtx = none) (h4 : s.context.freshness = 4) :
    FaultUnit.Took { cls := .contextStale, cycle := s.tracker.cycleCount + 1, angle := s.tracker.angle, station := none, kind := none, cyl := none }
      s.faults (s.cycled m).faults := by
  let u := (s.replaced m).onTracker (Tracker.cycleMark s.params)
  have took := State.contextCycleMark_stale (s := u) hf hp h4
  have passed : u.occurrence .contextStale none none none = {
      cls := .contextStale, cycle := s.tracker.cycleCount + 1, angle := s.tracker.angle, station := none, kind := none, cyl := none } := by
    have angle : u.tracker.faultAngle = s.tracker.angle := if_pos hs
    rw [← angle]
    rfl
  rw [passed] at took
  have plain : FaultClass.contextStale ≠ .queueOverflow := by decide
  exact (took.calm plain (State.cylinderCycleMark_calm _)).calm plain (State.cycled_calm hf m)

/-! ## What the firing mark leaves -/

section Fired

variable {s : State} (hf : s.FaultsOk) (f : PendingMark)

include hf

theorem State.fired_settles : ((s.replaced f).firingMark (f.pos.getD 0)).SettledTo (s.fired f) :=
  State.settle_settled _ ((State.firingMark_calm (s.replaced f) _).faults hf).due

theorem State.fired_settle : (s.fired f).settle = s.fired f :=
  State.settle_settle ((State.firingMark_calm (s.replaced f) _).faults hf).sound

theorem State.fired_calm : s.Calm (s.fired f) :=
  State.Calm.trans (t := s.replaced f) (.of_eq rfl rfl rfl) ((State.firingMark_calm _ _).trans
    (State.Calm.settle ((State.firingMark_calm (s.replaced f) _).faults hf).due))

theorem State.fired_tracker : (s.fired f).tracker = { s.tracker with marks := replaceMark s.params f s.tracker.marks.tail } := by
  rw [State.body_tracker (State.fired_settles hf f).body_eq, State.firingMark_tracker]
  rfl

theorem State.fired_peers : (s.fired f).peers = s.peers := by
  rw [State.body_peers (State.fired_settles hf f).body_eq, State.firingMark_peers]
  rfl

/-- A firing mark writes of the outer state the pending list and the queue at most. -/
theorem State.fired_outer : (s.fired f).context = s.context ∧ (s.fired f).node = s.node ∧ (s.fired f).estimator = s.estimator
    ∧ (s.fired f).chanA = s.chanA ∧ (s.fired f).chanB = s.chanB ∧ (s.fired f).markCounted = s.markCounted := by
  have outer := (State.outer_of_body (State.fired_settles hf f).body_eq).trans (State.firingMark_core (s.replaced f) _)
  exact ⟨(State.outer_context outer).trans rfl, (State.outer_node outer).trans rfl, (State.outer_estimator outer).trans rfl,
    (State.outer_chanA outer).trans rfl, (State.outer_chanB outer).trans rfl, (State.outer_markCounted outer).trans rfl⟩

/-- R59: out of RUNNING no record is opened. -/
theorem State.fired_idle (hn : s.node.state ≠ .running) : (s.fired f).records = s.records ∧ (s.fired f).cylinders = s.cylinders := by
  have shut : (s.replaced f).firingMark (f.pos.getD 0) = (s.replaced f).removeReports _ := State.openRecord_of_not fun h => hn h.1
  have body := (State.fired_settles hf f).body_eq
  rw [State.body_records body, State.body_cylinders body, shut]
  exact ⟨rfl, rfl⟩

end Fired

/-! ## The command at a cycle mark -/

/-- R17: the pass of a cycle mark, with or without a firing mark after it. -/
theorem exec_cycleMark {s : State} (hf : s.FaultsOk) {τ : Tick} {m : PendingMark} {fs : List PendingMark}
    (h : (s.advance τ).Due (m :: fs)) (hm : m.kind = .cycle) (hlen : fs.length ≤ 1) (hfs : ∀ f ∈ fs, f.kind = .firing) :
    (fs = [] ∧ exec (.interpolatedMark τ) s = .next ((s.advance τ).cycled m))
      ∨ ∃ f, fs = [f] ∧ f.kind = .firing ∧ exec (.interpolatedMark τ) s = .next (((s.advance τ).cycled m).fired f) := by
  have first : ∀ order, ((s.advance τ).replaced m).deliverMark m order = ((s.advance τ).replaced m).cycleMark := fun order => by
    unfold State.deliverMark
    rw [hm]
  match fs, h, hlen, hfs with
  | [], h, _, _ =>
    refine .inl ⟨rfl, ?_⟩
    rw [exec_interpolatedMark_one hf h, first]
    rfl
  | [f], h, _, hfs =>
    have hk : f.kind = .firing := hfs f (.head _)
    refine .inr ⟨f, rfl, hk, ?_⟩
    have marked : (s.advance τ).issueDue .segmentEndFirst = ((s.advance τ).cycled m).fired f := by
      rw [State.issueDue_two h.2 (by rw [first, State.cycleMark_tracker]; rfl) (by rw [first]; exact (State.outer_image (State.cycleMark_outer _)).trans rfl),
        first]
      unfold State.fired State.cycled State.deliverMark
      rw [hk]
    have issued : interpolatedMark (s.advance τ) = ((s.advance τ).cycled m).fired f := (if_pos h.1).trans marked
    show Host.Outcome.next (interpolatedMark (s.advance τ)).settle = _
    rw [issued, State.fired_settle (State.cycled_faultsOk (s := s.advance τ) hf m)]

/-! ## O31 -/

/-- R16, R17: the list after a cycle mark and the firing mark that follows it. -/
theorem Image.replaced_twice {im : Image} {m f : PendingMark} {l : List PendingMark} (h : im.issuesExactly [m, f] l = true)
    (hm : m.kind = .cycle) (hf : f.kind = .firing) :
    (replaceMark im f (replaceMark im m l.tail).tail).Perm (l.tail.erase f ++ [m, f].flatMap im.placedBy) := by
  obtain ⟨-, -, hrest⟩ := Image.issuesExactly_cons h
  obtain ⟨next, -, -⟩ := Image.issuesExactly_cons hrest
  have placed := replaceMark_perm im (.inl hm) l.tail
  have alone : im.placedBy m = [{ m with dist := m.dist + 7200 }] := by
    exact congrArg _ (if_neg (by rw [hm]; decide))
  have waits : f ∈ l.tail := by
    have : f ∈ l.tail ++ im.placedBy m := placed.subset (next ▸ .head _)
    rcases List.mem_append.mp this with h | h
    · exact h
    · rw [alone] at h
      have same : f.kind = m.kind := (congrArg PendingMark.kind (List.mem_singleton.mp h)).trans rfl
      rw [hf, hm] at same
      cases same
  have rest : (replaceMark im m l.tail).tail.Perm (l.tail.erase f ++ im.placedBy m) := by
    rw [next] at placed
    have gone := placed.erase f
    rwa [List.erase_cons_head, List.erase_append_left _ waits] at gone
  refine (replaceMark_perm im (.inr hf) _).trans ((rest.append_right _).trans ?_)
  rw [List.append_assoc, List.flatMap_cons, List.flatMap_cons, List.flatMap_nil, List.append_nil]

/-- Settles O31: the pass is the event of the cycle mark, and the firing mark after it writes the pending list, the records, the
queue and a counted flag. -/
theorem cycleMarkSwapsTheContext : Obligations.CycleMarkSwapsTheContext := by
  intro s τ m fs hf due hm hlen hfs a
  have af : a.FaultsOk := hf
  let c := a.cycled m
  have cf : c.FaultsOk := State.cycled_faultsOk af m
  have outer := State.cycled_outer af m
  have body := (State.cycled_settles af m).body_eq
  have context : c.context = a.context.cycleMark := State.outer_context outer
  have node : c.node = a.node := (State.outer_node outer :)
  have counted : c.markCounted = decide (s.node.state = .running) := State.outer_markCounted outer
  have peers : c.peers = s.peers := (State.body_peers body).trans (State.cycleMark_peers _)
  have tracker : c.tracker = { a.tracker with
      cycleCount := s.tracker.cycleCount + 1
      warmUp := if s.tracker.warmUp < s.params.warmUp then s.tracker.warmUp + 1 else s.tracker.warmUp
      marks := replaceMark s.params m a.tracker.marks.tail } := by
    rw [← s.advance_cycleCount τ, ← s.advance_warmUp τ]
    exact State.cycled_tracker a m
  have stale (hp : s.context.pendingCtx = none) (h4 : s.context.freshness = 4) := State.cycled_stale af due.1 m hp h4
  rw [s.advance_cycleCount τ] at stale
  have idle (hn : s.node.state ≠ .running) : c.cylinders = s.cylinders ∧ c.records = s.records :=
    ⟨(State.body_cylinders body).trans ((State.cycleMark_cylinders (s := a.replaced m) hn).trans rfl),
      (State.body_records body).trans ((State.cycleMark_records _).trans rfl)⟩
  have swapped (ctx) (hp : s.context.pendingCtx = some ctx) :
      a.context.cycleMark = { a.context with current := ctx, pendingCtx := none, freshness := 0 } := by
    unfold Context.cycleMark
    rw [show a.context.pendingCtx = some ctx from hp]
  have grows (hp : s.context.pendingCtx = none) :
      a.context.cycleMark = { a.context with freshness := min (s.context.freshness + 1) 255 } := by
    unfold Context.cycleMark
    split
    · next p hsome => cases hsome.symm.trans hp
    · rfl
  rcases exec_cycleMark hf due hm hlen hfs with ⟨rfl, run⟩ | ⟨f, rfl, hk, run⟩
  · refine ⟨c, run, by rw [tracker], ?_, fun htr => ?_, fun ctx hp => context.trans (swapped ctx hp), fun hp => context.trans (grows hp),
      stale, fun hn => ⟨(idle hn).1, (idle hn).2, ?_⟩, fun hr => ?_, peers, node, (State.outer_estimator outer :),
      (State.outer_chanA outer :), (State.outer_chanB outer :)⟩
    · rw [tracker]
      simpa using replaceMark_perm s.params (.inl hm) a.tracker.marks.tail
    · rw [tracker]
      exact State.replaced_sorted htr τ m
    · exact counted.trans (decide_eq_false hn)
    · exact counted.trans (decide_eq_true hr)
  · obtain ⟨fcontext, fnode, festimator, fchanA, fchanB, fcounted⟩ := State.fired_outer cf f
    have ftracker := State.fired_tracker cf f
    have params : c.params = s.params := State.params_congr (State.outer_image outer :)
    refine ⟨c.fired f, run, by rw [ftracker, tracker], ?_, fun htr => ?_, fun ctx hp => fcontext.trans (context.trans (swapped ctx hp)),
      fun hp => fcontext.trans (context.trans (grows hp)),
      fun hp h4 => (stale hp h4).calm (by exact (by decide : FaultClass.contextStale ≠ .queueOverflow)) (State.fired_calm cf f),
      fun hn => ?_, fun hr => ?_, (State.fired_peers cf f).trans peers, fnode.trans node, festimator.trans (State.outer_estimator outer :),
      fchanA.trans (State.outer_chanA outer :), fchanB.trans (State.outer_chanB outer :)⟩
    · rw [ftracker, params, tracker]
      exact Image.replaced_twice due.2 hm hk
    · rw [ftracker, params, tracker]
      exact MarksSorted.replaceMark (List.Pairwise.tail (State.replaced_sorted htr τ m)) _ f
    · have hn' : c.node.state ≠ .running := by rw [node]; exact hn
      obtain ⟨records, cylinders⟩ := State.fired_idle cf f hn'
      exact ⟨cylinders.trans (idle hn).1, records.trans (idle hn).2, fcounted.trans (counted.trans (decide_eq_false hn))⟩
    · exact fcounted.trans (counted.trans (decide_eq_true hr))

end Sys2Proof.Machine

/-! # A cycle mark in RUNNING: silence, takeovers and the cycles of the blocks (R92, R99, R117, R118) -/

namespace Sys2Proof.Machine

/-! ## A pass over the Cylinder Table -/

/-- A pass from `s` to `t` over the cylinders `cs` writes each entry by `g`, and no other entry. -/
structure State.WritesCyl (g : Image → CylEntry → CylEntry) (cs : List Nat) (s t : State) : Prop where
  inside : ∀ c ∈ allCylinders, c ∈ cs → t.cyl c = g s.params (s.cyl c)
  outside : ∀ c ∈ allCylinders, c ∉ cs → t.cyl c = s.cyl c
  length : t.cylinders.length = 8
  image : t.image = s.image

theorem State.WritesCyl.foldl {g : Image → CylEntry → CylEntry} {f : State → Nat → State}
    (h : ∀ (s : State) (c : Nat), c ∈ allCylinders → s.cylinders.length = 8 → s.WritesCyl g [c] (f s c))
    {cs : List Nat} (hcs : ∀ c ∈ cs, c ∈ allCylinders) (hnodup : cs.Nodup) {s : State} (hlen : s.cylinders.length = 8) :
    s.WritesCyl g cs (cs.foldl f s) := by
  induction cs generalizing s with
  | nil => exact ⟨fun _ _ h => absurd h List.not_mem_nil, fun _ _ _ => rfl, hlen, rfl⟩
  | cons x cs ih =>
    obtain ⟨fresh, nodup⟩ := List.nodup_cons.mp hnodup
    have first := h s x (hcs x (.head _)) hlen
    have rest := ih (fun c hc => hcs c (.tail _ hc)) nodup first.length
    refine ⟨fun c hc hin => ?_, fun c hc hout => ?_, rest.length, rest.image.trans first.image⟩
    · rw [List.foldl_cons]
      rcases List.mem_cons.mp hin with rfl | hin
      · rw [rest.outside c hc fresh, first.inside c hc (.head _)]
      · have other : c ∉ [x] := fun hx => fresh (List.mem_singleton.mp hx ▸ hin)
        rw [rest.inside c hc hin, first.outside c hc other, State.params_congr first.image]
    · rw [List.foldl_cons, rest.outside c hc fun hin => hout (.tail _ hin),
        first.outside c hc fun hx => hout (List.mem_singleton.mp hx ▸ .head _)]

theorem allCylinders_nodup : allCylinders.Nodup := by decide

theorem State.WritesCyl.onCyl {s : State} {c : Nat} (hc : c ∈ allCylinders) (hlen : s.cylinders.length = 8) (g : Image → CylEntry → CylEntry) :
    s.WritesCyl g [c] (s.onCyl c (g s.params)) where
  inside c' _ hin := by
    rw [List.mem_singleton.mp hin]
    exact State.cyl_onCyl hc hlen _
  outside c' hc' hout := State.cyl_onCyl_of_ne s hc hc' (fun e => hout (e ▸ .head _)) _
  length := (List.length_modify _ _ _).trans hlen
  image := rfl

theorem State.WritesCyl.of_kept {s : State} {c : Nat} (hlen : s.cylinders.length = 8) {g : Image → CylEntry → CylEntry}
    (h : g s.params (s.cyl c) = s.cyl c) : s.WritesCyl g [c] s where
  inside c' _ hin := by rw [List.mem_singleton.mp hin, h]
  outside _ _ _ := rfl
  length := hlen
  image := rfl

/-- Blocks but the Cylinder Table may be written in a pass. -/
theorem State.WritesCyl.congr {g : Image → CylEntry → CylEntry} {cs : List Nat} {s t u : State} (h : s.WritesCyl g cs t)
    (hc : u.cylinders = t.cylinders) (hi : u.image = t.image) : s.WritesCyl g cs u where
  inside c hall hin := (State.cyl_congr hc c).trans (h.inside c hall hin)
  outside c hall hout := (State.cyl_congr hc c).trans (h.outside c hall hout)
  length := hc ▸ h.length
  image := hi.trans h.image

/-! ## The entry at a cycle mark -/

/-- R118: the entry after the takeovers. -/
def CylEntry.takenOver (im : Image) (e : CylEntry) : CylEntry := if e.takeoverDue im then e.takeOver else e

/-- R92: the entry after a counted cycle mark. -/
def CylEntry.cycleCounted (im : Image) (e : CylEntry) : CylEntry :=
  if e.role.judges then
    let e := if e.block.cycles = im.blockLen then (e.judgeBlock im).clearBlock else e
    { e with block := { e.block with cycles := e.block.cycles + 1 } }
  else e

theorem State.takeOverIfDue_writes {s : State} {c : Nat} (hc : c ∈ allCylinders) (hlen : s.cylinders.length = 8) :
    s.WritesCyl CylEntry.takenOver [c] (s.takeOverIfDue c) := by
  unfold State.takeOverIfDue
  split
  · next hdue =>
    have raised := (s.onCyl c CylEntry.takeOver).raise_body .ownershipChange
    refine State.WritesCyl.congr (t := s.onCyl c CylEntry.takeOver) ⟨fun c' _ hin => ?_, fun c' hc' hout => ?_, ?_, rfl⟩
      (State.body_cylinders raised) (State.body_image raised)
    · rw [List.mem_singleton.mp hin]
      exact (State.cyl_onCyl hc hlen _).trans (if_pos hdue).symm
    · exact State.cyl_onCyl_of_ne s hc hc' (fun e => hout (e ▸ .head _)) _
    · exact (List.length_modify _ _ _).trans hlen
  · next hdue => exact .of_kept hlen (if_neg hdue)

theorem State.countCycle_writes {s : State} {c : Nat} (hc : c ∈ allCylinders) (hlen : s.cylinders.length = 8) :
    s.WritesCyl CylEntry.cycleCounted [c] (s.countCycle c) := by
  unfold State.countCycle
  split
  · next hj =>
    have ended : s.WritesCyl (fun im e => if e.block.cycles = im.blockLen then (e.judgeBlock im).clearBlock else e) [c]
        (if (s.cyl c).block.cycles = s.params.blockLen then s.endBlock c else s) := by
      split
      · next hb =>
        refine ⟨fun c' _ hin => ?_, fun c' hc' hout => State.endBlock_cyl_of_ne s hc hc' (fun e => hout (e ▸ .head _)), ?_,
          State.outer_image (s.endBlock_outer c)⟩
        · rw [List.mem_singleton.mp hin, State.endBlock_cyl hc hlen]
          exact (if_pos hb).symm
        · rw [State.endBlock_cylinders]
          exact (List.length_modify _ _ _).trans ((List.length_modify _ _ _).trans hlen)
      · next hb => exact .of_kept hlen (if_neg hb)
    generalize (if (s.cyl c).block.cycles = s.params.blockLen then s.endBlock c else s) = u at ended
    refine ⟨fun c' _ hin => ?_, fun c' hc' hout => ?_, (List.length_modify _ _ _).trans ended.length, ended.image⟩
    · rw [List.mem_singleton.mp hin, State.cyl_onCyl hc ended.length, ended.inside c hc (.head _)]
      exact (if_pos hj).symm
    · rw [State.cyl_onCyl_of_ne u hc hc' fun e => hout (e ▸ .head _)]
      exact ended.outside c' hc' hout
  · next hj => exact .of_kept hlen (if_neg hj)

theorem State.cyl_map {s : State} {c : Nat} (hc : c ∈ allCylinders) (hlen : s.cylinders.length = 8) (g : CylEntry → CylEntry) :
    (s.onCylinders (fun l => l.map g)).cyl c = g (s.cyl c) := by
  obtain ⟨hlow, hhigh⟩ := mem_allCylinders.mp hc
  have inside : c - 1 < s.cylinders.length := by omega
  unfold State.cyl State.onCylinders
  simp [List.getD_eq_getElem?_getD, inside]

/-- R92, R117, R118: the Cylinder Table after a counted cycle mark. -/
theorem State.cylinderCycleMark_cyl {s : State} (hr : s.node.state = .running) (hlen : s.cylinders.length = 8) {c : Nat} (hc : c ∈ allCylinders) :
    s.cylinderCycleMark.cyl c = ((s.cyl c).countSilence.takenOver s.params).cycleCounted s.params := by
  let u := (s.setMarkCounted true).onCylinders (fun l => l.map CylEntry.countSilence)
  have taken := State.WritesCyl.foldl (fun s c => State.takeOverIfDue_writes (s := s)) (fun _ h => h) allCylinders_nodup
    (s := u) ((List.length_map _).trans hlen)
  have counted := State.WritesCyl.foldl (fun s c => State.countCycle_writes (s := s)) (fun _ h => h) allCylinders_nodup taken.length
  have marked : s.cylinderCycleMark = _ := if_pos hr
  rw [marked]
  refine (counted.inside c hc hc).trans ?_
  rw [taken.inside c hc hc, State.cyl_map (s := s.setMarkCounted true) hc hlen, State.params_congr taken.image]
  rfl

theorem State.cylinderCycleMark_length {s : State} (hr : s.node.state = .running) (hlen : s.cylinders.length = 8) :
    s.cylinderCycleMark.cylinders.length = 8 := by
  let u := (s.setMarkCounted true).onCylinders (fun l => l.map CylEntry.countSilence)
  have taken := State.WritesCyl.foldl (fun s c => State.takeOverIfDue_writes (s := s)) (fun _ h => h) allCylinders_nodup
    (s := u) ((List.length_map _).trans hlen)
  have marked : s.cylinderCycleMark = _ := if_pos hr
  rw [marked]
  exact (State.WritesCyl.foldl (fun s c => State.countCycle_writes (s := s)) (fun _ h => h) allCylinders_nodup taken.length).length

/-- R118: a takeover raises OWNERSHIP_CHANGE. -/
theorem State.cylinderCycleMark_raises {s : State} (hr : s.node.state = .running) (hlen : s.cylinders.length = 8)
    (hsources : s.alert.sources.length = 8) {c : Nat} (hc : c ∈ allCylinders) (hdue : (s.cyl c).countSilence.takeoverDue s.params = true) :
    (s.cylinderCycleMark.alert.src .ownershipChange).latch = true := by
  let u := (s.setMarkCounted true).onCylinders (fun l => l.map CylEntry.countSilence)
  have plain : AlertSource.ownershipChange ≠ .firstFault := by decide
  obtain ⟨before, after, split⟩ := List.append_of_mem hc
  have cut : c ∉ before := by
    have nodup := allCylinders_nodup
    rw [split] at nodup
    exact fun h => (List.disjoint_of_nodup_append nodup) h (.head _)
  have inall : ∀ x ∈ before, x ∈ allCylinders := fun x hx => split ▸ List.mem_append_left _ hx
  have nodup : before.Nodup := (List.nodup_append.mp (split ▸ allCylinders_nodup)).1
  let v := before.foldl State.takeOverIfDue u
  have writes : u.WritesCyl CylEntry.takenOver before v :=
    .foldl (fun s c => State.takeOverIfDue_writes (s := s)) inall nodup ((List.length_map _).trans hlen)
  have calm : u.Calm v := .foldl State.takeOverIfDue_calm _ _
  have vsources : v.alert.sources.length = 8 := (calm.latches hsources).1
  have due : (v.cyl c).takeoverDue v.params = true := by
    rw [writes.outside c hc cut, State.params_congr writes.image, State.cyl_map (s := s.setMarkCounted true) hc hlen]
    exact hdue
  have taken : v.takeOverIfDue c = (v.onCyl c CylEntry.takeOver).raise .ownershipChange := if_pos due
  have latched : ((v.takeOverIfDue c).alert.src .ownershipChange).latch = true := by
    rw [taken, State.raise_src (s := v.onCyl c CylEntry.takeOver) vsources plain]
  have rest : (v.takeOverIfDue c).Calm s.cylinderCycleMark := by
    have marked : s.cylinderCycleMark = allCylinders.foldl State.countCycle (after.foldl State.takeOverIfDue (v.takeOverIfDue c)) := by
      have folded : allCylinders.foldl State.takeOverIfDue u = after.foldl State.takeOverIfDue (v.takeOverIfDue c) := by
        rw [split, List.foldl_append, List.foldl_cons]
      exact (if_pos hr).trans (congrArg (allCylinders.foldl State.countCycle) folded)
    rw [marked]
    exact (State.Calm.foldl State.takeOverIfDue_calm _ _).trans (.foldl State.countCycle_calm _ _)
  exact (rest.latches (((v.takeOverIfDue_calm c).latches vsources).1)).2 _ plain latched

/-! ## The judgement does not read the silence (R94, R95) -/

theorem CylEntry.judgeBlock_countSilence (im : Image) (e : CylEntry) : e.countSilence.judgeBlock im = (e.judgeBlock im).countSilence := by
  have misfire : e.countSilence.judgeMisfire im = (e.judgeMisfire im).countSilence := by
    unfold CylEntry.judgeMisfire
    simp only [apply_ite CylEntry.countSilence]
    rfl
  have knock (e : CylEntry) : e.countSilence.judgeKnock im = (e.judgeKnock im).countSilence := by
    unfold CylEntry.judgeKnock
    simp only [apply_ite CylEntry.countSilence]
    rfl
  unfold CylEntry.judgeBlock
  rw [misfire, knock]

/-- R117: the count reaches D times the rank. -/
theorem CylEntry.takeoverDue_iff (im : Image) (e : CylEntry) :
    e.takeoverDue im = true ↔ e.role = .deputyStandby ∧ ∃ k, e.rank = some k ∧ e.silence = im.silenceLen * k := by
  unfold CylEntry.takeoverDue
  cases e.rank with
  | none => simp
  | some k => simp

/-! ## The firing mark after the cycle mark (R92) -/

theorem State.onCyl_counted {v : State} (hlen : v.cylinders.length = 8) (b : CylEntry → Bool) (c : Nat) {c' : Nat} (hc' : c' ∈ allCylinders) :
    (v.onCyl c (fun e => { e with counted := b e })).cyl c'
      = if c - 1 = c' - 1 then { v.cyl c' with counted := b (v.cyl c') } else v.cyl c' := by
  obtain ⟨hlow, hhigh⟩ := mem_allCylinders.mp hc'
  split
  · next hsame =>
    unfold State.onCyl
    rw [hsame]
    exact getD_modify_eq v.cylinders _ _ _ (by omega)
  · next hne => exact getD_modify_ne v.cylinders _ _ hne

/-- R59: a firing mark sets at most a counted flag, of a cylinder that the node judges. -/
theorem State.openRecord_cyl {u : State} (hlen : u.cylinders.length = 8) (k c : Nat) {c' : Nat} (hc' : c' ∈ allCylinders) :
    (u.openRecord k c).cyl c' = { u.cyl c' with counted := ((u.openRecord k c).cyl c').counted }
      ∧ ((u.cyl c').role.judges = false → (u.openRecord k c).cyl c' = u.cyl c') := by
  by_cases hopen : u.node.state = .running ∧ u.phasedWarm = true ∧ (u.cyl c).role.judges = true
  · unfold State.openRecord
    rw [if_pos hopen]
    split
    · next slot _ =>
      rw [State.onCyl_counted (v := u.onRecords _) hlen _ c hc']
      split
      · next hsame =>
        have entry : u.cyl c = u.cyl c' := by
          unfold State.cyl
          rw [hsame]
        exact ⟨rfl, fun hj => absurd (entry ▸ hopen.2.2) (by rw [hj]; exact Bool.false_ne_true)⟩
      · exact ⟨rfl, fun _ => rfl⟩
    · exact ⟨rfl, fun _ => rfl⟩
  · rw [State.openRecord_of_not hopen]
    exact ⟨rfl, fun _ => rfl⟩

/-- R92: what the firing mark after a cycle mark leaves of an entry. -/
theorem State.fired_cyl {s : State} (hf : s.FaultsOk) (hlen : s.cylinders.length = 8) (f : PendingMark) {c : Nat} (hc : c ∈ allCylinders) :
    (s.fired f).cyl c = { s.cyl c with counted := ((s.fired f).cyl c).counted }
      ∧ ((s.cyl c).role.judges = false → (s.fired f).cyl c = s.cyl c) := by
  rw [State.cyl_congr (State.body_cylinders (State.fired_settles hf f).body_eq)]
  exact State.openRecord_cyl (u := (s.replaced f).removeReports _) hlen _ _ hc

/-! ## O32 -/

/-- R92, R117, R118: the entry after a cycle mark, by the cases of the statement. -/
theorem CylEntry.marked_eq (im : Image) (e : CylEntry) (hblock : 0 < im.blockLen) :
    let t := (e.countSilence.takenOver im).cycleCounted im
    let silence := e.countSilence.silence
    let due := e.countSilence.takeoverDue im
    (due = true → t = { e with
        role := .deputyActive, silence := silence, heard := false, counted := false
        block := { assessed := 0, misfires := 0, knocks := 0, suspects := 0, cycles := 1 } })
      ∧ (due = false → e.role.judges = true → e.block.cycles ≠ im.blockLen → t = { e with
          silence := silence, heard := false, block := { e.block with cycles := e.block.cycles + 1 } })
      ∧ (due = false → e.role.judges = true → e.block.cycles = im.blockLen → t = { (e.judgeBlock im).clearBlock with
          silence := silence, heard := false, block := { assessed := 0, misfires := 0, knocks := 0, suspects := 0, cycles := 1 } })
      ∧ (due = false → e.role.judges = false → t = { e with silence := silence, heard := false }) := by
  intro t silence due
  have stays (h : due = false) : e.countSilence.takenOver im = e.countSilence := if_neg (by rw [show e.countSilence.takeoverDue im = false from h]; exact Bool.false_ne_true)
  have counts (x : CylEntry) (h : x.role.judges = true) : x.cycleCounted im = _ := if_pos h
  refine ⟨fun h => ?_, fun h hj hb => ?_, fun h hj hb => ?_, fun h hj => ?_⟩
  · have over_ : e.countSilence.takenOver im = e.countSilence.takeOver := if_pos h
    show (e.countSilence.takenOver im).cycleCounted im = _
    rw [over_, counts _ rfl]
    dsimp only
    rw [if_neg (show ¬(e.countSilence.takeOver.block.cycles = im.blockLen) from fun e => Nat.ne_of_lt hblock e)]
    rfl
  · show (e.countSilence.takenOver im).cycleCounted im = _
    rw [stays h, counts e.countSilence hj]
    dsimp only
    rw [show e.countSilence.block = e.block from rfl, if_neg hb]
    rfl
  · show (e.countSilence.takenOver im).cycleCounted im = _
    rw [stays h, counts e.countSilence hj]
    dsimp only
    rw [show e.countSilence.block = e.block from rfl, if_pos hb, CylEntry.judgeBlock_countSilence, CylEntry.judgeBlock_eq]
    rfl
  · show (e.countSilence.takenOver im).cycleCounted im = _
    rw [stays h]
    exact if_neg (by rw [show e.countSilence.role.judges = false from hj]; exact Bool.false_ne_true)

theorem State.contextMarked_sources {s : State} (h : s.alert.sources.length = 8) : s.contextMarked.alert.sources.length = 8 := by
  unfold State.contextMarked State.contextCycleMark
  dsimp only
  split
  · exact (State.occur_keepsSetup _ _).sources_length.trans h
  · exact h

/-- R92: what is left of the Cylinder Table where a firing mark may follow. -/
theorem State.fired_or_not {c t : State} (hf : c.FaultsOk) (hlen : c.cylinders.length = 8) (hsources : c.alert.sources.length = 8)
    (ht : t = c ∨ ∃ f, t = c.fired f) {x : Nat} (hx : x ∈ allCylinders) :
    t.cyl x = { c.cyl x with counted := (t.cyl x).counted } ∧ ((c.cyl x).role.judges = false → t.cyl x = c.cyl x)
      ∧ ((c.alert.src .ownershipChange).latch = true → (t.alert.src .ownershipChange).latch = true) := by
  rcases ht with rfl | ⟨f, rfl⟩
  · exact ⟨rfl, fun _ => rfl, id⟩
  · exact ⟨(State.fired_cyl hf hlen f hx).1, (State.fired_cyl hf hlen f hx).2,
      ((State.fired_calm hf f).latches hsources).2 _ (by decide)⟩

/-- R92, R117, R118: the Cylinder Table after the event of a cycle mark in RUNNING. -/
theorem State.cycled_cyl {a : State} (hf : a.FaultsOk) (ha : a.alert.sources.length = 8) (hlen : a.cylinders.length = 8)
    (hr : a.node.state = .running) (m : PendingMark) :
    (a.cycled m).cylinders.length = 8 ∧ (a.cycled m).alert.sources.length = 8
      ∧ ∀ x ∈ allCylinders, (a.cycled m).cyl x = ((a.cyl x).countSilence.takenOver a.params).cycleCounted a.params
        ∧ ((a.cyl x).countSilence.takeoverDue a.params = true → ((a.cycled m).alert.src .ownershipChange).latch = true) := by
  let u := (a.replaced m).contextMarked
  have ubody : u.body = _ := (a.replaced m).contextMarked_body
  have urun : u.node.state = .running := (congrArg NodeCtl.state (State.body_node ubody)).trans hr
  have ucyl : u.cylinders = a.cylinders := (State.body_cylinders ubody).trans rfl
  have uparams : u.params = a.params := (State.params_congr (State.body_image ubody)).trans rfl
  have usources : u.alert.sources.length = 8 := State.contextMarked_sources (s := a.replaced m) ha
  have ulen : u.cylinders.length = 8 := ucyl ▸ hlen
  have cylinders : (a.cycled m).cylinders = u.cylinderCycleMark.cylinders := State.body_cylinders (State.cycled_settles hf m).body_eq
  have latches := (State.cycled_calm hf m).latches (u.cylinderCycleMark_calm.latches usources).1
  refine ⟨cylinders ▸ State.cylinderCycleMark_length urun ulen, latches.1, fun x hx => ⟨?_, fun hdue => ?_⟩⟩
  · rw [State.cyl_congr cylinders]
    refine (State.cylinderCycleMark_cyl urun ulen hx).trans ?_
    rw [State.cyl_congr ucyl, uparams]
  · have udue : (u.cyl x).countSilence.takeoverDue u.params = true := by
      rw [State.cyl_congr ucyl, uparams]
      exact hdue
    exact latches.2 _ (by decide) (State.cylinderCycleMark_raises urun ulen usources hx udue)

/-- Settles O32: the pass over the Cylinder Table writes each entry by itself, and the firing mark after it a counted flag. -/
theorem cycleMarkCountsSilenceAndBlocks : Obligations.CycleMarkCountsSilenceAndBlocks := by
  intro s τ m fs hf ha hlen due hm hfew hfs hrun hblock
  let a := s.advance τ
  have af : a.FaultsOk := hf
  obtain ⟨clen, csources, cycled⟩ := State.cycled_cyl af ha.1 hlen hrun m
  have run : ∃ t, exec (.interpolatedMark τ) s = .next t ∧ (t = a.cycled m ∨ ∃ f, t = (a.cycled m).fired f) := by
    rcases exec_cycleMark hf due hm hfew hfs with ⟨-, run⟩ | ⟨f, -, -, run⟩
    · exact ⟨_, run, .inl rfl⟩
    · exact ⟨_, run, .inr ⟨f, rfl⟩⟩
  obtain ⟨t, run, ht⟩ := run
  refine ⟨t, run, fun x hx => ?_⟩
  obtain ⟨kept, unjudged, latched⟩ := State.fired_or_not (State.cycled_faultsOk af m) clen csources ht hx
  obtain ⟨entry, latch⟩ := cycled x hx
  obtain ⟨takeover, cycle, block, idle⟩ := CylEntry.marked_eq s.params (s.cyl x) hblock
  have dueIff := CylEntry.takeoverDue_iff s.params (s.cyl x).countSilence
  change (a.cycled m).cyl x = ((s.cyl x).countSilence.takenOver s.params).cycleCounted s.params at entry
  rw [← entry] at takeover cycle block idle
  have notDue (h : ¬_) : (s.cyl x).countSilence.takeoverDue s.params = false := Bool.eq_false_iff.mpr (mt dueIff.mp h)
  refine ⟨fun h => ⟨?_, latched (latch (dueIff.mpr h))⟩, fun h hj hb => ?_, fun h hj hb => ?_, fun h hj => ?_⟩
  · rw [takeover (dueIff.mpr h)] at kept
    exact kept
  · rw [cycle (notDue h) hj hb] at kept
    exact kept
  · rw [block (notDue h) hj hb] at kept
    rw [State.endBlock_cyl hx hlen]
    exact kept
  · have same := idle (notDue h) hj
    rw [same] at unjudged
    exact unjudged hj

end Sys2Proof.Machine

/-! # A VERDICT heard (O47) -/

namespace Sys2Proof.Machine

/-! ## The abort of one record (R70, R100) -/

theorem State.findRecord_eq_none {s : State} {p : Record → Bool} (h : ∀ r ∈ s.openRecords, p r = false) : s.findRecord p = none := by
  refine List.findSome?_eq_none_iff.mpr fun o ho => ?_
  cases o with
  | none => rfl
  | some r => exact Option.filter_eq_none_iff.mpr fun x hx => by cases hx; simp [h r (State.mem_openRecords.mpr ho)]

theorem State.recordOf_freeRecord (s : State) (c : Nat) : (s.freeRecord c).recordOf c = none := by
  refine State.findRecord_eq_none fun r hr => ?_
  rw [State.openRecords_freeRecord] at hr
  simpa using (List.mem_filter.mp hr).2

theorem State.recordOf_abortRecord (s : State) (c : Nat) : (s.abortRecord c).recordOf c = none := by
  unfold State.abortRecord
  split
  · exact s.recordOf_freeRecord c
  · next h => exact h

theorem State.abortRecord_cyl {s : State} {c : Nat} (hc : c ∈ allCylinders) (hlen : s.cylinders.length = 8) :
    (s.abortRecord c).cyl c = if (s.recordOf c).isSome then (s.cyl c).countAbort else s.cyl c := by
  unfold State.abortRecord
  split
  · next r h =>
    rw [h]
    exact State.cyl_onCyl (s := s.freeRecord c) hc hlen _
  · next h =>
    rw [h]
    rfl

theorem State.abortRecord_cyl_of_ne (s : State) {c c' : Nat} (hc : c ∈ allCylinders) (hc' : c' ∈ allCylinders) (hne : c' ≠ c) :
    (s.abortRecord c).cyl c' = s.cyl c' := by
  unfold State.abortRecord
  split
  · exact State.cyl_onCyl_of_ne (s.freeRecord c) hc hc' hne _
  · rfl

theorem State.abortRecord_length (s : State) (c : Nat) : (s.abortRecord c).cylinders.length = s.cylinders.length := by
  unfold State.abortRecord
  split
  · exact List.length_modify ..
  · rfl

/-! ## The yield (R99, R116) -/

/-- The state before the raise of OWNERSHIP_CHANGE. -/
def State.yielded (s : State) (c : Nat) : State :=
  ((s.abortRecord c).removeReports (fun e => e.kind == .verdict && e.cyl == some c)).onCyl c CylEntry.yieldEntry

theorem State.yieldCylinder_eq (s : State) (c : Nat) : s.yieldCylinder c = (s.yielded c).raise .ownershipChange := rfl

theorem State.yielded_calm (s : State) (c : Nat) : s.Calm (s.yielded c) := by
  have control := s.abortRecord_control c
  exact .of_eq (State.control_faults control :) (congrArg AlertUnit.sources (State.control_alert control :)) (State.control_withdrawDue control :)

/-- A yield writes the Record Table, the Cylinder Table and the queue. -/
theorem State.yielded_frame (s : State) (c : Nat) : s.yielded c = { s with
    records := (s.yielded c).records, cylinders := (s.yielded c).cylinders, link := (s.yielded c).link } := by
  unfold State.yielded State.abortRecord
  split <;> rfl

theorem State.yieldCylinder_calm (s : State) (c : Nat) : s.Calm (s.yieldCylinder c) := (s.yielded_calm c).trans (.raise _ _ (by decide))

theorem State.yieldCylinder_noVerdict (s : State) (c : Nat) : (s.yieldCylinder c).link.Without .verdict c := by
  have removed : (s.yielded c).link.Without .verdict c := (s.abortRecord c).link.removeEntries_without .verdict c
  exact (State.without_handOffs ⟨by decide, by decide⟩ c).raised .ownershipChange removed

/-- R114, R116: the entry of a cylinder that a heard VERDICT takes from the node. -/
theorem CylEntry.yields_eq (e : CylEntry) (b : Bool) :
    (if b then { e with heard := true, silence := 0 }.countAbort else { e with heard := true, silence := 0 }).yieldEntry = { e with
      heard := true, silence := 0, role := .deputyStandby
      block := { assessed := 0, misfires := 0, knocks := 0, suspects := 0, cycles := 0 }, counted := false
      misfireAlarm := false, knockAlarm := false, dead := false, clearRun := 0
      aborts := if b then min (e.aborts + 1) 255 else e.aborts } := by
  cases b <;> rfl

/-- What a yield leaves in the tables. -/
theorem State.yieldCylinder_tables {s : State} {c : Nat} (hc : c ∈ allCylinders) (hlen : s.cylinders.length = 8) :
    (s.yieldCylinder c).recordOf c = none
      ∧ (s.yieldCylinder c).cyl c = (if (s.recordOf c).isSome then (s.cyl c).countAbort else s.cyl c).yieldEntry
      ∧ ∀ c' ∈ allCylinders, c' ≠ c → (s.yieldCylinder c).cyl c' = s.cyl c' := by
  have body : (s.yieldCylinder c).body = (s.yielded c).body := State.raise_body _ _
  have cylinders := State.body_cylinders body
  refine ⟨?_, ?_, fun c' hc' hne => ?_⟩
  · exact (congrArg (fun l : List (Option Record) => l.findSome? _) (State.body_records body)).trans (s.recordOf_abortRecord c)
  · rw [State.cyl_congr cylinders]
    refine (State.cyl_onCyl (s := (s.abortRecord c).removeReports _) hc ((s.abortRecord_length c).trans hlen) _).trans ?_
    exact congrArg CylEntry.yieldEntry (State.abortRecord_cyl hc hlen)
  · rw [State.cyl_congr cylinders]
    exact (State.cyl_onCyl_of_ne ((s.abortRecord c).removeReports _) hc hc' hne _).trans (s.abortRecord_cyl_of_ne hc hc' hne)

/-! ## The conflict rule (R115) -/

theorem Image.yieldsTo_iff (im : Image) (own st : Station) (c : Nat) : im.yieldsTo own st c = true
    ↔ im.owner.getD (c - 1) 255 = st.val ∨ (im.owner.getD (c - 1) 255 ≠ own.val ∧ st.val < own.val) := by
  unfold Image.yieldsTo
  generalize im.owner.getD (c - 1) 255 = owner
  split
  · next h => exact ⟨fun _ => .inl h, fun _ => rfl⟩
  · next h =>
    split
    · next h' => exact ⟨fun e => absurd e Bool.false_ne_true, fun e => absurd h' (e.resolve_left h).1⟩
    · next h' => exact ⟨fun e => .inr ⟨h', of_decide_eq_true e⟩, fun e => decide_eq_true (e.resolve_left h).2⟩

theorem isCyl_iff (c : Nat) : isCyl c = true ↔ 1 ≤ c ∧ c ≤ 8 := by
  simp [isCyl]

section Take
variable {h : State} {st : Station} {c : Nat}

theorem State.takeVerdict_idle (hn : h.node.state.configured = false) : h.takeVerdict st c = h := by
  unfold State.takeVerdict
  rw [hn]
  rfl

theorem State.takeVerdict_malformed (hn : h.node.state.configured = true) (hc : ¬(1 ≤ c ∧ c ≤ 8)) :
    h.takeVerdict st c = h.fault .malformed (some st) (some Kind.verdict.code) none := by
  unfold State.takeVerdict
  rw [if_pos hn, if_neg (mt (isCyl_iff c).mp hc)]

/-- R114: the state once the VERDICT has been heard. -/
def State.verdictHeard (h : State) (c : Nat) : State := h.onCyl c (fun e => { e with heard := true, silence := 0 })

theorem State.takeVerdict_heard (hn : h.node.state.configured = true) (hc : 1 ≤ c ∧ c ≤ 8) :
    h.takeVerdict st c = if (h.cyl c).role.judges then (h.verdictHeard c).resolveConflict st c else h.verdictHeard c := by
  unfold State.takeVerdict
  rw [if_pos hn, if_pos ((isCyl_iff c).mpr hc)]
  rfl

end Take

/-- R115: the conflict, to the end of its event, where the node yields. -/
theorem State.yield_settles {v : State} (hf : v.FaultsOk) (hsources : v.alert.sources.length = 8) {c : Nat} (hc : c ∈ allCylinders)
    (hlen : v.cylinders.length = 8) (o : Occurrence) (ho : o.cls = .ownershipConflict) {t : State}
    (ht : ((v.occur o).yieldCylinder c).settle = t) : FaultUnit.Took o v.faults t.faults ∧ t.recordOf c = none
      ∧ t.cyl c = (if (v.recordOf c).isSome then (v.cyl c).countAbort else v.cyl c).yieldEntry
      ∧ (∀ c' ∈ allCylinders, c' ≠ c → t.cyl c' = v.cyl c') ∧ t.link.Without .verdict c
      ∧ (t.alert.src .ownershipChange).latch = true
      ∧ t.peers = v.peers ∧ t.node = v.node ∧ t.tracker = v.tracker ∧ t.context = v.context := by
  let f := v.occur o
  have plain : o.cls ≠ .queueOverflow := by rw [ho]; decide
  have ff : f.FaultsOk := State.occur_faultsOk hf (.inl (ho ▸ hf.sound.gentle (k := .ownershipConflict) (by decide) (by decide)))
  have fbody : f.body = v.body := v.occur_body o
  have calm := f.yieldCylinder_calm c
  have settled : (f.yieldCylinder c).SettledTo t := ht ▸ State.settle_settled _ (calm.faults ff).due
  have last : (f.yieldCylinder c).Calm t := ht ▸ .settle (calm.faults ff).due
  have body : t.body = (f.yielded c).body := settled.body_eq.trans (State.raise_body _ _)
  rw [f.yielded_frame c] at body
  have fsources : f.alert.sources.length = 8 := (v.occur_keepsSetup o).sources_length.trans hsources
  have flen : f.cylinders.length = 8 := (congrArg List.length (State.body_cylinders fbody)).trans hlen
  obtain ⟨records, entry, others⟩ := State.yieldCylinder_tables (s := f) hc flen
  have cyl (x : Nat) : f.cyl x = v.cyl x := State.cyl_congr (State.body_cylinders fbody) x
  have recordOf : f.recordOf c = v.recordOf c := congrArg (fun l : List (Option Record) => l.findSome? _) (State.body_records fbody)
  have tcyl (x : Nat) := State.cyl_congr (State.body_cylinders settled.body_eq) x
  have latched : ((f.yieldCylinder c).alert.src .ownershipChange).latch = true := by
    rw [State.yieldCylinder_eq, State.raise_src ((f.yielded_calm c).latches fsources).1 (by decide)]
  refine ⟨((State.occur_took hf.sound.length plain).calm plain calm).calm plain last, ?_, ?_, fun c' hc' hne => ?_,
    settled.without ⟨by decide, by decide⟩ (f.yieldCylinder_noVerdict c),
    (last.latches ((calm.latches fsources).1)).2 _ (by decide) latched,
    (State.body_peers body).trans (State.body_peers fbody :), (State.body_node body).trans (State.body_node fbody :),
    (State.body_tracker body).trans (State.body_tracker fbody :), (State.body_context body).trans (State.body_context fbody :)⟩
  · exact (congrArg (fun l : List (Option Record) => l.findSome? _) (State.body_records settled.body_eq)).trans records
  · rw [tcyl, entry, recordOf, cyl]
  · rw [tcyl, others c' hc' hne, cyl]

/-- Settles O47. -/
theorem verdictIsHeardAndResolved : Obligations.VerdictIsHeardAndResolved := by
  intro s τ st b0 b1 score loss count hf hears im a c e h heard owner judged yields conflict
  have frame := hears.takeFrame τ .verdict (b0 :: b1 :: bytesOfWord score ++ bytesOfWord loss ++ [count]) (fun s => s.takeVerdict st (verdictCyl b0))
  have hfok : h.FaultsOk := State.heardFrame_faultsOk (hf.advance τ) ..
  have state : h.node.state = s.node.state := State.heardFrame_state ..
  have judges : (h.cyl c).role.judges = decide judged := by
    rw [Role.judges_iff, State.heardFrame_cyl]
    rfl
  have rule : h.params.yieldsTo h.station st c = true ↔ yields := by
    rw [Image.yieldsTo_iff, State.heardFrame_params, State.heardFrame_station]
    exact Iff.rfl
  have conflictOf : (h.verdictHeard c).occurrence .ownershipConflict (some st) (some Kind.verdict.code) (some c) = conflict :=
    (State.heardFrame_occurrence ..).trans (State.advance_occurrence ..)
  refine ⟨fun hu => ⟨_, rfl, State.settles_as (frame.trans ?_) hfok.due⟩, fun hc hout => ⟨_, rfl, ?_⟩,
    fun hc h1 h8 hj => ⟨_, rfl, State.settles_as (frame.trans ?_) hfok.due⟩, fun hc h1 h8 hj hy => ⟨_, rfl, ?_⟩,
    fun hc h1 h8 hj hy hlen hsources => ⟨_, rfl, ?_⟩⟩
  · exact State.takeVerdict_idle (by rw [state, hu]; rfl)
  · rw [frame, State.takeVerdict_malformed (state ▸ hc) (by change ¬(1 ≤ c ∧ c ≤ 8); omega)]
    exact State.heard_fault_settles (cls := .malformed) hf τ _ _ _ (by decide) (by decide) _ _ _
  · rw [show verdictCyl b0 = c from rfl, State.takeVerdict_heard (state ▸ hc) ⟨h1, h8⟩, judges, decide_eq_false hj]
    rfl
  · rw [frame, show verdictCyl b0 = c from rfl, State.takeVerdict_heard (state ▸ hc) ⟨h1, h8⟩, judges, decide_eq_true hj, if_pos rfl]
    have stays : (h.verdictHeard c).resolveConflict st c = (h.verdictHeard c).fault .ownershipConflict (some st) (some Kind.verdict.code) (some c) :=
      if_neg (mt rule.mp hy)
    rw [stays]
    obtain ⟨-, body, took⟩ := State.fault_settles (s := h.verdictHeard c) (k := .ownershipConflict) hfok (by decide) (by decide) (some st)
      (some Kind.verdict.code) (some c)
    refine ⟨body, ?_⟩
    rw [show (h.verdictHeard c).faults = s.faults from State.heardFrame_faults .., conflictOf] at took
    exact took
  · rw [frame, show verdictCyl b0 = c from rfl, State.takeVerdict_heard (state ▸ hc) ⟨h1, h8⟩, judges, decide_eq_true hj, if_pos rfl]
    have gives : (h.verdictHeard c).resolveConflict st c
        = ((h.verdictHeard c).fault .ownershipConflict (some st) (some Kind.verdict.code) (some c)).yieldCylinder c := if_pos (rule.mpr hy)
    rw [gives]
    generalize ht : State.settle _ = t
    have hall : c ∈ allCylinders := mem_allCylinders.mpr ⟨h1, h8⟩
    have hhlen : h.cylinders.length = 8 := (congrArg List.length (State.heardFrame_cylinders ..)).trans hlen
    obtain ⟨took, record, entry, others, queue, latch, peers, node, tracker, context⟩ := State.yield_settles (v := h.verdictHeard c) hfok
      ((congrArg (fun x : AlertUnit => x.sources.length) (State.heardFrame_alert ..)).trans hsources) hall ((List.length_modify ..).trans hhlen)
      ((h.verdictHeard c).occurrence .ownershipConflict (some st) (some Kind.verdict.code) (some c)) rfl ht
    rw [show (h.verdictHeard c).faults = s.faults from State.heardFrame_faults .., conflictOf] at took
    have recordOf : (h.verdictHeard c).recordOf c = s.recordOf c :=
      congrArg (fun l : List (Option Record) => l.findSome? _) (State.heardFrame_records ..)
    have hcyl : (h.verdictHeard c).cyl c = { e with heard := true, silence := 0 } :=
      (State.cyl_onCyl hall hhlen _).trans (by rw [State.heardFrame_cyl]; rfl)
    rw [recordOf, hcyl] at entry
    refine ⟨took, record, entry.trans (CylEntry.yields_eq e _), fun c' hc' hne => (others c' hc' hne).trans ?_, queue, latch, peers, node, tracker.trans ?_, context.trans ?_⟩
    · exact (State.cyl_onCyl_of_ne h hall hc' hne _).trans (State.heardFrame_cyl ..)
    · exact State.heardFrame_tracker ..
    · exact State.heardFrame_context ..

end Sys2Proof.Machine

/-! # Closes on completeness, and a WITNESS placed (O46) -/

namespace Sys2Proof.Machine

/-! ## The record of a cylinder -/

theorem findSome_updateFirst {p : Record → Bool} {f : Record → Record} {r : Record} {l : List (Option Record)}
    (h : l.findSome? (fun o => o.filter p) = some r) (hf : p (f r) = true) :
    (updateFirst p f l).findSome? (fun o => o.filter p) = some (f r) := by
  induction l with
  | nil => cases h
  | cons o l ih =>
    cases o with
    | none => exact ih h
    | some x =>
      unfold updateFirst
      by_cases hx : p x = true
      · rw [List.findSome?_cons, show (some x).filter p = some x from Option.filter_some_pos hx] at h
        have same : x = r := Option.some.inj h
        rw [if_pos hx, same, List.findSome?_cons, show (some (f r)).filter p = some (f r) from Option.filter_some_pos hf]
      · have skip : (some x).filter p = none := Option.filter_some_neg (Bool.eq_false_iff.mpr hx)
        rw [List.findSome?_cons, skip] at h
        rw [if_neg hx, List.findSome?_cons, skip]
        exact ih h

theorem State.recordOf_some {s : State} {c : Nat} {r : Record} (h : s.recordOf c = some r) : r ∈ s.openRecords ∧ r.cyl = c :=
  (State.findRecord_some h).imp_right beq_iff_eq.mp

theorem State.recordOf_onRecordOf {s : State} {c : Nat} {r : Record} (h : s.recordOf c = some r) {f : Record → Record}
    (hf : (f r).cyl = r.cyl) : (s.onRecordOf c f).recordOf c = some (f r) :=
  findSome_updateFirst h (beq_iff_eq.mpr (hf.trans (State.recordOf_some h).2))

theorem State.mem_onRecordOf {s : State} {c : Nat} {f : Record → Record} {r : Record} (h : r ∈ (s.onRecordOf c f).openRecords) :
    r ∈ s.openRecords ∨ ∃ x, s.recordOf c = some x ∧ r = f x :=
  (mem_updateFirst (State.mem_openRecords.mp h)).imp_left State.mem_openRecords.mpr

theorem State.recordOf_congr {s t : State} (h : t.records = s.records) (c : Nat) : t.recordOf c = s.recordOf c :=
  congrArg (fun l : List (Option Record) => l.findSome? _) h

/-- Where no record was ready, an updated record alone may be. -/
theorem State.onRecordOf_ready {s : State} (h : s.NoneReady) {c : Nat} {r : Record} (hr : s.recordOf c = some r) {f : Record → Record}
    {x : Record} (hx : x ∈ (s.onRecordOf c f).openRecords) (hready : x.ready = true) : x = f r := by
  rcases State.mem_onRecordOf hx with hx | ⟨y, hy, rfl⟩
  · exact absurd (h x hx) (by rw [hready]; decide)
  · rw [hr] at hy
    rw [Option.some.inj hy]

/-! ## A cylinder without a record -/

/-- No record of a cylinder is open. -/
def State.NoRecord (c : Nat) (s : State) : Prop := ∀ r ∈ s.openRecords, r.cyl ≠ c

theorem State.NoRecord.recordOf {s : State} {c : Nat} (h : s.NoRecord c) : s.recordOf c = none :=
  State.findRecord_eq_none fun r hr => beq_eq_false_iff_ne.mpr (h r hr)

theorem State.NoRecord.settle {s : State} {c : Nat} (h : s.NoRecord c) : s.settle.NoRecord c := by
  intro r hr
  rcases s.openRecords_settle with e | e
  · exact h r (e ▸ hr)
  · rw [e] at hr
    cases hr

/-- The open records of a close are those of the same cylinders, but the one that closes. -/
theorem State.closeRecord_cyls (s : State) (r : Record) :
    (s.closeRecord r).openRecords.map (·.cyl) = (s.openRecords.map (·.cyl)).filter (· != r.cyl) := by
  rw [State.closeRecord_eq, State.openRecords_freeRecord]
  have judged : (s.judged r).openRecords = s.openRecords :=
    congrArg (List.filterMap id) (State.engine_records (s.judged_engine r))
  rw [← judged, ← (s.judged r).accountWitnesses_cyls r, List.filter_map]
  rfl

theorem State.closeRecord_noRecord (s : State) (r : Record) : (s.closeRecord r).NoRecord r.cyl := by
  intro x hx
  have open_ : x.cyl ∈ (s.openRecords.map (·.cyl)).filter (· != r.cyl) := s.closeRecord_cyls r ▸ List.mem_map_of_mem hx
  exact bne_iff_ne.mp (List.mem_filter.mp open_).2

theorem State.NoRecord.closeRecord {s : State} {c : Nat} (h : s.NoRecord c) (r : Record) : (s.closeRecord r).NoRecord c := by
  intro x hx
  have open_ : x.cyl ∈ (s.openRecords.map (·.cyl)).filter (· != r.cyl) := s.closeRecord_cyls r ▸ List.mem_map_of_mem hx
  obtain ⟨y, hy, he⟩ := List.mem_map.mp (List.mem_filter.mp open_).1
  exact he ▸ h y hy

theorem State.NoRecord.closeReady {s : State} {c : Nat} (h : s.NoRecord c) (fuel : Nat) : (State.closeReady fuel s).NoRecord c :=
  State.closeReady_keeps _ (fun _ h => h.settle) (fun _ r h => h.closeRecord r) fuel s h

/-- R64: a complete record closes; where it is the only one, its cylinder has none left. -/
theorem State.closeComplete_noRecord {s : State} (hd : s.withdrawDue = false) {c : Nat} (hready : ∃ r ∈ s.openRecords, r.ready = true)
    (honly : ∀ r ∈ s.openRecords, r.ready = true → r.cyl = c) : s.closeComplete.NoRecord c := by
  have found : ∃ r, s.findRecord Record.ready = some r ∧ r.cyl = c := by
    cases h : s.findRecord Record.ready with
    | none =>
      obtain ⟨r, hr, hrr⟩ := hready
      exact absurd (State.findRecord_none h r hr) (by rw [hrr]; decide)
    | some r => exact ⟨r, rfl, honly r (State.findRecord_some h).1 (State.findRecord_some h).2⟩
  obtain ⟨r, hr, hc⟩ := found
  have again : s.settle.findRecord Record.ready = some r :=
    (congrArg (fun l : List (Option Record) => l.findSome? _) (State.body_records (State.settle_settled s hd).body_eq)).trans hr
  unfold State.closeComplete State.closeReady
  rw [hr, again]
  exact (hc ▸ s.settle.closeRecord_noRecord r).settle.closeReady 7

/-! ## A WITNESS (R65, R66) -/

theorem witnessInRange_iff (cyl : Byte) (score : BitVec 16) (flags : Byte) : witnessInRange cyl score flags = true
    ↔ (1 ≤ cyl.toNat ∧ cyl.toNat ≤ 8) ∧ score.toNat ≤ 1023 ∧ 1 ≤ flags.toNat % 32 ∧ flags.toNat % 32 ≤ 30 := by
  unfold witnessInRange witnessWeight
  rw [Bool.and_eq_true, Bool.and_eq_true, Bool.and_eq_true, isCyl_iff, decide_eq_true_iff, decide_eq_true_iff, decide_eq_true_iff]
  simp only [and_assoc]

/-- The cylinder is judged, and may have a record (R59, R65). -/
abbrev State.mayJudge (s : State) (c : Nat) : Prop :=
  s.node.state = .running ∧ s.phasedWarm = true ∧ (s.cyl c).role.judges = true

theorem State.mayJudge_iff (s : State) (c : Nat) : s.mayJudge c ↔ s.node.state = .running ∧ s.tracker.sync = .phased
    ∧ s.tracker.warmUp = s.params.warmUp ∧ ((s.cyl c).role = .owner ∨ (s.cyl c).role = .deputyActive) := by
  unfold State.mayJudge State.phasedWarm State.warm
  rw [Role.judges_iff, decide_eq_true_iff, Bool.and_eq_true, beq_iff_eq, beq_iff_eq, and_assoc]

section Place
variable {h : State} {st : Station} {c score weight : Nat} {learning : Bool}

theorem State.placeWitness_passed_over (hj : ¬h.mayJudge c) : h.placeWitness st c score weight learning = h := if_neg hj

theorem State.placeWitness_late (hj : h.mayJudge c) (hr : ∀ r, h.recordOf c = some r → r.windowTaken = false) :
    h.placeWitness st c score weight learning = h.lateWitness st c := by
  unfold State.placeWitness
  rw [if_pos hj]
  split
  · rfl
  · next r e => rw [if_pos (hr r e)]

theorem State.placeWitness_duplicate (hj : h.mayJudge c) {r : Record} (hr : h.recordOf c = some r) (hw : r.windowTaken = true)
    (hd : ∃ w ∈ r.witnesses, w.station = st) :
    h.placeWitness st c score weight learning = h.fault .malformed (some st) (some Kind.witness.code) (some c) := by
  unfold State.placeWitness
  have listed : r.witnesses.any (fun w => w.station == st) = true := by simpa using hd
  rw [if_pos hj, hr]
  dsimp only
  rw [if_neg (by rw [hw]; decide), if_pos listed]

theorem State.placeWitness_appended (hj : h.mayJudge c) {r : Record} (hr : h.recordOf c = some r) (hw : r.windowTaken = true)
    (hd : ∀ w ∈ r.witnesses, w.station ≠ st) : h.placeWitness st c score weight learning
      = (h.onRecordOf c (fun r => { r with
          witnesses := r.witnesses ++ [{ station := st, score := score, weight := weight, learning := learning }] })).closeComplete := by
  unfold State.placeWitness
  have unlisted : ¬r.witnesses.any (fun w => w.station == st) = true := by simpa using hd
  rw [if_pos hj, hr]
  dsimp only
  rw [if_neg (by rw [hw]; decide), if_neg unlisted]

end Place

/-- R64: when the record with one more witness is complete. -/
theorem Record.ready_append_iff (r : Record) (w : WitnessEntry) : ({ r with witnesses := r.witnesses ++ [w] } : Record).ready = true
    ↔ r.state = .waiting ∧ ∀ x ∈ r.expected, x = w.station ∨ ∃ v ∈ r.witnesses, v.station = x := by
  unfold Record.ready Record.complete
  rw [Bool.and_eq_true, beq_iff_eq, List.all_eq_true]
  refine and_congr_right fun _ => forall₂_congr fun x _ => ?_
  rw [List.any_append, List.any_cons, List.any_nil, Bool.or_false, Bool.or_eq_true, beq_iff_eq, List.any_eq_true, or_comm]
  exact or_congr eq_comm (exists_congr fun v => and_congr_right fun _ => beq_iff_eq)

/-- R110: a late WITNESS, to the end of its event. -/
theorem State.lateWitness_settles {h : State} (hf : h.FaultsOk) (st : Station) (c : Nat) :
    let t := (h.lateWitness st c).settle
    FaultUnit.Took (h.occurrence .lateWitness (some st) (some Kind.witness.code) (some c)) h.faults t.faults
      ∧ t.records = h.records ∧ t.cylinders = h.cylinders
      ∧ (h.peers.length = 16 → t.peer st = { h.peer st with
          rejoinRun := if (h.peer st).state = .rejoining then 0 else (h.peer st).rejoinRun }) := by
  intro t
  let o := h.occurrence .lateWitness (some st) (some Kind.witness.code) (some c)
  have fbody : (h.occur o).body = h.body := h.occur_body o
  obtain ⟨settled, took⟩ := State.occur_then_settles (v := h.lateWitness st c) (o := o) hf (by exact (by decide : FaultClass.lateWitness ≠ .queueOverflow))
    (.inl (hf.sound.gentle (k := .lateWitness) (by decide) (by decide))) rfl
  have body := settled.body_eq
  refine ⟨took, (State.body_records body).trans (State.body_records fbody :), (State.body_cylinders body).trans (State.body_cylinders fbody :),
    fun hlen => ?_⟩
  have peers : (h.occur o).peers = h.peers := State.body_peers fbody
  rw [State.peer_congr (State.body_peers body)]
  refine (getD_modify_eq (h.occur o).peers st.val _ _ (by rw [peers, hlen]; exact st.isLt)).trans ?_
  rw [peers]
  show (if (h.peer st).state = .rejoining then _ else h.peer st) = _
  split
  · rfl
  · rfl

/-- Settles O46. -/
theorem witnessIsPlaced : Obligations.WitnessIsPlaced := by
  intro s τ st cyl score flags hf hears a c weight h inRange judged passed entry
  have frame := hears.takeFrame τ .witness (cyl :: bytesOfWord score ++ [flags]) (fun s => s.takeWitness st cyl score flags)
  have hfok : h.FaultsOk := State.heardFrame_faultsOk (hf.advance τ) ..
  have state : h.node.state = s.node.state := State.heardFrame_state ..
  have may : h.mayJudge c ↔ judged := by
    rw [State.mayJudge_iff, state, State.heardFrame_tracker, State.heardFrame_params, State.heardFrame_cyl, s.advance_sync, s.advance_warmUp]
    exact Iff.rfl
  have recordOf : h.recordOf c = s.recordOf c := State.recordOf_congr (State.heardFrame_records ..) c
  have opens : h.openRecords = s.openRecords := congrArg (List.filterMap id) (State.heardFrame_records ..)
  have ranged := witnessInRange_iff cyl score flags
  have placed (hr : inRange) (hc : h.node.state.configured = true) :
      h.takeWitness st cyl score flags = h.placeWitness st c score.toNat weight (flags.getLsbD 7) :=
    (if_pos hc).trans (if_pos (ranged.mpr hr))
  have configured (hj : judged) : h.node.state.configured = true := by
    rw [state, hj.1]
    rfl
  refine ⟨fun hno => ⟨_, rfl, State.settles_as (frame.trans ?_) hfok.due⟩, fun hc hr => ⟨_, rfl, ?_⟩, fun hr hj hlate => ⟨_, rfl, ?_⟩,
    fun r hr hj hrec hw => ⟨fun hdup => ⟨_, rfl, ?_⟩, fun hnew hnone => ⟨fun hopen => ⟨_, rfl, ?_⟩, fun hwait hcov => ⟨_, rfl, ?_⟩⟩⟩⟩
  · by_cases hc : h.node.state.configured = true
    · rcases hno with hu | ⟨hr, hj⟩
      · rw [state, hu] at hc
        cases hc
      · exact (placed hr hc).trans (State.placeWitness_passed_over (mt may.mp hj))
    · exact if_neg hc
  · have taken : h.takeWitness st cyl score flags = h.fault .malformed (some st) (some Kind.witness.code) (if isCyl c then some c else none) :=
      (if_pos (state ▸ hc)).trans (if_neg (mt ranged.mp hr))
    rw [frame, taken]
    obtain ⟨body, took⟩ := State.heard_fault_settles (cls := .malformed) hf τ .witness st (cyl :: bytesOfWord score ++ [flags]) (by decide) (by decide)
      (some st) (some Kind.witness.code) (if isCyl c then some c else none)
    refine ⟨?_, body⟩
    simp only [isCyl_iff] at took ⊢
    exact took
  · rw [frame, placed hr (configured hj), State.placeWitness_late (may.mpr hj) fun r hr => hlate r (recordOf ▸ hr)]
    obtain ⟨took, records, cylinders, peer⟩ := State.lateWitness_settles hfok st c
    rw [State.heardFrame_occurrence, State.heardFrame_faults, State.advance_occurrence] at took
    refine ⟨took, records.trans (State.heardFrame_records ..), cylinders.trans (State.heardFrame_cylinders ..), fun hlen => peer ?_⟩
    rw [State.heardFrame_peers]
    split
    · exact (List.length_modify ..).trans hlen
    · exact hlen
  · rw [frame, placed hr (configured hj), State.placeWitness_duplicate (may.mpr hj) (recordOf.trans hrec) hw hdup]
    exact (State.heard_fault_settles (cls := .malformed) hf τ .witness st (cyl :: bytesOfWord score ++ [flags]) (by decide) (by decide) _ _ _).symm
  all_goals rw [frame, placed hr (configured hj), State.placeWitness_appended (may.mpr hj) (recordOf.trans hrec) hw hnew]
  all_goals
    have hnone' : h.NoneReady := fun x hx => hnone x (opens ▸ hx)
    let u := h.onRecordOf c (fun r => { r with witnesses := r.witnesses ++ [entry] })
    have found : u.recordOf c = some { r with witnesses := r.witnesses ++ [entry] } := State.recordOf_onRecordOf (recordOf.trans hrec) rfl
    have only (x : Record) (hx : x ∈ u.openRecords) (hready : x.ready = true) := State.onRecordOf_ready hnone' (recordOf.trans hrec) hx hready
    have readyIff := Record.ready_append_iff r entry
  · have stays : u.closeComplete = u := State.closeReady_none 8 u (State.findRecord_eq_none fun x hx => Bool.eq_false_iff.mpr fun hready => by
      obtain ⟨hstate, hcov⟩ := readyIff.mp (only x hx hready ▸ hready)
      rcases hopen with hg | hn
      · rw [hstate] at hg
        cases hg
      · exact hn hcov)
    rw [show State.closeComplete _ = u from stays]
    have body := (State.settle_settled u hfok.due).body_eq
    exact ⟨(State.recordOf_congr (State.body_records body) c).trans found, (State.body_cylinders body).trans (State.heardFrame_cylinders ..),
      (State.body_peers body).trans rfl⟩
  · refine (State.closeComplete_noRecord (s := u) hfok.due ⟨_, (State.recordOf_some found).1, readyIff.mpr ⟨hwait, hcov⟩⟩ fun x hx hready => ?_).settle.recordOf
    rw [only x hx hready]
    exact (State.recordOf_some found).2

end Sys2Proof.Machine

/-! # The peer tick silences the stations not heard (O59) -/

namespace Sys2Proof.Machine

/-! ## Latches stay through every move (R155, R156) -/

/-- No latch but that of FIRST_FAULT is cleared from `s` to `t`. -/
def State.KeepsLatches (s t : State) : Prop := s.alert.sources.length = 8 → t.alert.sources.length = 8
  ∧ ∀ x, x ≠ .firstFault → (s.alert.src x).latch = true → (t.alert.src x).latch = true

theorem State.KeepsLatches.of_sources {s t : State} (h : t.alert.sources = s.alert.sources) : s.KeepsLatches t :=
  fun hlen => ⟨h ▸ hlen, fun x _ hl => by rw [AlertUnit.src_congr h]; exact hl⟩

theorem State.KeepsLatches.trans {s t u : State} (h : s.KeepsLatches t) (h' : t.KeepsLatches u) : s.KeepsLatches u :=
  fun hlen => ⟨(h' (h hlen).1).1, fun x hx hl => (h' (h hlen).1).2 x hx ((h hlen).2 x hx hl)⟩

theorem State.KeepsLatches.raise (s : State) (x : AlertSource) : s.KeepsLatches (s.raise x) := by
  refine fun hlen => ⟨(s.raise_keepsSetup x).sources_length.trans hlen, fun y hy hl => ?_⟩
  by_cases hyx : y = x
  · rw [hyx, State.raise_src hlen (hyx ▸ hy)]
  · rw [State.raise_src_of_ne s hy hyx]
    exact hl

/-- Only SERVE clears a latch, and power-on. -/
theorem State.MovesIn.keepsLatches {s t : State} (h : s.Moves t) : s.KeepsLatches t := by
  induction h with
  | write _ h => exact .of_sources (congrArg AlertUnit.sources (State.control_alert h))
  | occur s o => exact fun hlen => ⟨(s.occur_keepsSetup o).sources_length.trans hlen, fun x hx hl => by
      rw [(s.occur_occurredTo o).sources x hx]; exact hl⟩
  | raise s x => exact .raise s x
  | report s k c p => exact (State.Calm.queueReport s k c p).latches
  | remove s p => exact .of_sources rfl
  | carry s _ => exact .of_sources s.carryWithdrawal_sources
  | service s => exact (State.Calm.updateService s).latches
  | link s f _ _ _ => exact .of_sources rfl
  | node s f _ _ => exact .of_sources rfl
  | join s _ _ => exact .of_sources rfl
  | line s =>
    refine .of_sources ?_
    show (s.alert.assertLine _).sources = _
    unfold AlertUnit.assertLine
    split <;> rfl
  | trans _ _ ih ih' => exact ih.trans ih'

theorem State.settle_peers (s : State) : s.settle.peers = s.peers :=
  (State.body_peers (State.updateService_body _)).trans s.carryWithdrawal_keeps.2.1

/-! ## One silencing (R107) -/

section Silence
variable (s : State) (st : Station) (c : Option Nat)

theorem State.silencePeer_peer_of_ne {st' : Station} (h : st' ≠ st) : (s.silencePeer st c).peer st' = s.peer st' := by
  unfold State.peer
  rw [(s.silencePeer_tables st c).1]
  exact getD_modify_ne _ _ _ fun hv => h (Fin.ext hv.symm)

theorem State.silencePeer_peer (hlen : s.peers.length = 16) : (s.silencePeer st c).peer st = (s.peer st).silence := by
  unfold State.peer
  rw [(s.silencePeer_tables st c).1]
  exact getD_modify_eq _ _ _ _ (by rw [hlen]; exact st.isLt)

theorem State.silencePeer_peers_length : (s.silencePeer st c).peers.length = s.peers.length := by
  rw [(s.silencePeer_tables st c).1, List.length_modify]

/-- The occurrence passed, and what follows it in the event. -/
theorem State.silencePeer_calm : ((s.onPeer st PeerEntry.silence).fault .peerSilent (some st) none c).Calm (s.silencePeer st c) := by
  unfold State.silencePeer
  dsimp only
  split
  · exact (State.Calm.raise _ _ (by decide)).trans (.of_eq rfl rfl rfl)
  · exact .of_eq rfl rfl rfl

theorem State.silencePeer_count (h : s.faults.Sound) :
    ((s.silencePeer st c).faults.cls .peerSilent).count = min ((s.faults.cls .peerSilent).count + 1) 255 := by
  have took := State.occur_took (s := s.onPeer st PeerEntry.silence) (o := s.occurrence .peerSilent (some st) none c) h.length
    (by exact (by decide : FaultClass.peerSilent ≠ .queueOverflow))
  rw [(s.silencePeer_calm st c).counts.others .peerSilent (by decide)]
  exact congrArg ClassState.count took.1

theorem State.silencePeer_raises (hlen : s.alert.sources.length = 8) (ha : (s.peer st).state = .active) (he : (s.peer st).expectedFor = true) :
    ((s.silencePeer st c).alert.src .peerSilent).latch = true := by
  have passed : ((s.onPeer st PeerEntry.silence).fault .peerSilent (some st) none c).alert.sources.length = 8 :=
    (State.occur_keepsSetup _ _).sources_length.trans hlen
  have raised : s.silencePeer st c
      = (((s.onPeer st PeerEntry.silence).fault .peerSilent (some st) none c).raise .peerSilent).onOpenRecords (Record.unexpect st) := by
    unfold State.silencePeer
    dsimp only
    rw [if_pos ⟨ha, he⟩]
  rw [raised]
  exact congrArg SourceState.latch (State.raise_src passed (by decide))

end Silence

/-! ## A silent station stays silent through the closes (R67, R108, R109) -/

/-- A station is SILENT, and expected by no open record. -/
def State.Hushed (st : Station) (s : State) : Prop := (s.peer st).state = .silent ∧ ∀ r ∈ s.openRecords, st ∉ r.expected

namespace State.Hushed
variable {st : Station} {s : State}

theorem congr {t : State} (h : s.Hushed st) (hp : t.peers = s.peers) (hr : t.records = s.records) : t.Hushed st := by
  refine ⟨by rw [State.peer_congr hp]; exact h.1, fun r hr' => h.2 r ?_⟩
  rw [State.mem_openRecords] at hr' ⊢
  exact hr ▸ hr'

/-- An update of a peer leaves it silent where the update leaves a SILENT peer. -/
theorem onPeer (h : s.Hushed st) (st' : Station) {f : PeerEntry → PeerEntry} (hf : ∀ p : PeerEntry, p.state = .silent → (f p).state = .silent) :
    (s.onPeer st' f).Hushed st := by
  refine ⟨?_, h.2⟩
  obtain ⟨hp, -⟩ := h
  unfold State.peer at hp ⊢
  show ((s.peers.modify st'.val f).getD st.val PeerEntry.powerOn).state = .silent
  rw [List.getD_eq_getElem?_getD] at hp ⊢
  rw [List.getElem?_modify]
  cases he : s.peers[st.val]? with
  | none =>
    rw [he] at hp
    cases hp
  | some p =>
    rw [he] at hp
    by_cases hst : st'.val = st.val
    · simpa [hst] using hf p hp
    · simpa [hst] using hp

theorem silencePeer (h : s.Hushed st) (st' : Station) (c : Option Nat) : (s.silencePeer st' c).Hushed st := by
  obtain ⟨hpeers, -⟩ := s.silencePeer_tables st' c
  refine ⟨?_, fun r hr => ?_⟩
  · rw [show (s.silencePeer st' c).peer st = (s.onPeer st' PeerEntry.silence).peer st from State.peer_congr hpeers st]
    exact (h.onPeer st' (f := PeerEntry.silence) fun _ _ => rfl).1
  · rw [State.openRecords_silencePeer] at hr
    obtain ⟨x, hx, rfl⟩ := List.mem_map.mp hr
    exact fun hst => h.2 x hx (List.mem_filter.mp hst).1

theorem accountWitnesses (h : s.Hushed st) (r : Record) : (s.accountWitnesses r).Hushed st := by
  refine foldl_keeps (P := State.Hushed st) (fun u x hu => ?_) _ (foldl_keeps (P := State.Hushed st) (fun u x hu => ?_) _
    (foldl_keeps (P := State.Hushed st) (fun u x hu => hu.onPeer x fun p hp => ?_) _ h))
  · unfold State.absentPeer
    split
    · exact hu.silencePeer x _
    · exact hu
  · unfold State.missPeer
    dsimp only
    split
    · split
      · exact hu.silencePeer x _
      · exact hu.onPeer x fun _ hp => hp
    · exact hu
  · unfold PeerEntry.onTime
    rw [hp]
    exact hp

theorem closeRecord (h : s.Hushed st) (r : Record) : (s.closeRecord r).Hushed st := by
  have judged : (s.judged r).Hushed st :=
    h.congr (State.engine_peers (s.judged_engine r)) (State.engine_records (s.judged_engine r))
  rw [State.closeRecord_eq]
  obtain ⟨hp, hr⟩ := judged.accountWitnesses r
  refine ⟨hp, fun x hx => hr x ?_⟩
  rw [State.openRecords_freeRecord] at hx
  exact (List.mem_filter.mp hx).1

theorem settle (h : s.Hushed st) : s.settle.Hushed st := by
  refine ⟨?_, fun r hr => ?_⟩
  · rw [State.peer_congr s.settle_peers]
    exact h.1
  · rcases s.openRecords_settle with e | e
    · exact h.2 r (e ▸ hr)
    · rw [e] at hr
      cases hr

theorem closeComplete (h : s.Hushed st) : s.closeComplete.Hushed st :=
  State.closeReady_keeps _ (fun _ h => h.settle) (fun _ r h => h.closeRecord r) 8 s h

end State.Hushed

/-! ## The tick (R106) -/

/-- The tick silences a station. -/
def State.silences (s : State) (st : Station) : Bool := decide (st ≠ s.station) && s.timedOut st

theorem State.timeoutPeer_eq (s : State) (st : Station) : s.timeoutPeer st = if s.silences st then s.silencePeer st none else s := by
  unfold State.timeoutPeer State.silences
  simp

theorem State.silences_congr {s t : State} (ho : t.outer = s.outer) {st : Station} (hp : t.peer st = s.peer st) :
    t.silences st = s.silences st := by
  unfold State.silences State.timedOut
  rw [State.outer_station ho, hp, State.params_congr (State.outer_image ho), State.outer_now ho]

/-- What the tests of the stations `l` leave, from `s` to `t`. -/
structure State.Tested (l : List Station) (s t : State) : Prop where
  outer : t.outer = s.outer
  sound : t.faults.Sound
  length : t.peers.length = 16
  silenced : ∀ st ∈ l, s.silences st = true → t.peer st = (s.peer st).silence
  kept : ∀ st, (st ∈ l → s.silences st = false) → t.peer st = s.peer st
  count : (t.faults.cls .peerSilent).count = min ((s.faults.cls .peerSilent).count + (l.filter s.silences).length) 255
  latches : s.KeepsLatches t
  raised : s.alert.sources.length = 8 → ∀ st ∈ l, s.silences st = true → (s.peer st).state = .active → (s.peer st).expectedFor = true →
    (t.alert.src .peerSilent).latch = true
  hushed : ∀ st ∈ l, s.silences st = true → t.Hushed st
  closed : s.openRecords = [] → t.openRecords = []

theorem State.tested_timeoutPeer {s : State} (h : s.faults.Sound) (hlen : s.peers.length = 16) (st : Station) : s.Tested [st] (s.timeoutPeer st) := by
  rw [State.timeoutPeer_eq]
  cases hs : s.silences st with
  | false =>
    rw [if_neg Bool.false_ne_true]
    have none_ {P : Prop} (x : Station) (hx : x ∈ [st]) (hsx : s.silences x = true) : P := by
      rw [List.mem_singleton.mp hx, hs] at hsx
      cases hsx
    refine ⟨rfl, h, hlen, fun x hx hsx => none_ x hx hsx, fun _ _ => rfl, ?_, .of_sources rfl, fun _ x hx hsx => none_ x hx hsx,
      fun x hx hsx => none_ x hx hsx, id⟩
    rw [List.filter_singleton, hs]
    exact (Nat.min_eq_left (h.counts .peerSilent)).symm
  | true =>
    rw [if_pos rfl]
    have one {P : Station → Prop} (hP : P st) (x : Station) (hx : x ∈ [st]) : P x := List.mem_singleton.mp hx ▸ hP
    refine ⟨s.silencePeer_outer st none, (s.silencePeer_moves st none).sound h, (s.silencePeer_peers_length st none).trans hlen,
      one fun _ => s.silencePeer_peer st none hlen, fun x hx => s.silencePeer_peer_of_ne st none fun e => ?_, ?_,
      (s.silencePeer_moves st none).keepsLatches, fun hlen' => one fun _ => s.silencePeer_raises st none hlen', one fun _ => ⟨?_, fun r hr => ?_⟩,
      fun hr => by rw [State.openRecords_silencePeer, hr]; rfl⟩
    · have := hx (e ▸ .head _)
      rw [e, hs] at this
      cases this
    · rw [List.filter_singleton, hs]
      exact s.silencePeer_count st none h
    · rw [s.silencePeer_peer st none hlen]
      rfl
    · rw [State.openRecords_silencePeer] at hr
      obtain ⟨x, -, rfl⟩ := List.mem_map.mp hr
      exact fun hst => by simpa using (List.mem_filter.mp hst).2

theorem State.Hushed.timeoutPeer {st : Station} {s : State} (h : s.Hushed st) (x : Station) : (s.timeoutPeer x).Hushed st := by
  rw [State.timeoutPeer_eq]
  split
  · exact h.silencePeer x none
  · exact h

/-- R106: the stations tested one after the other. -/
theorem State.tested_foldl {l : List Station} (hl : l.Nodup) {s : State} (h : s.faults.Sound) (hlen : s.peers.length = 16) :
    s.Tested l (l.foldl State.timeoutPeer s) := by
  induction l generalizing s with
  | nil =>
    exact ⟨rfl, h, hlen, nofun, fun _ _ => rfl, (Nat.min_eq_left (h.counts .peerSilent)).symm, .of_sources rfl, fun _ => nofun, nofun, id⟩
  | cons x l ih =>
    obtain ⟨fresh, nodup⟩ := List.nodup_cons.mp hl
    have first := State.tested_timeoutPeer h hlen x
    have rest := ih nodup first.sound first.length
    have same (st : Station) (hst : st ≠ x) : (s.timeoutPeer x).peer st = s.peer st :=
      first.kept st fun hin => absurd (List.mem_singleton.mp hin) hst
    have still (st : Station) (hst : st ≠ x) : (s.timeoutPeer x).silences st = s.silences st :=
      State.silences_congr first.outer (same st hst)
    have other {st : Station} (hst : st ∈ l) : st ≠ x := fun e => fresh (e ▸ hst)
    rw [List.foldl_cons]
    refine ⟨rest.outer.trans first.outer, rest.sound, rest.length, fun st hst hs => ?_, fun st hno => ?_, ?_, first.latches.trans rest.latches,
      fun hsrc st hst hs ha he => ?_, fun st hst hs => ?_, fun hr => rest.closed (first.closed hr)⟩
    · rcases List.mem_cons.mp hst with rfl | hst
      · rw [rest.kept _ fun hin => absurd hin fresh]
        exact first.silenced _ (.head _) hs
      · rw [rest.silenced st hst ((still st (other hst)).trans hs), same st (other hst)]
    · rw [rest.kept st fun hin => (still st (other hin)).trans (hno (.tail _ hin))]
      exact first.kept st fun hin => hno (List.mem_singleton.mp hin ▸ .head _)
    · have filtered : l.filter (s.timeoutPeer x).silences = l.filter s.silences :=
        List.filter_congr fun st hst => still st (other hst)
      rw [rest.count, first.count, filtered, show x :: l = [x] ++ l from rfl, List.filter_append, List.length_append]
      omega
    · rcases List.mem_cons.mp hst with rfl | hst
      · exact (rest.latches (first.latches hsrc).1).2 _ (by decide) (first.raised hsrc _ (.head _) hs ha he)
      · rw [← same st (other hst)] at ha he
        exact rest.raised (first.latches hsrc).1 st hst ((still st (other hst)).trans hs) ha he
    · rcases List.mem_cons.mp hst with rfl | hst
      · exact foldl_keeps (P := State.Hushed _) (fun _ y h => h.timeoutPeer y) l (first.hushed _ (.head _) hs)
      · exact rest.hushed st hst ((still st (other hst)).trans hs)

theorem State.silences_iff {s : State} {st : Station} : s.silences st = true ↔ st ≠ s.station
    ∧ ((s.peer st).state = .active ∨ (s.peer st).state = .rejoining)
    ∧ ∃ u, (s.peer st).lastHeard = some u ∧ 3 * (s.params.statusMs * 20000) ≤ (s.now - u).toNat := by
  unfold State.silences State.timedOut
  dsimp only
  rw [Bool.and_eq_true, Bool.and_eq_true, Bool.or_eq_true, beq_iff_eq, beq_iff_eq, decide_eq_true_iff]
  cases (s.peer st).lastHeard with
  | none => simp
  | some u =>
    refine and_congr_right fun _ => and_congr_right fun _ => ?_
    rw [decide_eq_true_iff]
    exact ⟨fun h => ⟨u, rfl, h⟩, fun ⟨v, hv, h⟩ => Option.some.inj hv ▸ h⟩

theorem allStations_nodup : allStations.Nodup := by decide

theorem mem_allStations (st : Station) : st ∈ allStations := by
  revert st
  decide

/-- Settles O59: the stations are tested one after the other, each test writing its own station, and the closes after them leave a
SILENT station silent. -/
theorem timeoutTickSilencesStations : Obligations.TimeoutTickSilencesStations := by
  intro s τ hf hlen a due
  have dueIff (st : Station) : a.silences st = true ↔ due st := State.silences_iff
  refine ⟨fun hc => ⟨_, rfl, State.settles_as (if_neg (by rw [show a.node.state.configured = false from hc]; decide)) hf.due⟩,
    fun hc => ⟨_, rfl, fun st hst => ?_, fun hnone => ?_⟩⟩
  all_goals rw [show peerTimeoutTick a = a.timeoutPeers from if_pos hc]
  · have tested := State.tested_foldl allStations_nodup (s := a) hf.sound hlen
    exact ((tested.hushed st (mem_allStations st) ((dueIff st).mpr hst)).closeComplete).settle
  · have tested := State.tested_foldl allStations_nodup (s := a) hf.sound hlen
    generalize hu : allStations.foldl State.timeoutPeer a = u at tested
    have closed : u.openRecords = [] := tested.closed (State.openRecords_of_none hnone)
    have stays : u.closeComplete = u := State.closeReady_none 8 u (State.findRecord_eq_none fun r hr => by rw [closed] at hr; cases hr)
    rw [State.timeoutPeers, hu, stays]
    have peer (st : Station) : u.settle.peer st = u.peer st := State.peer_congr u.settle_peers st
    refine ⟨fun st hst => ?_, fun st hst => ?_, ?_, fun st hst ha he hsrc => ?_⟩
    · exact (peer st).trans (tested.silenced st (mem_allStations st) ((dueIff st).mpr hst))
    · exact (peer st).trans (tested.kept st fun _ => Bool.eq_false_iff.mpr (mt (dueIff st).mp hst))
    · rw [u.settle_trails.counts.others .peerSilent (by decide), u.carryWithdrawal_faults]
      refine tested.count.trans ?_
      have filtered : allStations.filter a.silences = allStations.filter (fun st => decide (due st)) :=
        List.filter_congr fun st _ => Bool.eq_iff_iff.mpr ((dueIff st).trans decide_eq_true_iff.symm)
      rw [filtered]
      rfl
    · have latched := tested.raised hsrc st (mem_allStations st) ((dueIff st).mpr hst) ha he
      exact ((State.MovesIn.settle u).keepsLatches (tested.latches hsrc).1).2 _ (by decide) latched

end Sys2Proof.Machine

/-! # A rejected frame, judged by its first failing check (O43) -/

namespace Sys2Proof.Machine

/-! ## An occurrence, and writes to the link and the node after it -/

/-- A class whose occurrences withdraw no node, and that no queuing brings. -/
structure FaultClass.Plain (k : FaultClass) : Prop where
  noOverflow : k ≠ .queueOverflow
  noPeer : k ≠ .peerSilent ∧ k ≠ .clash
  gentle : k.powerOnSeverity ≠ .withdrawing

theorem FaultClass.plain_check : FaultClass.Plain .check := ⟨by decide, by decide, by decide⟩
theorem FaultClass.plain_malformed : FaultClass.Plain .malformed := ⟨by decide, by decide, by decide⟩
theorem FaultClass.plain_rateLost : FaultClass.Plain .rateLost := ⟨by decide, by decide, by decide⟩

theorem State.fault_plain {s : State} (h : s.FaultsOk) {k : FaultClass} (hk : k.Plain) (st : Option Station) (kind c : Option Nat) :
    (s.fault k st kind c).FaultsOk ∧ FaultUnit.Took (s.occurrence k st kind c) s.faults (s.fault k st kind c).faults :=
  ⟨State.fault_faultsOk h hk.noPeer hk.gentle st kind c, State.occur_took (o := s.occurrence k st kind c) h.sound.length hk.noOverflow⟩

/-- A write to the link that reads nothing of the queue acts alike on states of one body. -/
theorem State.onLink_body_congr {f v : State} (h : f.body = v.body) {g : Link → Link} (hg : ∀ l : Link, (g l).bare = g l.bare) :
    (f.onLink g).body = (v.onLink g).body := by
  have link : (g f.link).bare = (g v.link).bare := by rw [hg, hg, State.body_link h]
  show ({ f.body with link := (g f.link).bare } : State) = { v.body with link := (g v.link).bare }
  rw [h, link]

/-! ## A failing frame (R137, R144) -/

/-- R137: a failure of check 1 or 2, judged. -/
def State.failed (v : State) (cls : FaultClass) (header : Option Byte) : State := ((v.checkFault cls header).failingFrame).settle

section Failing
variable {v : State} (hf : v.FaultsOk) {cls : FaultClass} (hc : cls.Plain) (header : Option Byte)

include hf hc in
/-- The frame counts. -/
theorem State.failed_counts (hl : v.link.acq = some .locked) (h7 : v.link.failures < 7) :
    FaultUnit.Took (v.occurrence cls (header.map headerStation) (header.map headerKind) none) v.faults (v.failed cls header).faults
      ∧ (v.failed cls header).body = (v.onLink (fun l => { l with failures := l.failures + 1 })).body := by
  let f := v.fault cls (header.map headerStation) (header.map headerKind) none
  obtain ⟨ff, took⟩ := State.fault_plain hf hc (header.map headerStation) (header.map headerKind) none
  have fbody : f.body = v.body := v.fault_body ..
  have facq : f.link.acq = some .locked := (State.body_acq fbody).trans hl
  have ffail : f.link.failures = v.link.failures := State.body_linkPart fbody Link.failures fun _ => rfl
  have act : (v.checkFault cls header).failingFrame = f.onLink (fun l => { l with failures := l.failures + 1 }) := by
    have passed : v.checkFault cls header = f := if_pos hl
    unfold State.failingFrame
    rw [passed, facq]
    exact if_neg (by rw [ffail]; omega)
  have due : (f.onLink (fun l => { l with failures := l.failures + 1 })).withdrawDue = false := ff.due
  unfold State.failed
  rw [act]
  have took : FaultUnit.Took _ v.faults (f.onLink (fun l => { l with failures := l.failures + 1 })).faults := took
  exact ⟨took.calm hc.noOverflow (.settle due), (State.settle_settled _ due).body_eq.trans (State.onLink_body_congr fbody fun _ => rfl)⟩

/-- The eighth failing frame in the link (R144). -/
def Link.loseRate (l : Link) : Link :=
  if l.mode = some .acquire then { { l with failures := 0 }.huntNext with rounds := 0 } else { l with failures := 0 }

/-- The link and the listen at the eighth failing frame. -/
def State.lose (g : State) : State :=
  if g.link.mode = some .acquire then (g.onLink Link.loseRate).stopListen else g.onLink Link.loseRate

theorem State.lose_keeps (g : State) : g.lose.faults = g.faults ∧ g.lose.withdrawDue = g.withdrawDue := by
  unfold State.lose
  split <;> exact ⟨rfl, rfl⟩

theorem Link.loseRate_bare (l : Link) : l.loseRate.bare = l.bare.loseRate := by
  unfold Link.loseRate
  rw [show l.bare.mode = l.mode from rfl]
  split <;> rfl

theorem State.lose_body_congr {f v : State} (h : f.body = v.body) : f.lose.body = v.lose.body := by
  have written : (f.onLink Link.loseRate).body = (v.onLink Link.loseRate).body := State.onLink_body_congr h Link.loseRate_bare
  unfold State.lose
  rw [State.body_linkPart h Link.mode fun _ => rfl]
  split
  · exact State.onNode_body_congr written _
  · exact written

theorem State.loseRate_eq (f : State) : f.loseRate = (f.fault .rateLost).lose := by
  have mode : (f.fault .rateLost).link.mode = f.link.mode := State.body_linkPart (f.fault_body ..) Link.mode fun _ => rfl
  have write (u : State) (g : Link → Link) (h : g u.link = u.link.loseRate) : u.onLink g = u.onLink Link.loseRate := by
    unfold State.onLink
    rw [h]
  unfold State.loseRate State.lose
  dsimp only
  rw [mode]
  split
  · next h => exact congrArg State.stopListen (write _ (fun l => { { l with failures := 0 }.huntNext with rounds := 0 }) (if_pos (mode.trans h)).symm)
  · next h => exact write _ (fun l => { l with failures := 0 }) (if_neg (mode ▸ h)).symm

include hf hc in
/-- The eighth failing frame loses the rate. -/
theorem State.failed_loses (hrate : cls ≠ .rateLost) (hl : v.link.acq = some .locked) (h7 : v.link.failures = 7) :
    (v.failed cls header).faults.cls cls = (v.faults.cls cls).counted 1
      ∧ (v.failed cls header).faults.cls .rateLost = (v.faults.cls .rateLost).counted 1
      ∧ (v.failed cls header).body = v.lose.body := by
  let f := v.fault cls (header.map headerStation) (header.map headerKind) none
  let g := f.fault .rateLost
  obtain ⟨ff, took⟩ := State.fault_plain hf hc (header.map headerStation) (header.map headerKind) none
  obtain ⟨gf, lost⟩ := State.fault_plain ff FaultClass.plain_rateLost none none none
  have fbody : f.body = v.body := v.fault_body ..
  have gbody : g.body = v.body := (f.fault_body ..).trans fbody
  have facq : f.link.acq = some .locked := (State.body_acq fbody).trans hl
  have ffail : f.link.failures = v.link.failures := State.body_linkPart fbody Link.failures fun _ => rfl
  have act : (v.checkFault cls header).failingFrame = g.lose := by
    have passed : v.checkFault cls header = f := if_pos hl
    unfold State.failingFrame
    rw [passed, facq, ← State.loseRate_eq]
    exact if_pos (by rw [ffail]; omega)
  have due : g.lose.withdrawDue = false := g.lose_keeps.2.trans gf.due
  have lost : FaultUnit.Took (f.occurrence .rateLost none none none) f.faults g.lose.faults := g.lose_keeps.1.symm ▸ lost
  obtain ⟨counted, others, -, -⟩ := lost.calm FaultClass.plain_rateLost.noOverflow (.settle due)
  unfold State.failed
  rw [act]
  exact ⟨(others cls (mem_allClasses cls) hrate hc.noOverflow).trans took.1,
    counted.trans (congrArg _ (took.2.1 .rateLost (mem_allClasses _) hrate.symm (by decide))),
    (State.settle_settled _ due).body_eq.trans (State.lose_body_congr gbody)⟩

include hf in
/-- In CONFIRM a failing frame is not passed, and hunts on. -/
theorem State.failed_hunts (hl : v.link.acq = some .confirm) : (v.onLink Link.huntNext).SettledTo (v.failed cls header) := by
  have act : (v.checkFault cls header).failingFrame = v.onLink Link.huntNext := by
    have unpassed : v.checkFault cls header = v := if_neg (by rw [hl]; decide)
    unfold State.failingFrame
    rw [unpassed, hl]
  exact State.settles_as act hf.due

include hf in
/-- In HUNT a failing frame is passed over. -/
theorem State.failed_over (hl : v.link.acq = some .hunt) : v.SettledTo (v.failed cls header) := by
  have act : (v.checkFault cls header).failingFrame = v := by
    have unpassed : v.checkFault cls header = v := if_neg (by rw [hl]; decide)
    unfold State.failingFrame
    rw [unpassed, hl]
  exact State.settles_as act hf.due

end Failing

/-! ## A failing frame that was read (R136) -/

theorem State.frameRead_link (a : State) (cells : List Bool) (r : Receiver) :
    ∃ d x, (a.frameRead cells r).link = { a.link with dominantRun := d, recessiveRun := x, receiver := r } := by
  obtain ⟨d, x, e⟩ := Link.readFrame_keeps cells a.link
  exact ⟨d, x, congrArg (fun l : Link => { l with receiver := r }) e⟩

section Read
variable {a : State} (hf : a.FaultsOk) (cells : List Bool) (r : Receiver) {cls : FaultClass} (hc : cls.Plain) (header : Option Byte) {t : State}
  (ht : (a.frameRead cells r).failed cls header = t)

include hf hc ht

theorem State.read_counts (hl : a.link.acq = some .locked) (h7 : a.link.failures < 7) :
    FaultUnit.Took (a.occurrence cls (header.map headerStation) (header.map headerKind) none) a.faults t.faults
      ∧ t.link.receiver = r ∧ t.link.acq = some .locked ∧ t.link.failures = a.link.failures + 1 ∧ t.link.rate = a.link.rate
      ∧ t.node = a.node := by
  obtain ⟨d, x, e⟩ := a.frameRead_link cells r
  obtain ⟨took, body⟩ := State.failed_counts (v := a.frameRead cells r) hf hc header (by rw [e]; exact hl) (by rw [e]; exact h7)
  rw [ht] at took body
  have link : t.link.bare = { (a.frameRead cells r).link.bare with failures := (a.frameRead cells r).link.failures + 1 } := State.body_link body
  rw [e] at link
  exact ⟨took, (congrArg Link.receiver link :), (congrArg Link.acq link).trans hl, (congrArg Link.failures link :), (congrArg Link.rate link :),
    (State.body_node body :)⟩

theorem State.read_loses (hrate : cls ≠ .rateLost) (hl : a.link.acq = some .locked) (h7 : a.link.failures = 7) :
    t.faults.cls cls = (a.faults.cls cls).counted 1 ∧ t.faults.cls .rateLost = (a.faults.cls .rateLost).counted 1
      ∧ t.link.receiver = r ∧ t.link.failures = 0
      ∧ (a.link.mode = some .acquire → t.link.acq = some .hunt ∧ t.link.rate = a.link.rate.map Rate.next
          ∧ t.link.rounds = 0 ∧ t.link.dwell = some 400000 ∧ t.node = { a.node with listen := none })
      ∧ (a.link.mode ≠ some .acquire → t.link.acq = some .locked ∧ t.link.rate = a.link.rate ∧ t.node = a.node) := by
  obtain ⟨d, x, e⟩ := a.frameRead_link cells r
  obtain ⟨counted, lost, body⟩ := State.failed_loses (v := a.frameRead cells r) hf hc header hrate (by rw [e]; exact hl) (by rw [e]; exact h7)
  rw [ht] at counted lost body
  have mode : (a.frameRead cells r).link.mode = a.link.mode := by rw [e]
  have link : t.link.bare = (a.frameRead cells r).lose.link.bare := State.body_link body
  have node : t.node = (a.frameRead cells r).lose.node := State.body_node body
  unfold State.lose at link node
  rw [mode] at link node
  by_cases hm : a.link.mode = some .acquire
  · rw [if_pos hm] at link node
    have link : t.link.bare = (a.frameRead cells r).link.loseRate.bare := link
    rw [e, Link.loseRate, if_pos hm] at link
    exact ⟨counted, lost, (congrArg Link.receiver link :), (congrArg Link.failures link :), fun _ => ⟨(congrArg Link.acq link :),
      (congrArg Link.rate link :), (congrArg Link.rounds link :), (congrArg Link.dwell link :), node⟩, fun hn => absurd hm hn⟩
  · rw [if_neg hm] at link node
    have link : t.link.bare = (a.frameRead cells r).link.loseRate.bare := link
    rw [e, Link.loseRate, if_neg hm] at link
    exact ⟨counted, lost, (congrArg Link.receiver link :), (congrArg Link.failures link :), fun h => absurd h hm,
      fun _ => ⟨(congrArg Link.acq link).trans hl, (congrArg Link.rate link :), node⟩⟩

omit hc in
theorem State.read_hunts (hl : a.link.acq = some .confirm) {k : FaultClass} (hk : k ≠ .queueOverflow) :
    t.faults.cls k = a.faults.cls k ∧ t.link.receiver = r ∧ t.link.acq = some .hunt ∧ t.link.rate = a.link.rate.map Rate.next
      ∧ t.link.confirms = 0 ∧ t.link.rounds = a.link.rounds ∧ t.link.dwell = some 400000 := by
  obtain ⟨d, x, e⟩ := a.frameRead_link cells r
  have settled := State.failed_hunts (v := a.frameRead cells r) hf (cls := cls) header (by rw [e]; exact hl)
  rw [ht] at settled
  have link : t.link.bare = (a.frameRead cells r).link.huntNext.bare := State.body_link settled.body_eq
  rw [e] at link
  exact ⟨settled.trails.counts.others k hk, (congrArg Link.receiver link :), (congrArg Link.acq link :), (congrArg Link.rate link :),
    (congrArg Link.confirms link :), (congrArg Link.rounds link :), (congrArg Link.dwell link :)⟩

end Read

/-! ## A good frame of an unknown kind (R137, R143) -/

theorem Link.goodFrame_bare (l : Link) : l.goodFrame.bare = l.bare.goodFrame := by
  unfold Link.goodFrame
  rw [show l.bare.acq = l.acq from rfl, show l.bare.confirms = l.confirms from rfl]
  split
  · rfl
  · rfl
  · split <;> rfl
  · rfl

theorem State.startListen_body_congr {f v : State} (h : f.body = v.body) : f.startListen.body = v.startListen.body := by
  unfold State.startListen
  rw [State.body_node h, State.body_acq h, State.body_params h]
  split
  · exact State.onNode_body_congr h _
  · exact h

/-- A failure of check 3: MALFORMED, and a good frame. -/
theorem State.fault_goodFrame {v : State} (hf : v.FaultsOk) (st : Option Station) (kind : Option Nat) :
    FaultUnit.Took (v.occurrence .malformed st kind none) v.faults ((v.fault .malformed st kind none).goodFrame).settle.faults
      ∧ ((v.fault .malformed st kind none).goodFrame).settle.body = v.goodFrame.body := by
  let f := v.fault .malformed st kind none
  obtain ⟨ff, took⟩ := State.fault_plain hf FaultClass.plain_malformed st kind none
  have fbody : f.body = v.body := v.fault_body ..
  have kept : f.goodFrame.faults = f.faults ∧ f.goodFrame.withdrawDue = f.withdrawDue := by
    rw [show f.goodFrame = _ from State.startListen_frame (f.onLink Link.goodFrame)]
    exact ⟨rfl, rfl⟩
  have due : f.goodFrame.withdrawDue = false := kept.2.trans ff.due
  have took' : FaultUnit.Took (v.occurrence .malformed st kind none) v.faults f.goodFrame.faults := kept.1 ▸ took
  exact ⟨took'.calm FaultClass.plain_malformed.noOverflow (.settle due),
    (State.settle_settled _ due).body_eq.trans (State.startListen_body_congr (State.onLink_body_congr fbody Link.goodFrame_bare))⟩

/-- A good frame of an unknown kind, by the acquisition state. -/
theorem State.read_unknown {a : State} (hf : a.FaultsOk) (cells : List Bool) (st : Option Station) (kind : Option Nat) {t : State}
    (ht : (((a.frameRead cells .idle).fault .malformed st kind none).goodFrame).settle = t) :
    FaultUnit.Took (a.occurrence .malformed st kind none) a.faults t.faults ∧ t.link.receiver = .idle
      ∧ (a.link.acq = some .locked → t.link.acq = some .locked ∧ t.link.failures = 0 ∧ t.link.rate = a.link.rate ∧ t.peers = a.peers)
      ∧ (a.link.acq = some .hunt → t.link.acq = some .confirm ∧ t.link.confirms = 0 ∧ t.link.rounds = 0 ∧ t.link.rate = a.link.rate
          ∧ t.link.dwell = some 400000 ∧ t.peers = a.peers)
      ∧ (a.link.acq = some .confirm →
          (3 ≤ a.link.confirms + 1 → t.link.acq = some .locked ∧ t.link.confirms = 0 ∧ t.link.dwell = none)
          ∧ (a.link.confirms + 1 < 3 → t.link.acq = some .confirm ∧ t.link.confirms = a.link.confirms + 1 ∧ t.link.dwell = some 400000)) := by
  obtain ⟨d, x, e⟩ := a.frameRead_link cells .idle
  obtain ⟨took, body⟩ := State.fault_goodFrame (v := a.frameRead cells .idle) hf st kind
  rw [ht] at took body
  have frame := a.goodFrame_frame cells .idle
  have peers : t.peers = a.peers := (State.body_peers body).trans (by rw [frame])
  have link : t.link.bare = (a.frameRead cells .idle).link.goodFrame.bare := (State.body_link body).trans (by rw [frame]; rfl)
  rw [e] at link
  have receiver : t.link.receiver = .idle := (congrArg Link.receiver link).trans (Link.goodFrame_queue _).2.2.2
  refine ⟨took, receiver, fun hl => ?_, fun hl => ?_, fun hl => ⟨fun h3 => ?_, fun h3 => ?_⟩⟩
  all_goals
    unfold Link.goodFrame at link
    rw [show ({ a.link with dominantRun := d, recessiveRun := x, receiver := .idle } : Link).acq = a.link.acq from rfl, hl] at link
    dsimp only at link
  · exact ⟨(congrArg Link.acq link :), (congrArg Link.failures link :), (congrArg Link.rate link :), peers⟩
  · exact ⟨(congrArg Link.acq link :), (congrArg Link.confirms link :), (congrArg Link.rounds link :), (congrArg Link.rate link :),
      (congrArg Link.dwell link :), peers⟩
  · rw [if_pos h3] at link
    exact ⟨(congrArg Link.acq link :), (congrArg Link.confirms link :), (congrArg Link.dwell link :)⟩
  · rw [if_neg (by omega)] at link
    exact ⟨(congrArg Link.acq link :), (congrArg Link.confirms link :), (congrArg Link.dwell link :)⟩

/-! ## The judgement (R137) -/

theorem judgeFrame_overlong {header len : Byte} {rest : List Byte} {ending : FrameEnd} (h : 8 < len.toNat)
    (hr : ending = .stopCellDominant → rest ≠ []) : judgeFrame (header :: len :: rest) ending = .overlong header := by
  cases ending with
  | complete => exact if_pos h
  | startCellMissing => exact if_pos h
  | stopCellDominant =>
    cases rest with
    | nil => exact absurd rfl (hr rfl)
    | cons x rest => exact if_pos h

section Whole
variable {header len : Byte} {rest : List Byte} (h : len.toNat ≤ 8 ∧ rest.length = len.toNat + 1)
include h

theorem judgeFrame_whole : judgeFrame (header :: len :: rest) .complete
    = if crc8 ((header :: len :: rest).dropLast) = rest.getLastD 0 then
        if kindLengthOk header len then .valid else .malformed header
      else .badCheck header := by
  have dropped : (header :: len :: rest).dropLast = header :: len :: rest.dropLast := by
    cases rest with
    | nil => cases h.2
    | cons x rest => rfl
  unfold judgeFrame
  dsimp only
  rw [if_neg (by omega), if_neg (by simp [h.2]), dropped]
  by_cases hc : crc8 (header :: len :: rest.dropLast) = rest.getLastD 0
  · rw [if_neg (by simp [hc]), if_pos hc]
  · rw [if_pos (by simpa using hc), if_neg hc]

end Whole

theorem kindLengthOk_iff (header len : Byte) :
    kindLengthOk header len = true ↔ ∃ k, kindOfCode (header.toNat / 16) = some k ∧ len.toNat = k.payloadLen := by
  unfold kindLengthOk
  cases kindOfCode (header.toNat / 16) with
  | none => simp
  | some k => simp

/-- A frame whose header was its last character. -/
theorem judgeFrame_truncated {header len : Byte} {rest : List Byte} {chars : List Byte} {ending : FrameEnd} {known : Bool}
    (hx : (chars, ending, known) ∈ [(header :: len :: rest, FrameEnd.startCellMissing, true), (header :: len :: rest, .stopCellDominant, true),
      ([header], .startCellMissing, true), ([header], .stopCellDominant, false)])
    (hlen : len.toNat ≤ 8 ∨ chars = [header] ∨ (rest = [] ∧ ending = .stopCellDominant)) :
    judgeFrame chars ending = .truncated (if known then some header else none) := by
  simp only [List.mem_cons, List.not_mem_nil, or_false, Prod.mk.injEq] at hx
  rcases hx with ⟨rfl, rfl, rfl⟩ | ⟨rfl, rfl, rfl⟩ | ⟨rfl, rfl, rfl⟩ | ⟨rfl, rfl, rfl⟩
  · have short : len.toNat ≤ 8 := by simpa using hlen
    exact if_neg (by omega)
  · cases rest with
    | nil => rfl
    | cons x rest =>
      have short : len.toNat ≤ 8 := by simpa using hlen
      exact if_neg (by omega)
  · rfl
  · rfl

section Judged
variable {s : State} {τ : Tick} (hn : s.node.state ≠ .loading) (ht : s.link.takesFrame = true)
include hn ht

theorem exec_frameRejected (chars : List Byte) (ending : FrameEnd) :
    exec (.frameRejected τ chars ending) s = .next ((s.advance τ).judgeTaken chars ending).settle := by
  show Host.Outcome.next (frameRejected chars ending (s.advance τ)).settle = _
  unfold frameRejected
  rw [State.receive_taken (s := s.advance τ) _ _ hn (by rw [State.advance_takesFrame]; exact ht)]

theorem exec_truncated {chars : List Byte} {ending : FrameEnd} {h : Option Byte} (hj : judgeFrame chars ending = .truncated h) :
    exec (.frameRejected τ chars ending) s
      = .next (((s.advance τ).frameRead (endedCells chars ending) .discarding).failed .malformed h) := by
  rw [exec_frameRejected hn ht]
  unfold State.judgeTaken
  rw [hj]
  rfl

theorem exec_badCheck {chars : List Byte} {h : Byte} (hj : judgeFrame chars .complete = .badCheck h) :
    exec (.frameRejected τ chars .complete) s
      = .next (((s.advance τ).frameRead (endedCells chars .complete) .idle).failed .check (some h)) := by
  rw [exec_frameRejected hn ht]
  unfold State.judgeTaken
  rw [hj]
  rfl

theorem exec_unknownKind {chars : List Byte} {h : Byte} (hj : judgeFrame chars .complete = .malformed h) :
    exec (.frameRejected τ chars .complete) s
      = .next ((((s.advance τ).frameRead (endedCells chars .complete) .idle).fault .malformed (some (headerStation h)) (some (headerKind h)) none).goodFrame).settle := by
  rw [exec_frameRejected hn ht]
  unfold State.judgeTaken
  rw [hj]

theorem exec_overlong {chars : List Byte} {ending : FrameEnd} {h : Byte} (hj : judgeFrame chars ending = .overlong h) :
    exec (.frameRejected τ chars ending) s
      = .next (((s.advance τ).frameRead (endedCells chars ending) .discarding).fault .malformed (some (headerStation h)) (some (headerKind h)) none).settle := by
  rw [exec_frameRejected hn ht]
  unfold State.judgeTaken
  rw [hj]

end Judged

/-- Settles O43. -/
theorem rejectedFrameIsJudged : Obligations.RejectedFrameIsJudged := by
  intro s τ header len rest hf hn ht a chars passed whole checks known
  have af : a.FaultsOk := hf
  have occurred (cls : FaultClass) : a.occurrence cls (some (headerStation header)) (some (headerKind header)) none = passed cls :=
    State.advance_occurrence ..
  have bad (hw : whole) (hno : ¬checks) : judgeFrame chars .complete = .badCheck header := (judgeFrame_whole hw).trans (if_neg hno)
  have unknown (hw : whole) (hc : checks) (hk : ¬known) : judgeFrame chars .complete = .malformed header :=
    (judgeFrame_whole hw).trans ((if_pos hc).trans (if_neg (mt (kindLengthOk_iff header len).mp hk)))
  have plain : FaultClass.malformed ≠ .queueOverflow ∧ FaultClass.check ≠ .queueOverflow := by decide
  refine ⟨fun ending hlong hr => ⟨_, exec_overlong hn ht (judgeFrame_overlong hlong hr), ?_⟩,
    fun hw hno hl h7 => ⟨_, exec_badCheck hn ht (bad hw hno), ?_⟩, fun hw hno hl h7 => ⟨_, exec_badCheck hn ht (bad hw hno), ?_⟩,
    fun hw hno hl => ⟨_, exec_badCheck hn ht (bad hw hno), ?_⟩, fun hw hno hl => ⟨_, exec_badCheck hn ht (bad hw hno), ?_⟩,
    fun x hx hside => ?_, fun hw hc hk hl => ⟨_, exec_unknownKind hn ht (unknown hw hc hk), ?_⟩,
    fun hw hc hk hl => ⟨_, exec_unknownKind hn ht (unknown hw hc hk), ?_⟩, fun hw hc hk hl => ⟨_, exec_unknownKind hn ht (unknown hw hc hk), ?_⟩⟩
  · obtain ⟨d, x, e⟩ := a.frameRead_link (endedCells chars ending) .discarding
    obtain ⟨-, body, took⟩ := State.fault_settles (s := a.frameRead (endedCells chars ending) .discarding) (k := .malformed) hf
      (by decide) (by decide) (some (headerStation header)) (some (headerKind header)) none
    generalize State.settle _ = t at took body ⊢
    have link : t.link.bare = _ := State.body_link body
    rw [e] at link
    exact ⟨occurred .malformed ▸ took, (congrArg Link.receiver link :), (congrArg Link.acq link :), (congrArg Link.failures link :),
      (congrArg Link.confirms link :), (congrArg Link.dwell link :)⟩
  · obtain ⟨took, rest⟩ := State.read_counts af _ _ FaultClass.plain_check _ rfl hl h7
    exact ⟨occurred .check ▸ took, rest⟩
  · exact State.read_loses af _ _ FaultClass.plain_check _ rfl (by decide) hl h7
  · exact State.read_hunts af _ _ _ rfl hl plain.2
  · obtain ⟨d, x, e⟩ := a.frameRead_link (endedCells chars .complete) .idle
    exact State.failed_over (v := a.frameRead _ _) hf _ (by rw [e]; exact hl)
  · obtain ⟨cs, ending, named⟩ := x
    have judged := judgeFrame_truncated hx hside
    have run := exec_truncated (τ := τ) hn ht judged
    have carried : a.occurrence .malformed ((if named then some header else none).map headerStation)
        ((if named then some header else none).map headerKind) none
          = if named then passed .malformed else { passed .malformed with station := none, kind := none } := by
      cases named
      · exact State.advance_occurrence ..
      · exact occurred .malformed
    refine ⟨fun hl h7 => ⟨_, run, ?_⟩, fun hl => ⟨_, run, ?_⟩, fun hl => ⟨_, run, ?_⟩, fun hl h7 => ⟨_, run, ?_⟩⟩
    · obtain ⟨took, receiver, acq, failures, -, -⟩ := State.read_counts af (endedCells cs ending) .discarding FaultClass.plain_malformed
        (if named then some header else none) rfl hl h7
      exact ⟨carried ▸ took, receiver, failures, acq⟩
    · obtain ⟨d, x, e⟩ := a.frameRead_link (endedCells cs ending) .discarding
      exact State.failed_over (v := a.frameRead _ _) hf _ (by rw [e]; exact hl)
    · exact State.read_hunts af _ _ _ rfl hl plain.1
    · exact State.read_loses af _ _ FaultClass.plain_malformed _ rfl (by decide) hl h7
  all_goals
    generalize ht : State.settle _ = t
    obtain ⟨took, receiver, locked, hunting, confirming⟩ := State.read_unknown af _ _ _ ht
    rw [occurred .malformed] at took
  · obtain ⟨acq, failures, rate, peers⟩ := locked hl
    exact ⟨took, receiver, acq, failures, rate, peers⟩
  · exact ⟨took, receiver, hunting hl⟩
  · exact ⟨took, receiver, confirming hl⟩

end Sys2Proof.Machine

/-! # The deadline of a record whose cylinder is none of the eight (O36) -/

namespace Sys2Proof.Machine

/-! ## The state that refutes O36

O36 says of each other open record that its cylinder's entry takes the abort and nothing else. It asks of that cylinder to be one of
the eight, and not of the cylinder of the record that closes: a record of cylinder 0 folds its verdict into the first entry of the
Cylinder Table, which is that of cylinder 1 (R82). -/

/-- An open record with a segment end and no window. -/
def strayRecord (slot c : Nat) (expected : List Station) : Record :=
  { slot := slot, cyl := c, pos := slot, state := .gathering, windowTaken := false, segmentTaken := false, evidenceA := none
    evidenceB := none, ownA := none, ownB := none, learning := false, loss := some 0, band := 0, witnesses := [], expected := expected
    cut := false, antiLag := false, loadBand := none, stale := false, shock := false, deputy := false }

/-- The deadline mark that is due. -/
def strayMark : PendingMark := { kind := .deadline, angle := 0, pos := some 0, dist := 0 }

/-- RUNNING and PHASED, the deadline due, a record of cylinder 0 that expects station 1 and one of cylinder 1, and an unmasked
PEER_SILENT of severity WITHDRAWING. -/
def strayState : State := { State.reset with
  node := { NodeCtl.powerOn with state := .running }
  tracker := { Tracker.powerOn with sync := .phased, marks := [strayMark] }
  records := [some (strayRecord 0 0 [1]), some (strayRecord 1 1 [])]
  peers := List.replicate 16 { PeerEntry.powerOn with state := .active }
  faults := { FaultUnit.powerOn with classes := FaultUnit.powerOn.classes.set 6 (ClassState.powerOn .withdrawing) } }

theorem strayState_faultsOk : strayState.FaultsOk := by decide

theorem strayState_due : (strayState.advance 0).Due [strayMark] := by decide

/-- The close of the record of cylinder 0 leaves its MISFIRE in the entry of cylinder 1. -/
theorem strayState_misfire : (match exec (.interpolatedMark 0) strayState with
    | .next t => (t.cyl 1).misfireHistory
    | _ => []) = [.misfire] := by
  decide

/-- Refutes O36: in `strayState` the deadline of the record of cylinder 0 silences station 1 and withdraws the node, and the entry of
cylinder 1, whose record is aborted, has a MISFIRE in its history besides. -/
theorem not_deadlineClosesTheRecord : ¬ Obligations.DeadlineClosesTheRecord := by
  intro h
  obtain ⟨-, closes⟩ := h strayState 0 strayMark 0 strayState_faultsOk (by decide) strayState_due rfl rfl
  obtain ⟨withdrawn, -⟩ := closes (strayRecord 0 0 [1]) rfl
  have silenced : ¬(∃ w ∈ (strayRecord 0 0 [1]).witnesses, w.station = 1) := nofun
  obtain ⟨t, run, -, -, -, -, -, entries⟩ := withdrawn ⟨1, silenced, .inl ⟨.head _, rfl, by decide⟩⟩ ⟨rfl, rfl⟩ rfl
  have entry := entries rfl (by decide) (strayRecord 1 1 []) (by decide) (by decide) (by decide)
  have history := strayState_misfire
  rw [run] at history
  have kept : (t.cyl 1).misfireHistory = [] := congrArg CylEntry.misfireHistory entry
  rw [show (t.cyl 1).misfireHistory = [.misfire] from history] at kept
  cases kept

end Sys2Proof.Machine

/-! # Window close marks (R31 to R35, R62, R87, R111, R112) -/

namespace Sys2Proof.Machine

/-! ## What the closes of complete records keep -/

/-- R74, R108, R109: a property that the parts of an event and of a close keep is kept by the closes on completeness. -/
structure State.Lasting (P : State → Prop) : Prop where
  settle : ∀ s : State, P s → P s.settle
  judged : ∀ (s : State) (r : Record), P s → P (s.judged r)
  onPeer : ∀ (s : State) (st : Station) (f : PeerEntry → PeerEntry), P s → P (s.onPeer st f)
  silence : ∀ (s : State) (st : Station) (c : Option Nat), P s → P (s.silencePeer st c)
  onRecords : ∀ (s : State) (f : List (Option Record) → List (Option Record)), P s → P (s.onRecords f)

namespace State.Lasting
variable {P : State → Prop} (h : State.Lasting P)
include h

theorem accountWitnesses {s : State} (hs : P s) (r : Record) : P (s.accountWitnesses r) := by
  refine foldl_keeps (P := P) (fun u st hu => ?_) _ (foldl_keeps (P := P) (fun u st hu => ?_) _
    (foldl_keeps (P := P) (fun u st hu => h.onPeer u st _ hu) _ hs))
  · unfold State.absentPeer
    split
    · exact h.silence u st _ hu
    · exact hu
  · unfold State.missPeer
    dsimp only
    split
    · split
      · exact h.silence u st _ hu
      · exact h.onPeer u st _ hu
    · exact hu

theorem closeRecord {s : State} (hs : P s) (r : Record) : P (s.closeRecord r) := by
  rw [State.closeRecord_eq]
  exact h.onRecords _ _ (h.accountWitnesses (h.judged s r hs) r)

theorem closeComplete {s : State} (hs : P s) : P s.closeComplete :=
  State.closeReady_keeps P h.settle (fun _ r hs => h.closeRecord hs r) 8 s hs

/-- R62: the closes after a window result. -/
theorem recordWindow {s : State} (hs : P s) (c : Nat) (a b : ChanResult) : P (s.recordWindow c a b) :=
  h.closeComplete (h.onRecords s _ hs)

end State.Lasting

/-! ### The counts of a class that no close passes -/

theorem State.occur_cls_of_ne (s : State) (o : Occurrence) {d : FaultClass} (hd : d ≠ o.cls) (hq : d ≠ .queueOverflow) :
    (s.occur o).faults.cls d = s.faults.cls d := by
  rw [(s.occur_countsOverflow_after o).others d hq, FaultUnit.cls_congr (s.takeOccurrence_faults o).1]
  exact FaultUnit.cls_countOccurrence_of_ne _ hd

theorem State.judged_calm (s : State) (r : Record) : s.Calm (s.judged r) := by
  have queued := State.Calm.queueReport s .verdict (some r.cyl) (r.verdictReport s.params)
  have folded (u : State) (v : Verdict) : u.Calm (u.foldVerdict r.cyl v r.evidenceA r.evidenceB) := by
    rw [State.foldVerdict_eq]
    dsimp only
    have written : u.Calm (u.onCyl r.cyl (CylEntry.foldVerdict u.params v r.evidenceA r.evidenceB)) := .of_eq rfl rfl rfl
    split
    · exact written.trans (.raise _ _ (by decide))
    · exact written
  unfold State.judged
  dsimp only
  split
  · exact (queued.trans (folded _ _)).trans (.raise _ _ (by decide))
  · exact queued.trans (folded _ _)

/-- R107, R150: the closes pass QUEUE_OVERFLOW and PEER_SILENT alone. -/
theorem State.lasting_cls {d : FaultClass} (hq : d ≠ .queueOverflow) (hp : d ≠ .peerSilent) (x : ClassState) :
    State.Lasting (fun s => s.faults.cls d = x) where
  settle s h := by
    rw [s.settle_trails.counts.others d hq, s.carryWithdrawal_faults]
    exact h
  judged s r h := ((s.judged_calm r).counts.others d hq).trans h
  onPeer _ _ _ h := h
  silence s st c h := by
    rw [(s.silencePeer_calm st c).counts.others d hq]
    exact ((s.onPeer st PeerEntry.silence).occur_cls_of_ne (s.occurrence .peerSilent (some st) none c) hp hq).trans h
  onRecords _ _ h := h

/-! ### The integrators -/

theorem Channel.abandon_of_idle {x : Channel} (h : x.integrator = .idle) : x.abandon = x := by
  unfold Channel.abandon
  rw [← h]

/-- R32: a withdrawal abandons nothing where the integrators are IDLE. -/
theorem State.carryWithdrawal_chan_of_idle {s : State} {ch : Chan} (h : (s.chan ch).integrator = .idle) :
    s.carryWithdrawal.chan ch = s.chan ch := by
  rcases s.carryWithdrawal_cases with ⟨-, e⟩ | ⟨-, e⟩ | ⟨-, e⟩ <;> rw [e]
  · rfl
  · obtain ⟨cs, a, he⟩ := (s.setWithdrawDue false).enterWithdrawn_eq
    rw [he]
    cases ch
    · exact Channel.abandon_of_idle h
    · exact Channel.abandon_of_idle h

theorem State.chan_of_outer {s t : State} (h : t.outer = s.outer) (ch : Chan) : t.chan ch = s.chan ch := by
  cases ch
  · exact State.outer_chanA h
  · exact State.outer_chanB h

/-- The closes leave a channel with an IDLE integrator as it is. -/
theorem State.lasting_chan (ch : Chan) {x : Channel} (hx : x.integrator = .idle) : State.Lasting (fun s => s.chan ch = x) where
  settle s h := (State.body_chan s.settle_trails.body ch).trans ((State.carryWithdrawal_chan_of_idle (h ▸ hx)).trans h)
  judged s r h := by
    have core := State.engine_core (s.judged_engine r)
    rw [← h]
    cases ch
    · exact State.core_chanA core
    · exact State.core_chanB core
  onPeer _ _ _ h := h
  silence s st c h := (State.chan_of_outer (s.silencePeer_outer st c) ch).trans h
  onRecords _ _ h := h

/-! ### The WITNESS entries that wait -/

/-- Every WITNESS in the queue is one of a list. -/
def State.WitnessesFrom (q : List TxEntry) (s : State) : Prop := ∀ e ∈ s.link.queue, e.kind = .witness → e ∈ q

theorem State.WitnessesFrom.putReport {q : List TxEntry} {s : State} (h : s.WitnessesFrom q) {k : Kind} (hk : k ≠ .witness)
    (c : Option Nat) (p : List Byte) : (s.putReport k c p).1.WitnessesFrom q := by
  intro e he hw
  rcases putEntry_cases { kind := k, cyl := c, payload := p, age := s.link.nextAge } s.link.queue with hq | ⟨y, -, hy, -, -, hall⟩
  · exact h e (hq ▸ he) hw
  · rcases hall e he with rfl | he
    · exact absurd (hy.symm.trans hw) hk
    · exact h e he hw

theorem State.witnessesFrom_handOffs (q : List TxEntry) : State.HandOffs (State.WitnessesFrom q) where
  put _ p h := State.WitnessesFrom.putReport h (by decide) none p
  raise s x h := State.WitnessesFrom.putReport (s := s.onAlert (AlertUnit.latchSource x)) h (by decide) none []
  count _ _ h := h
  first _ _ _ h := h
  overflow _ h := h
  due _ h := h

/-- R145, R147: a WITNESS in the queue stays one of those that waited, through the closes and the reports they queue. -/
theorem State.lasting_witnesses (q : List TxEntry) : State.Lasting (State.WitnessesFrom q) where
  settle s h := by
    refine State.updateService_handOffs (State.witnessesFrom_handOffs q) (fun _ _ h => h) ?_
    rcases s.carryWithdrawal_cases with ⟨-, e⟩ | ⟨-, e⟩ | ⟨-, e⟩ <;> rw [e]
    · exact h
    · exact h
    · intro x hx hw
      rw [State.enterWithdrawn_link] at hx
      exact h x (List.mem_filter.mp hx).1 hw
  judged s r h := by
    have queued := (State.witnessesFrom_handOffs q).report (h.putReport (k := .verdict) (by decide) (some r.cyl) (r.verdictReport s.params))
    have folded (u : State) (v : Verdict) (hu : u.WitnessesFrom q) : (u.foldVerdict r.cyl v r.evidenceA r.evidenceB).WitnessesFrom q := by
      rw [State.foldVerdict_eq]
      dsimp only
      split
      · exact (State.witnessesFrom_handOffs q).raised (s := u.onCyl r.cyl _) .deadCylinder hu
      · exact hu
    unfold State.judged
    dsimp only
    split
    · exact (State.witnessesFrom_handOffs q).raised _ (folded _ _ queued)
    · exact folded _ _ queued
  onPeer _ _ _ h := h
  silence s st c h := by
    have passed : ((s.onPeer st PeerEntry.silence).fault .peerSilent (some st) none c).WitnessesFrom q :=
      (State.witnessesFrom_handOffs q).occur (s := s.onPeer st PeerEntry.silence) _ h
    unfold State.silencePeer
    dsimp only
    split
    · exact (State.witnessesFrom_handOffs q).raised _ passed
    · exact passed
  onRecords _ _ h := h

/-! ## Window results (R31 to R34, R62, R111) -/

/-- R31: the sum of the integration for a position, where it counts, and whether it was clipped. -/
def Channel.sampled (k : Nat) (x : Channel) : Option (Nat × Bool) :=
  match x.state, x.integrator with
  | .enabled, .running pos _ _ sum n clipped => if pos = k ∧ x.openFault = false ∧ 16 ≤ n then some (sum, clipped) else none
  | _, _ => none

/-- R31: the energy a window gives, by its sum. -/
def windowEnergy? : Option (Nat × Bool) → Option Nat
  | some (sum, false) => some (sum / 4)
  | _ => none

/-- R31: the cases of the energy are those of the sum that counts. -/
theorem Channel.windowEnergy_cases (x : Channel) (k ref : Nat) :
    (∃ sum, x.sampled k = some (sum, false) ∧ x.windowEnergy k ref = .present (sum / 4) (knockRatio (sum / 4) ref) ref)
      ∨ (∃ sum, x.sampled k = some (sum, true) ∧ x.windowEnergy k ref = .absent .clipped)
      ∨ (x.sampled k = none ∧ ∃ why, why ≠ .clipped ∧ x.windowEnergy k ref = .absent why) := by
  unfold Channel.windowEnergy Channel.sampled
  cases hs : x.state with
  | enabled =>
    rw [if_neg (by decide)]
    cases x.integrator with
    | idle => exact .inr (.inr ⟨rfl, .notIntegrated, by decide, rfl⟩)
    | running pos cyl opened sum n clipped =>
      dsimp only
      by_cases hp : pos = k
      · cases hb : x.openFault with
        | true => exact .inr (.inr ⟨by simp, .bias, by decide, by rw [if_neg (not_not.mpr hp)]; rfl⟩)
        | false =>
          by_cases hn : 16 ≤ n
          · rw [if_neg (not_not.mpr hp), if_neg Bool.false_ne_true, if_neg (Nat.not_lt.mpr hn), if_pos ⟨hp, rfl, hn⟩]
            cases clipped with
            | true => exact .inr (.inl ⟨sum, rfl, rfl⟩)
            | false => exact .inl ⟨sum, rfl, rfl⟩
          · rw [if_neg (not_not.mpr hp), if_neg Bool.false_ne_true, if_pos (Nat.lt_of_not_le hn), if_neg (fun h => hn h.2.2)]
            exact .inr (.inr ⟨rfl, .short, by decide, rfl⟩)
      · exact .inr (.inr ⟨if_neg fun h => hp h.1, .notIntegrated, by decide, if_pos hp⟩)
  | _ => exact .inr (.inr ⟨rfl, .disabled, by decide, rfl⟩)

/-- R33: a clipped window on a weighted channel. -/
def ChanResult.Clips (r : ChanResult) : Prop := r.energy = .absent .clipped ∧ r.weight ≠ 0

section Result
variable (u : State) (ch : Chan) (k c : Nat)

theorem State.windowResult_energy? : (u.windowResult ch k c).energy? = windowEnergy? ((u.chan ch).sampled k) := by
  show (match (u.chan ch).windowEnergy k ((u.cyl c).ref ch) with | .present e _ _ => some e | .absent _ => none) = _
  rcases (u.chan ch).windowEnergy_cases k ((u.cyl c).ref ch) with ⟨sum, hs, he⟩ | ⟨sum, hs, he⟩ | ⟨hs, why, -, he⟩ <;> rw [hs, he] <;> rfl

theorem State.windowResult_ratio? : (u.windowResult ch k c).ratio?
    = (windowEnergy? ((u.chan ch).sampled k)).map (fun e => min 1023 (e * 256 / (u.cyl c).ref ch)) := by
  show (match (u.chan ch).windowEnergy k ((u.cyl c).ref ch) with | .present _ q _ => some q | .absent _ => none) = _
  rcases (u.chan ch).windowEnergy_cases k ((u.cyl c).ref ch) with ⟨sum, hs, he⟩ | ⟨sum, hs, he⟩ | ⟨hs, why, -, he⟩ <;> rw [hs, he] <;> rfl

theorem State.windowResult_clips : (u.windowResult ch k c).Clips
    ↔ ∃ sum, (u.chan ch).sampled k = some (sum, true) ∧ u.params.weight ch c ≠ 0 := by
  show (u.chan ch).windowEnergy k ((u.cyl c).ref ch) = .absent .clipped ∧ u.params.weight ch c ≠ 0 ↔ _
  rcases (u.chan ch).windowEnergy_cases k ((u.cyl c).ref ch) with ⟨sum, hs, he⟩ | ⟨sum, hs, he⟩ | ⟨hs, why, hw, he⟩ <;> rw [hs, he]
  · exact ⟨fun h => (nomatch h.1), fun ⟨_, h, _⟩ => (nomatch h)⟩
  · exact ⟨fun h => ⟨sum, rfl, h.2⟩, fun ⟨_, _, h⟩ => ⟨rfl, h⟩⟩
  · exact ⟨fun h => absurd (WindowEnergy.absent.inj h.1) hw, fun ⟨_, h, _⟩ => (nomatch h)⟩

end Result

/-! ## Clips (R33) -/

theorem FaultClass.plain_sensorClipped : FaultClass.Plain .sensorClipped := ⟨by decide, by decide, by decide⟩

theorem State.reportClip_of_clips {s : State} {c : Nat} {r : ChanResult} (h : r.Clips) :
    s.reportClip c r = s.fault .sensorClipped none none (some c) := if_pos h

theorem State.reportClip_of_not {s : State} {c : Nat} {r : ChanResult} (h : ¬r.Clips) : s.reportClip c r = s := if_neg h

/-- A window reported is an occurrence of SENSOR_CLIPPED, or nothing. -/
theorem State.reportClip_keeps {P : State → Prop} (ho : ∀ (s : State) (o : Occurrence), o.cls = .sensorClipped → P s → P (s.occur o))
    {s : State} (h : P s) (c : Nat) (r : ChanResult) : P (s.reportClip c r) := by
  unfold State.reportClip
  split
  · exact ho s _ rfl h
  · exact h

theorem State.reportClip_faultsOk {s : State} (h : s.FaultsOk) (c : Nat) (r : ChanResult) : (s.reportClip c r).FaultsOk := by
  by_cases hc : r.Clips
  · rw [State.reportClip_of_clips hc]
    exact (State.fault_plain h FaultClass.plain_sensorClipped none none (some c)).1
  · rw [State.reportClip_of_not hc]
    exact h

/-- The class after one report, by whether the window is clipped on a weighted channel. -/
theorem State.reportClip_count {s : State} (h : s.FaultsOk) (c : Nat) (r : ChanResult) :
    (r.Clips → (s.reportClip c r).faults.cls .sensorClipped = (s.faults.cls .sensorClipped).counted 1)
      ∧ (¬r.Clips → (s.reportClip c r).faults.cls .sensorClipped = s.faults.cls .sensorClipped) := by
  refine ⟨fun hc => ?_, fun hc => by rw [State.reportClip_of_not hc]⟩
  rw [State.reportClip_of_clips hc]
  exact (State.fault_plain h FaultClass.plain_sensorClipped none none (some c)).2.1

end Sys2Proof.Machine

/-! # A window close mark, to the end of its event (O35) -/

namespace Sys2Proof.Machine

/-! ## An update of a cylinder's record, and the close it may bring -/

theorem updateFirst_eq_self {p : Record → Bool} {f : Record → Record} {l : List (Option Record)}
    (h : ∀ r, l.findSome? (fun o => o.filter p) = some r → f r = r) : updateFirst p f l = l := by
  induction l with
  | nil => rfl
  | cons o l ih =>
    cases o with
    | none => exact congrArg (none :: ·) (ih h)
    | some x =>
      unfold updateFirst
      by_cases hx : p x = true
      · have found : (some x :: l).findSome? (fun o => o.filter p) = some x := by
          rw [List.findSome?_cons, show (some x).filter p = some x from Option.filter_some_pos hx]
        rw [if_pos hx, h x found]
      · have skip : (some x).filter p = none := Option.filter_some_neg (Bool.eq_false_iff.mpr hx)
        rw [List.findSome?_cons, skip] at h
        rw [if_neg hx, ih h]

/-- An update that changes nothing of the cylinder's record changes nothing. -/
theorem State.onRecordOf_eq_self {s : State} {c : Nat} {f : Record → Record} (h : ∀ r, s.recordOf c = some r → f r = r) :
    s.onRecordOf c f = s := congrArg (fun l => ({ s with records := l } : State)) (updateFirst_eq_self h)

theorem State.NoneReady.closeComplete {s : State} (h : s.NoneReady) : s.closeComplete = s :=
  State.closeReady_none 8 s (State.findRecord_eq_none h)

section OnRecord
variable {s : State} (h : s.NoneReady) {c : Nat} {r : Record} (hr : s.recordOf c = some r) {f : Record → Record}
include h hr

/-- R64: where the updated record is not complete, no record closes. -/
theorem State.closeComplete_of_updated (hf : (f r).ready = false) : (s.onRecordOf c f).closeComplete = s.onRecordOf c f :=
  State.NoneReady.closeComplete fun x hx => Bool.eq_false_iff.mpr fun hready => by
    rw [State.onRecordOf_ready h hr hx hready, hf] at hready
    cases hready

/-- R64: where it is complete, it closes. -/
theorem State.closeComplete_of_completed (hd : s.withdrawDue = false) (hcyl : (f r).cyl = r.cyl) (hf : (f r).ready = true) :
    (s.onRecordOf c f).closeComplete.NoRecord c := by
  have found := State.recordOf_onRecordOf hr hcyl
  refine State.closeComplete_noRecord (s := s.onRecordOf c f) hd ⟨f r, (State.recordOf_some found).1, hf⟩ fun x hx hready => ?_
  rw [State.onRecordOf_ready h hr hx hready]
  exact (State.recordOf_some found).2

end OnRecord

/-- R64: a record in WAITING is complete when no expected witness is missing. -/
theorem Record.ready_iff_not_missing {r : Record} (h : r.state = .waiting) :
    r.ready = true ↔ ¬∃ st ∈ r.expected, ∀ w ∈ r.witnesses, w.station ≠ st := by
  unfold Record.ready Record.complete
  rw [h, beq_self_eq_true, Bool.true_and, List.all_eq_true]
  simp only [List.any_eq_true, beq_iff_eq, not_exists, not_and, not_forall, not_not, exists_prop]

/-! ## The results taken (R62) -/

/-- R62: what a record takes of a window. -/
def Record.withWindow (a b : ChanResult) (r : Record) : Record :=
  { r with
    windowTaken := true, evidenceA := some a.evidence, evidenceB := some b.evidence, ownA := a.contribution, ownB := b.contribution,
    learning := r.learning || (a.counts && a.learning) || (b.counts && b.learning) }

theorem Record.takeWindow_of_taken {r : Record} (h : r.windowTaken = true) (a b : ChanResult) : r.takeWindow a b = r := if_pos h

theorem Record.takeWindow_gathering {r : Record} (h : r.windowTaken = false) (hs : r.segmentTaken = false) (a b : ChanResult) :
    r.takeWindow a b = r.withWindow a b := by
  unfold Record.takeWindow
  rw [if_neg (Bool.eq_false_iff.mp h)]
  exact if_neg (by rw [hs]; exact Bool.false_ne_true)

theorem Record.takeWindow_waiting {r : Record} (h : r.windowTaken = false) (hs : r.segmentTaken = true) (a b : ChanResult) :
    r.takeWindow a b = { r.withWindow a b with state := .waiting } := by
  unfold Record.takeWindow
  rw [if_neg (Bool.eq_false_iff.mp h)]
  exact if_pos (by rw [hs]; rfl)

theorem Record.takeWindow_cyl (a b : ChanResult) (r : Record) : (r.takeWindow a b).cyl = r.cyl := by
  unfold Record.takeWindow Record.settleState
  split
  · rfl
  · split <;> rfl

/-! ## The state that takes the results (R31, R33) -/

/-- The state to which the results of a window are handed: the clips passed, the integrators IDLE. -/
def State.windowed (u : State) (k c : Nat) : State :=
  ((u.onChans Channel.abandon).reportClip c (u.windowResult .a k c)).reportClip c (u.windowResult .b k c)

section Windowed
variable {u : State} (k c : Nat)

theorem State.windowClose_stopped (h : u.node.state ≠ .running) : u.windowClose k c = u := if_neg h

theorem State.windowClose_judged (h : u.node.state = .running) (hj : (u.cyl c).role.judges = true) :
    u.windowClose k c = (u.windowed k c).recordWindow c (u.windowResult .a k c) (u.windowResult .b k c) :=
  (if_pos h).trans (if_pos hj)

theorem State.windowClose_witness (h : u.node.state = .running) (hj : ¬(u.cyl c).role.judges = true) :
    u.windowClose k c = (u.windowed k c).produceWitness c (u.windowResult .a k c) (u.windowResult .b k c) :=
  (if_pos h).trans (if_neg hj)

theorem State.windowed_body : (u.windowed k c).body = (u.onChans Channel.abandon).body :=
  (State.reportClip_body ..).trans (State.reportClip_body ..)

/-- A property that an occurrence of SENSOR_CLIPPED keeps. -/
theorem State.windowed_keeps {P : State → Prop} (ho : ∀ (s : State) (o : Occurrence), P s → P (s.occur o))
    (h : P (u.onChans Channel.abandon)) : P (u.windowed k c) :=
  State.reportClip_keeps (fun s o _ => ho s o) (State.reportClip_keeps (fun s o _ => ho s o) h _ _) _ _

theorem State.windowed_faultsOk (h : u.FaultsOk) : (u.windowed k c).FaultsOk :=
  State.reportClip_faultsOk (State.reportClip_faultsOk (s := u.onChans Channel.abandon) h _ _) _ _

/-- R33: the class after both reports. -/
theorem State.windowed_count (h : u.FaultsOk) :
    let A := (u.windowResult .a k c).Clips
    let B := (u.windowResult .b k c).Clips
    let x := (u.windowed k c).faults.cls .sensorClipped
    let y := u.faults.cls .sensorClipped
    (A → B → x = y.counted 2) ∧ (A → ¬B → x = y.counted 1) ∧ (¬A → B → x = y.counted 1) ∧ (¬A → ¬B → x = y) := by
  intro A B x y
  have abandoned : (u.onChans Channel.abandon).FaultsOk := h
  obtain ⟨hA, hA'⟩ := State.reportClip_count abandoned c (u.windowResult .a k c)
  obtain ⟨hB, hB'⟩ := State.reportClip_count (State.reportClip_faultsOk abandoned c (u.windowResult .a k c)) c (u.windowResult .b k c)
  refine ⟨fun a b => ?_, fun a b => (hB' b).trans (hA a), fun a b => (hB b).trans (congrArg _ (hA' a)), fun a b => (hB' b).trans (hA' a)⟩
  exact (hB b).trans ((congrArg _ (hA a)).trans (ClassState.counted_counted ..))

theorem State.windowed_takes {kind : Kind} (hk : kind.code < Kind.status.code) {c' : Option Nat} (h : u.link.Takes kind c') :
    (u.windowed k c).link.Takes kind c' :=
  State.windowed_keeps (P := fun s => s.link.Takes kind c') k c (fun s o hs => (s.occur_occurredTo o).takes kind c' hk hs) h

end Windowed

/-! ## Witness production (R87, R111, R112) -/

theorem State.queueWitness_calm (s : State) (c : Nat) (a b : ChanResult) : s.Calm (s.queueWitness c a b) := by
  unfold State.queueWitness
  split
  · exact .queueReport s _ _ _
  · exact .refl s

theorem State.produceWitness_calm (s : State) (c : Nat) (a b : ChanResult) : s.Calm (s.produceWitness c a b) := by
  have queued := s.queueWitness_calm c a b
  rw [State.produceWitness_eq]
  split
  · split
    · exact queued.trans (.of_eq rfl rfl rfl)
    · exact queued
  · exact .refl s

/-- R112: what is queued by witness production is queued first. -/
theorem State.produceWitness_link (s : State) (c : Nat) (a b : ChanResult) :
    (s.produceWitness c a b).link = if s.phasedWarm then (s.queueWitness c a b).link else s.link := by
  rw [State.produceWitness_eq]
  split
  · split <;> rfl
  · rfl

theorem State.queueWitness_queues {s : State} {c : Nat} {a b : ChanResult} (h : s.link.Takes .witness (some c)) (hw : 1 ≤ localWeight a b) :
    ∃ e ∈ (s.queueWitness c a b).link.queue, e.kind = .witness ∧ e.cyl = some c
      ∧ e.payload = witnessPayload c (localScore a b) (localWeight a b) (localLearning a b) := by
  obtain ⟨e, he, hkind, hcyl, hpay⟩ :=
    State.putReport_queues_of_takes h (witnessPayload c (localScore a b) (localWeight a b) (localLearning a b))
  refine ⟨e, ?_, hkind, hcyl, hpay⟩
  unfold State.queueWitness
  rw [if_pos hw]
  exact foldl_keepsReports State.occur_keepsReports _ _ e he (by rw [hkind]; decide) (by rw [hkind]; decide)

/-- R87: the energy that moves a reference at a WITNESS. -/
def ChanResult.movingEnergy (im : Image) (score : Nat) (r : ChanResult) : Option Nat :=
  if r.weight ≠ 0 ∧ (r.learning = true ∨ score < im.kthr) then r.energy? else none

theorem CylEntry.witnessUpdate_a (im : Image) (r : ChanResult) (score : Nat) (e : CylEntry) :
    e.witnessUpdate im .a r score = { e with
      refA := (movedRef im (r.movingEnergy im score) e.refA e.learnA).1,
      learnA := (movedRef im (r.movingEnergy im score) e.refA e.learnA).2 } := by
  unfold CylEntry.witnessUpdate ChanResult.movingEnergy
  cases r.energy? with
  | none => rw [ite_self]; rfl
  | some x =>
    dsimp only
    split <;> rfl

theorem CylEntry.witnessUpdate_b (im : Image) (r : ChanResult) (score : Nat) (e : CylEntry) :
    e.witnessUpdate im .b r score = { e with
      refB := (movedRef im (r.movingEnergy im score) e.refB e.learnB).1,
      learnB := (movedRef im (r.movingEnergy im score) e.refB e.learnB).2 } := by
  unfold CylEntry.witnessUpdate ChanResult.movingEnergy
  cases r.energy? with
  | none => rw [ite_self]; rfl
  | some x =>
    dsimp only
    split <;> rfl

/-- R85, R87: the reference and the count that a result leaves. -/
theorem ChanResult.movedRef_movingEnergy (im : Image) (score : Nat) (r : ChanResult) (ref count : Nat) :
    let moves := r.counts && (r.learning || decide (score < im.kthr))
    movedRef im (r.movingEnergy im score) ref count
      = (if moves then (r.energy?.map (newRef im ref count)).getD 0 else ref, if moves then min (count + 1) im.learnLen else count) := by
  intro moves
  have hmoves : moves = true ↔ r.energy?.isSome = true ∧ r.weight ≠ 0 ∧ (r.learning = true ∨ score < im.kthr) := by
    show (r.weight != 0 && r.energy?.isSome && (r.learning || decide (score < im.kthr))) = true ↔ _
    rw [Bool.and_eq_true, Bool.and_eq_true, Bool.or_eq_true, bne_iff_ne, decide_eq_true_iff]
    tauto
  unfold ChanResult.movingEnergy
  by_cases h : r.weight ≠ 0 ∧ (r.learning = true ∨ score < im.kthr)
  · rw [if_pos h]
    cases he : r.energy? with
    | none =>
      have still : ¬moves = true := fun hm => by
        rw [hmoves, he] at hm
        exact Bool.false_ne_true hm.1
      rw [if_neg still, if_neg still]
      rfl
    | some x =>
      have moved : moves = true := hmoves.mpr ⟨by rw [he]; rfl, h⟩
      rw [if_pos moved, if_pos moved]
      rfl
  · have still : ¬moves = true := fun hm => h (hmoves.mp hm).2
    rw [if_neg h, if_neg still, if_neg still]
    rfl

/-! ## O35 -/

theorem State.WitnessesFrom.of_settled {q : List TxEntry} {s t : State} (h : s.SettledTo t) (hs : s.WitnessesFrom q) : t.WitnessesFrom q := by
  rw [h.eq_updateService]
  exact State.updateService_handOffs (State.witnessesFrom_handOffs q) (fun _ _ h => h) hs

/-- What the closes and witness production keep is kept to the end of the event. -/
theorem State.windowClose_keeps {P : State → Prop} (hP : State.Lasting P)
    (hp : ∀ (s : State) (c : Nat) (a b : ChanResult), P s → P (s.produceWitness c a b)) {u : State} (hrun : u.node.state = .running)
    {k c : Nat} (h : P (u.windowed k c)) : P (u.windowClose k c).settle := by
  refine hP.settle _ ?_
  by_cases hj : (u.cyl c).role.judges = true
  · rw [u.windowClose_judged k c hrun hj]
    exact hP.recordWindow h c _ _
  · rw [u.windowClose_witness k c hrun hj]
    exact hp _ c _ _ h

/-- R31: the integrators are IDLE after a window close. -/
theorem State.windowClose_chan {u : State} (hrun : u.node.state = .running) (k c : Nat) (ch : Chan) :
    (u.windowClose k c).settle.chan ch = (u.chan ch).abandon := by
  have handed : (u.windowed k c).chan ch = (u.chan ch).abandon :=
    (State.body_chan (u.windowed_body k c) ch).trans (by cases ch <;> rfl)
  refine State.windowClose_keeps (P := fun t => t.chan ch = (u.chan ch).abandon) (State.lasting_chan ch rfl)
    (fun s c x y h => ?_) hrun handed
  have core := State.engine_core (s.produceWitness_engine c x y)
  rw [← h]
  cases ch
  · exact State.core_chanA core
  · exact State.core_chanB core

/-- R33: what was counted when the results were formed. -/
theorem State.windowClose_clips {u : State} (hrun : u.node.state = .running) (k c : Nat) :
    (u.windowClose k c).settle.faults.cls .sensorClipped = (u.windowed k c).faults.cls .sensorClipped :=
  State.windowClose_keeps (P := fun t => t.faults.cls .sensorClipped = (u.windowed k c).faults.cls .sensorClipped)
    (State.lasting_cls (by decide) (by decide) _) (fun s c x y h => ((s.produceWitness_calm c x y).counts.others _ (by decide)).trans h) hrun rfl

section Judged
variable {u : State} {k c : Nat} (hf : u.FaultsOk) (h : u.NoneReady)

/-- The end of the event of a judged cylinder's window. -/
abbrev State.judgedWindow (u : State) (k c : Nat) : State :=
  ((u.windowed k c).recordWindow c (u.windowResult .a k c) (u.windowResult .b k c)).settle

include hf h

omit hf h in
theorem State.judgedWindow_silent : (u.judgedWindow k c).WitnessesFrom u.link.queue := by
  have handed : (u.windowed k c).WitnessesFrom u.link.queue :=
    State.windowed_keeps (P := State.WitnessesFrom u.link.queue) k c (fun _ o => (State.witnessesFrom_handOffs _).occur o) fun _ he _ => he
  exact (State.lasting_witnesses _).settle _ ((State.lasting_witnesses _).recordWindow handed c _ _)

/-- R62: a window that nothing of the cylinder takes is discarded. -/
theorem State.judgedWindow_discards (hr : ∀ r, u.recordOf c = some r → r.windowTaken = true) :
    (u.windowed k c).SettledTo (u.judgedWindow k c) := by
  have body := u.windowed_body k c
  have records : (u.windowed k c).records = u.records := (State.body_records body).trans rfl
  have unchanged : (u.windowed k c).recordWindow c (u.windowResult .a k c) (u.windowResult .b k c) = u.windowed k c := by
    unfold State.recordWindow
    rw [State.onRecordOf_eq_self fun r hr' => Record.takeWindow_of_taken (hr r ((State.recordOf_congr records c).symm.trans hr')) _ _]
    exact State.NoneReady.closeComplete fun r hr' => h r (State.mem_openRecords.mpr (records ▸ State.mem_openRecords.mp hr'))
  exact State.settles_as unchanged (u.windowed_faultsOk k c hf).due

variable {r : Record} (hr : u.recordOf c = some r)
include hr

/-- R62: a record that is not complete with its window stays open with it. -/
theorem State.judgedWindow_keeps (hn : (r.takeWindow (u.windowResult .a k c) (u.windowResult .b k c)).ready = false) :
    (u.judgedWindow k c).recordOf c = some (r.takeWindow (u.windowResult .a k c) (u.windowResult .b k c))
      ∧ (u.judgedWindow k c).cylinders = u.cylinders ∧ (u.judgedWindow k c).peers = u.peers := by
  have body := u.windowed_body k c
  have records : (u.windowed k c).records = u.records := (State.body_records body).trans rfl
  have hr' : (u.windowed k c).recordOf c = some r := (State.recordOf_congr records c).trans hr
  have h' : (u.windowed k c).NoneReady := fun x hx => h x (State.mem_openRecords.mpr (records ▸ State.mem_openRecords.mp hx))
  have stays := State.closeComplete_of_updated h' hr' (f := Record.takeWindow (u.windowResult .a k c) (u.windowResult .b k c)) hn
  have settled := State.settles_as stays (u.windowed_faultsOk k c hf).due
  have after := settled.body_eq
  exact ⟨(State.recordOf_congr (State.body_records after) c).trans (State.recordOf_onRecordOf hr' (Record.takeWindow_cyl ..)),
    (State.body_cylinders after).trans ((State.body_cylinders body).trans rfl), (State.body_peers after).trans ((State.body_peers body).trans rfl)⟩

/-- R64: a record that is complete with its window closes. -/
theorem State.judgedWindow_closes (hn : (r.takeWindow (u.windowResult .a k c) (u.windowResult .b k c)).ready = true) :
    (u.judgedWindow k c).NoRecord c := by
  have records : (u.windowed k c).records = u.records := (State.body_records (u.windowed_body k c)).trans rfl
  have hr' : (u.windowed k c).recordOf c = some r := (State.recordOf_congr records c).trans hr
  have h' : (u.windowed k c).NoneReady := fun x hx => h x (State.mem_openRecords.mpr (records ▸ State.mem_openRecords.mp hx))
  exact (State.closeComplete_of_completed h' hr' (f := Record.takeWindow (u.windowResult .a k c) (u.windowResult .b k c))
    (u.windowed_faultsOk k c hf).due (Record.takeWindow_cyl ..) hn).settle

/-- R62, R64: what becomes of a record at its window, by what it has taken. -/
theorem State.judgedWindow_record (hw : r.windowTaken = false) :
    let taken := r.withWindow (u.windowResult .a k c) (u.windowResult .b k c)
    let missing := ∃ st ∈ r.expected, ∀ w ∈ r.witnesses, w.station ≠ st
    let t := u.judgedWindow k c
    (r.segmentTaken = false → t.recordOf c = some taken ∧ t.cylinders = u.cylinders ∧ t.peers = u.peers)
      ∧ (r.segmentTaken = true → missing →
          t.recordOf c = some { taken with state := .waiting } ∧ t.cylinders = u.cylinders ∧ t.peers = u.peers)
      ∧ (r.segmentTaken = true → ¬missing → t.NoRecord c) := by
  intro taken missing t
  have keeps := State.judgedWindow_keeps (k := k) hf h hr
  have closes := State.judgedWindow_closes (k := k) hf h hr
  have ready : ({ taken with state := .waiting } : Record).ready = true ↔ ¬missing := Record.ready_iff_not_missing rfl
  refine ⟨fun hs => ?_, fun hs hmiss => ?_, fun hs hmiss => ?_⟩
  · rw [Record.takeWindow_gathering hw hs] at keeps
    exact keeps (h r (State.recordOf_some hr).1)
  · rw [Record.takeWindow_waiting hw hs] at keeps
    exact keeps (Bool.eq_false_iff.mpr fun hready => ready.mp hready hmiss)
  · rw [Record.takeWindow_waiting hw hs] at closes
    exact closes (ready.mpr hmiss)

end Judged

section Witness
variable {u : State} {k c : Nat} (hf : u.FaultsOk)

/-- The end of the event of the window of a cylinder that is not judged. -/
abbrev State.witnessWindow (u : State) (k c : Nat) : State :=
  ((u.windowed k c).produceWitness c (u.windowResult .a k c) (u.windowResult .b k c)).settle

theorem State.windowed_phasedWarm : (u.windowed k c).phasedWarm = u.phasedWarm := by
  have body := u.windowed_body k c
  unfold State.phasedWarm State.warm
  rw [State.body_tracker body, State.body_params body]
  rfl

include hf

theorem State.witnessWindow_settled :
    ((u.windowed k c).produceWitness c (u.windowResult .a k c) (u.windowResult .b k c)).SettledTo (u.witnessWindow k c) :=
  State.settle_settled _ ((State.produceWitness_calm ..).faults (u.windowed_faultsOk k c hf)).due

theorem State.witnessWindow_tables : (u.witnessWindow k c).records = u.records ∧ (u.witnessWindow k c).peers = u.peers := by
  have engine := State.produceWitness_engine (u.windowed k c) c (u.windowResult .a k c) (u.windowResult .b k c)
  have after := (State.witnessWindow_settled (k := k) (c := c) hf).body_eq
  have body := u.windowed_body k c
  exact ⟨(State.body_records after).trans ((State.engine_records engine).trans ((State.body_records body).trans rfl)),
    (State.body_peers after).trans ((State.engine_peers engine).trans ((State.body_peers body).trans rfl))⟩

/-- R112: no WITNESS is queued before warm-up is complete, or where no channel counts. -/
theorem State.witnessWindow_silent
    (h : ¬u.phasedWarm = true ∨ ¬1 ≤ localWeight (u.windowResult .a k c) (u.windowResult .b k c)) :
    (u.witnessWindow k c).WitnessesFrom u.link.queue := by
  have handed : (u.windowed k c).WitnessesFrom u.link.queue :=
    State.windowed_keeps (P := State.WitnessesFrom u.link.queue) k c (fun _ o => (State.witnessesFrom_handOffs _).occur o) fun _ he _ => he
  refine State.WitnessesFrom.of_settled (State.witnessWindow_settled hf) ?_
  unfold State.WitnessesFrom
  rw [State.produceWitness_link, State.windowed_phasedWarm]
  split
  · next hw =>
    unfold State.queueWitness
    rw [if_neg (h.resolve_left (not_not.mpr hw))]
    exact handed
  · exact handed

/-- R112: the WITNESS waits at the end of the event. -/
theorem State.witnessWindow_queues (hq : u.link.Takes .witness (some c)) (hw : u.phasedWarm = true)
    (hl : 1 ≤ localWeight (u.windowResult .a k c) (u.windowResult .b k c)) :
    ∃ e ∈ (u.witnessWindow k c).link.queue, e.kind = .witness ∧ e.cyl = some c
      ∧ e.payload = witnessPayload c (localScore (u.windowResult .a k c) (u.windowResult .b k c))
          (localWeight (u.windowResult .a k c) (u.windowResult .b k c)) (localLearning (u.windowResult .a k c) (u.windowResult .b k c)) := by
  obtain ⟨e, he, hkind, hkey⟩ := State.queueWitness_queues (s := u.windowed k c) (u.windowed_takes k c (by decide) hq) hl
  refine ⟨e, (State.witnessWindow_settled hf).trails.reports e ?_ (by rw [hkind]; decide) (by rw [hkind]; decide), hkind, hkey⟩
  rw [State.produceWitness_link, State.windowed_phasedWarm, if_pos hw]
  exact he

/-- R87: the references move with warm-up complete and no shock. -/
theorem State.witnessWindow_moves (hw : u.phasedWarm = true) (hh : u.context.hold = none) (hlen : u.cylinders.length = 8)
    (hc : c ∈ allCylinders) :
    let A := u.windowResult .a k c
    let B := u.windowResult .b k c
    (u.witnessWindow k c).cyl c = ((u.cyl c).witnessUpdate u.params .a A (localScore A B)).witnessUpdate u.params .b B (localScore A B) := by
  intro A B
  have body := u.windowed_body k c
  have queued := (State.queueWitness_body (u.windowed k c) c A B).trans body
  have cylinders : ((u.windowed k c).queueWitness c A B).cylinders = u.cylinders := (State.body_cylinders queued).trans rfl
  have context : (u.windowed k c).context = u.context := (State.body_context body).trans rfl
  have params : (u.windowed k c).params = u.params := (State.body_params body).trans rfl
  rw [State.cyl_congr (State.body_cylinders (State.witnessWindow_settled (k := k) (c := c) hf).body_eq), State.produceWitness_eq,
    State.windowed_phasedWarm, if_pos hw, context, if_pos hh, params]
  exact (State.cyl_onCyl hc (cylinders ▸ hlen) _).trans (by rw [State.cyl_congr cylinders])

theorem State.witnessWindow_still (h : ¬u.phasedWarm = true ∨ u.context.hold ≠ none) : (u.witnessWindow k c).cylinders = u.cylinders := by
  have body := u.windowed_body k c
  have cylinders : (u.windowed k c).cylinders = u.cylinders := (State.body_cylinders body).trans rfl
  have context : (u.windowed k c).context = u.context := (State.body_context body).trans rfl
  rw [State.body_cylinders (State.witnessWindow_settled (k := k) (c := c) hf).body_eq, State.produceWitness_eq, State.windowed_phasedWarm, context]
  split
  · next hw =>
    rw [if_neg (h.resolve_left (not_not.mpr hw))]
    exact (State.body_cylinders (State.queueWitness_body ..)).trans cylinders
  · exact cylinders

end Witness

/-- Settles O35: the results are formed and the clips passed in one state, from which the record or witness production takes them. -/
theorem windowCloseFormsTheResult : Obligations.WindowCloseFormsTheResult := by
  intro s τ m k hf hq due hkind hpos im a c weight ref count learning sampled energy ratio clips counts own judged warm total score moved
    moves newRef' newCount
  let u := a.replaced m
  let R := fun ch => u.windowResult ch k c
  have uf : u.FaultsOk := hf
  have issued : u.deliverMark m .segmentEndFirst = u.windowClose k c := by
    unfold State.deliverMark
    rw [hkind, hpos]
    rfl
  have hexec : exec (.interpolatedMark τ) s = .next (u.windowClose k c).settle := by
    rw [exec_interpolatedMark_one hf due, issued]
  have hsampled (ch : Chan) : (u.chan ch).sampled k = sampled ch := by cases ch <;> rfl
  have hE (ch : Chan) : (R ch).energy? = energy ch := by
    rw [State.windowResult_energy?, hsampled]
    rfl
  have hQ (ch : Chan) : (R ch).ratio? = ratio ch := by
    rw [State.windowResult_ratio?, hsampled]
    cases ch <;> rfl
  have hW (ch : Chan) : (R ch).weight = weight ch := by cases ch <;> rfl
  have hL (ch : Chan) : (R ch).learning = learning ch := by cases ch <;> rfl
  have hcounts (ch : Chan) : (R ch).counts = counts ch := by
    show ((R ch).weight != 0 && (R ch).energy?.isSome) = _
    rw [hW, hE, show (weight ch != 0) = decide (weight ch ≠ 0) from Bool.eq_iff_iff.mpr (by rw [bne_iff_ne, decide_eq_true_iff])]
  have hown (ch : Chan) : (R ch).contribution = own ch := by
    show (if (R ch).counts && !(R ch).learning then (R ch).ratio?.map (fun q => { weight := (R ch).weight, ratio := q : Contribution }) else none) = _
    rw [hcounts, hL, hQ, hW]
  have htotal : localWeight (R .a) (R .b) = total := by
    show (if (R .a).counts then (R .a).weight else 0) + (if (R .b).counts then (R .b).weight else 0) = _
    rw [hcounts, hcounts, hW, hW]
  have hscore : localScore (R .a) (R .b) = score := by
    show ((if (R .a).counts then (R .a).weight * (R .a).ratio?.getD 0 else 0) + (if (R .b).counts then (R .b).weight * (R .b).ratio?.getD 0 else 0))
      / localWeight (R .a) (R .b) = _
    rw [htotal, hcounts, hcounts, hW, hW, hQ, hQ]
  have hclips (ch : Chan) : (R ch).Clips ↔ clips ch := by
    rw [State.windowResult_clips, hsampled]
    cases ch <;> rfl
  have hjudges : judged ↔ (u.cyl c).role.judges = true := by
    rw [Role.judges_iff, decide_eq_true_iff]
    rfl
  have hwarm : u.phasedWarm = true ↔ warm := by
    unfold State.phasedWarm State.warm
    rw [show u.tracker.sync = .phased from due.1, show u.tracker.warmUp = s.tracker.warmUp from s.advance_warmUp τ]
    exact beq_iff_eq
  refine ⟨fun hn => ⟨_, hexec, ?_⟩, fun hrun => ?_⟩
  · have list : u = a.onTracker (fun tr => { tr with marks := tr.marks.tail }) := by
      show a.replaced m = _
      unfold State.replaced replaceMark
      rw [hkind]
    exact State.settles_as ((u.windowClose_stopped k c hn).trans list) hf.due
  have hchan (ch : Chan) : (u.windowClose k c).settle.chan ch = { a.chan ch with integrator := .idle } :=
    (u.windowClose_chan hrun k c ch).trans (by cases ch <;> rfl)
  obtain ⟨both, onlyA, onlyB, none_⟩ := u.windowed_count k c uf
  rw [← u.windowClose_clips hrun k c] at both onlyA onlyB none_
  have hjudged (hj : judged) : (u.windowClose k c).settle = u.judgedWindow k c :=
    congrArg State.settle (u.windowClose_judged k c hrun (hjudges.mp hj))
  have hwitness (hj : ¬judged) : (u.windowClose k c).settle = u.witnessWindow k c :=
    congrArg State.settle (u.windowClose_witness k c hrun (mt hjudges.mpr hj))
  generalize (u.windowClose k c).settle = t at *
  refine ⟨t, hexec, hchan, fun hA hB => both ((hclips .a).mpr hA) ((hclips .b).mpr hB),
    fun hA hB => onlyA ((hclips .a).mpr hA) (mt (hclips .b).mp hB), fun hA hB => onlyB (mt (hclips .a).mp hA) ((hclips .b).mpr hB),
    fun hA hB => none_ (mt (hclips .a).mp hA) (mt (hclips .b).mp hB), fun r hj hnr hr hw => ?_, fun hj hnr hall => ?_, fun hno => ?_,
    fun hj => ?_, fun hj hw hone hmax hlen => ?_, fun hj hw hh hlen hc => ?_, fun hj hno => ?_⟩
  · have evidence (ch : Chan) : (R ch).evidence = { energy := energy ch, weight := weight ch, learning := learning ch } := by
      unfold ChanResult.evidence
      rw [hE, hW, hL]
    have taken : r.withWindow (R .a) (R .b) = { r with
        windowTaken := true,
        evidenceA := some { energy := energy .a, weight := weight .a, learning := learning .a },
        evidenceB := some { energy := energy .b, weight := weight .b, learning := learning .b },
        ownA := own .a, ownB := own .b,
        learning := r.learning || (counts .a && learning .a) || (counts .b && learning .b) } := by
      unfold Record.withWindow
      rw [evidence, evidence, hown, hown, hcounts, hcounts, hL, hL]
    have filed := State.judgedWindow_record (u := u) (k := k) uf hnr hr hw
    rw [taken] at filed
    rw [hjudged hj]
    exact filed
  · have hnr' : u.NoneReady := hnr
    have body := (State.judgedWindow_discards (k := k) uf hnr' hall).body_eq.trans (u.windowed_body k c)
    rw [hjudged hj]
    exact ⟨(State.body_records body).trans rfl, (State.body_cylinders body).trans rfl, (State.body_peers body).trans rfl⟩
  · by_cases hj : judged
    · rw [hjudged hj]
      exact State.judgedWindow_silent
    · rw [hwitness hj]
      refine State.witnessWindow_silent uf ((hno.resolve_left hj).imp (mt hwarm.mp) fun h0 => ?_)
      rw [htotal, h0]
      exact Nat.not_succ_le_zero 0
  · rw [hwitness hj]
    exact State.witnessWindow_tables uf
  · have takes : s.link.Takes .witness (some c) := hq.takes (.inl (by omega))
    obtain ⟨e, he, hkind', hcyl, hpay⟩ := State.witnessWindow_queues (k := k) uf takes (hwarm.mpr hw) (htotal.symm ▸ hone)
    have learns : localLearning (R .a) (R .b) = ((counts .a && learning .a) || (counts .b && learning .b)) := by
      unfold localLearning
      rw [hcounts, hcounts, hL, hL]
    rw [hscore, htotal, learns] at hpay
    rw [hwitness hj]
    refine ⟨e, he, hkind', hcyl, hpay.trans ?_⟩
    unfold witnessPayload bitAt
    rw [Nat.mod_eq_of_lt (show total < 32 by omega)]
    rfl
  · have moved' := State.witnessWindow_moves (k := k) uf (hwarm.mpr hw) (show (s.context.elapse _).hold = none by simp [Context.elapse, hh]) hlen hc
    have channel (ch : Chan) : movedRef im ((R ch).movingEnergy im score) (ref ch) (count ch) = (newRef' ch, newCount ch) := by
      have rule : newRef im (ref ch) (count ch) = moved ch := funext fun e => newRef_eq im (ref ch) (count ch) e
      have given := (R ch).movedRef_movingEnergy im score (ref ch) (count ch)
      rw [hcounts, hL, hE, rule] at given
      exact given
    rw [hwitness hj, moved', hscore, CylEntry.witnessUpdate_a, CylEntry.witnessUpdate_b]
    have chanA : movedRef u.params ((R .a).movingEnergy u.params score) (u.cyl c).refA (u.cyl c).learnA = (newRef' .a, newCount .a) := channel .a
    have chanB : movedRef u.params ((R .b).movingEnergy u.params score) (u.cyl c).refB (u.cyl c).learnB = (newRef' .b, newCount .b) := channel .b
    rw [chanA, chanB]
    rfl
  · rw [hwitness hj]
    exact State.witnessWindow_still uf (hno.imp (mt hwarm.mp) fun hh => show (s.context.elapse _).hold ≠ none by simpa [Context.elapse] using hh)

end Sys2Proof.Machine

/-! # A segment boundary in PHASED (R20, R37, R50, R63, R64) -/

namespace Sys2Proof.Machine

/-! ## Closes that pass no withdrawal (R107, R151) -/

/-- Nothing that a close passes withdraws the node. -/
def State.Unwithdrawn (s : State) : Prop := s.FaultsOk ∧ (s.faults.cls .peerSilent).severity ≠ .withdrawing

theorem State.Unwithdrawn.calm {s t : State} (h : s.Unwithdrawn) (c : s.Calm t) : t.Unwithdrawn :=
  ⟨c.faults h.1, by rw [c.counts.others _ (by decide)]; exact h.2⟩

theorem State.Unwithdrawn.settle_eq {s : State} (h : s.Unwithdrawn) : s.settle = s.updateService := State.settle_settled s h.1.due

theorem State.Unwithdrawn.silencePeer {s : State} (h : s.Unwithdrawn) (st : Station) (c : Option Nat) : (s.silencePeer st c).Unwithdrawn := by
  let o := s.occurrence .peerSilent (some st) none c
  have at_ : (s.onPeer st PeerEntry.silence).FaultsOk := h.1
  have passed : ((s.onPeer st PeerEntry.silence).fault .peerSilent (some st) none c).Unwithdrawn := by
    refine ⟨State.occur_faultsOk at_ (o := o) (.inl h.2), ?_⟩
    have took := State.occur_took (s := s.onPeer st PeerEntry.silence) (o := o) h.1.sound.length (by exact (by decide : FaultClass.peerSilent ≠ .queueOverflow))
    have count : (((s.onPeer st PeerEntry.silence).occur o).faults.cls .peerSilent).severity = (s.faults.cls .peerSilent).severity :=
      (congrArg ClassState.severity took.1).trans rfl
    exact count ▸ h.2
  exact passed.calm (s.silencePeer_calm st c)

/-- A property of the link that a hand-off and a VERDICT keep is kept by closes that pass no withdrawal. -/
theorem State.lasting_link {L : Link → Prop} (hL : State.HandOffs (fun s => L s.link))
    (hv : ∀ (s : State) (c : Option Nat) (p : List Byte), L s.link → L (s.putReport .verdict c p).1.link) :
    State.Lasting (fun s => s.Unwithdrawn ∧ L s.link) where
  settle s h := ⟨h.1.calm (.settle h.1.1.due), by
    rw [h.1.settle_eq]
    exact State.updateService_handOffs hL (fun _ _ h => h) h.2⟩
  judged s r h := by
    refine ⟨h.1.calm (s.judged_calm r), ?_⟩
    have queued : L (s.queueReport .verdict (some r.cyl) (r.verdictReport s.params)).link := hL.report (hv s _ _ h.2)
    have folded (u : State) (v : Verdict) (hu : L u.link) : L (u.foldVerdict r.cyl v r.evidenceA r.evidenceB).link := by
      rw [State.foldVerdict_eq]
      dsimp only
      split
      · exact hL.raised (s := u.onCyl r.cyl _) .deadCylinder hu
      · exact hu
    unfold State.judged
    dsimp only
    split
    · exact hL.raised _ (folded _ _ queued)
    · exact folded _ _ queued
  onPeer _ _ _ h := h
  silence s st c h := by
    refine ⟨h.1.silencePeer st c, ?_⟩
    have passed : L ((s.onPeer st PeerEntry.silence).fault .peerSilent (some st) none c).link := hL.occur (s := s.onPeer st PeerEntry.silence) _ h.2
    unfold State.silencePeer
    dsimp only
    split
    · exact hL.raised _ passed
    · exact passed
  onRecords _ _ h := h

/-- The closes that pass no withdrawal leave the outer state. -/
theorem State.lasting_outer (x : State) : State.Lasting (fun s => s.Unwithdrawn ∧ s.outer = x) where
  settle s h := ⟨h.1.calm (.settle h.1.1.due), (State.outer_of_body (State.settle_settled s h.1.1.due).body_eq).trans h.2⟩
  judged s r h := by
    refine ⟨h.1.calm (s.judged_calm r), Eq.trans ?_ h.2⟩
    unfold State.judged
    dsimp only
    split
    · rw [State.raise_outer, State.foldVerdict_outer, State.queueReport_outer]
    · rw [State.foldVerdict_outer, State.queueReport_outer]
  onPeer _ _ _ h := h
  silence s st c h := ⟨h.1.silencePeer st c, (s.silencePeer_outer st c).trans h.2⟩
  onRecords _ _ h := h

theorem State.takes_handOffs {k : Kind} (hk : k.code < Kind.status.code) (c : Option Nat) : State.HandOffs (fun s => s.link.Takes k c) where
  put s p h := State.putReport_takes (hk.trans (by decide)) none p h
  raise s x h := State.raiseStep_takes hk x h
  count _ _ h := h
  first _ _ _ h := h
  overflow _ h := h
  due _ h := h

/-! ## Records marked with a shock (R68) -/

section Map
variable {s t : State} {g : Record → Record} (h : t.records = s.records.map (Option.map g))
include h

theorem State.openRecords_map : t.openRecords = s.openRecords.map g := by
  show t.records.filterMap id = (s.records.filterMap id).map g
  rw [h, List.filterMap_map, List.map_filterMap]
  rfl

theorem State.recordOf_map (hg : ∀ r, (g r).cyl = r.cyl) (c : Nat) : t.recordOf c = (s.recordOf c).map g := by
  show t.records.findSome? (fun o => o.filter fun r => r.cyl == c) = (s.records.findSome? fun o => o.filter fun r => r.cyl == c).map g
  rw [h]
  induction s.records with
  | nil => rfl
  | cons o l ih =>
    rw [List.map_cons, List.findSome?_cons, List.findSome?_cons]
    cases o with
    | none => exact ih
    | some r =>
      rw [Option.map_some, Option.filter_some, Option.filter_some, hg]
      by_cases hr : (r.cyl == c) = true
      · rw [if_pos hr, if_pos hr]
        rfl
      · rw [if_neg hr, if_neg hr]
        exact ih

theorem State.NoneReady.map (hg : ∀ r, (g r).ready = r.ready) (hs : s.NoneReady) : t.NoneReady := by
  intro x hx
  rw [State.openRecords_map h] at hx
  obtain ⟨r, hr, rfl⟩ := List.mem_map.mp hx
  exact (hg r).trans (hs r hr)

theorem State.NoRecord.map (hg : ∀ r, (g r).cyl = r.cyl) {c : Nat} (hs : s.NoRecord c) : t.NoRecord c := by
  intro x hx
  rw [State.openRecords_map h] at hx
  obtain ⟨r, hr, rfl⟩ := List.mem_map.mp hx
  exact hg r ▸ hs r hr

end Map

/-- R68: an open record after the peak of a boundary. -/
def State.peakMark (s : State) (r : Record) : Record := if s.shocked = true ∧ s.context.hold = none then { r with shock := true } else r

theorem State.peakRecords_eq (s : State) : s.peakRecords = s.records.map (Option.map s.peakMark) := by
  unfold State.peakRecords State.peakMark
  split
  · rfl
  · rw [show Option.map (fun r : Record => r) = id from Option.map_id, List.map_id]

theorem State.peakMark_cyl (s : State) (r : Record) : (s.peakMark r).cyl = r.cyl := by
  unfold State.peakMark
  split <;> rfl

theorem State.peakMark_ready (s : State) (r : Record) : (s.peakMark r).ready = r.ready := by
  unfold State.peakMark
  split <;> rfl

theorem State.takeSegment_peakMark (s : State) (loss : Option Int) (band : Nat) (r : Record) :
    (s.peakMark r).takeSegment loss band = s.peakMark (r.takeSegment loss band) := by
  unfold State.peakMark
  split
  · unfold Record.takeSegment Record.settleState
    dsimp only
    split
    · rfl
    · split <;> rfl
  · rfl

theorem Record.takeSegment_cyl (loss : Option Int) (band : Nat) (r : Record) : (r.takeSegment loss band).cyl = r.cyl := by
  unfold Record.takeSegment Record.settleState
  split
  · rfl
  · split <;> rfl

theorem Record.takeSegment_gathering {r : Record} (h : r.segmentTaken = false) (hw : r.windowTaken = false) (loss : Option Int) (band : Nat) :
    r.takeSegment loss band = { r with segmentTaken := true, loss := loss, band := band } := by
  unfold Record.takeSegment
  rw [if_neg (Bool.eq_false_iff.mp h)]
  exact if_neg (by rw [hw]; exact Bool.false_ne_true)

theorem Record.takeSegment_waiting {r : Record} (h : r.segmentTaken = false) (hw : r.windowTaken = true) (loss : Option Int) (band : Nat) :
    r.takeSegment loss band = { r with segmentTaken := true, loss := loss, band := band, state := .waiting } := by
  unfold Record.takeSegment
  rw [if_neg (Bool.eq_false_iff.mp h)]
  exact if_pos (by rw [hw]; rfl)

/-! ## The peak of a boundary -/

theorem State.considerJolt_calm (s : State) (peak : Nat) : s.Calm (s.considerJolt peak) := by
  unfold State.considerJolt
  split
  · exact (State.Calm.queueReport s .jolt none (joltPayload peak s.params.shockHold)).trans (.of_eq rfl rfl rfl)
  · exact .refl s

theorem State.boundaryPeak_calm (s : State) : s.Calm s.boundaryPeak := by
  by_cases h : s.shocked = true
  · rw [State.boundaryPeak_of_shock h, State.extendHold_eq]
    refine State.Calm.trans ?_ (State.considerJolt_calm _ s.topPeak)
    exact .of_eq rfl rfl rfl
  · rw [State.boundaryPeak_of_quiet (Bool.eq_false_iff.mpr h)]
    exact .of_eq rfl rfl rfl

theorem State.peak_congr {s t : State} (h : t.outer = s.outer) : t.shocked = s.shocked ∧ t.signals = s.signals
    ∧ t.topPeak = s.topPeak ∧ t.peakContext = s.peakContext ∧ t.peakMark = s.peakMark := by
  have params : t.params = s.params := State.params_congr (State.outer_image h)
  have top : t.topPeak = s.topPeak := by
    unfold State.topPeak
    rw [State.outer_chanA h, State.outer_chanB h]
  have shocked : t.shocked = s.shocked := by
    unfold State.shocked
    rw [State.outer_chanA h, State.outer_chanB h, params, top]
  have signals : t.signals = s.signals := by
    unfold State.signals
    rw [State.outer_node h, State.outer_context h]
  refine ⟨shocked, signals, top, ?_, ?_⟩
  · unfold State.peakContext
    rw [shocked, signals, params, State.outer_context h]
  · funext r
    unfold State.peakMark
    rw [shocked, State.outer_context h]

theorem State.boundaryPeak_outer (s : State) : s.boundaryPeak.outer = { s.outer with
    chanA := s.chanA.restartPeak, chanB := s.chanB.restartPeak, context := s.peakContext } :=
  State.outer_of_body s.boundaryPeak_body

theorem State.boundaryPeak_records (s : State) : s.boundaryPeak.records = s.records.map (Option.map s.peakMark) :=
  (State.body_records s.boundaryPeak_body).trans s.peakRecords_eq

theorem State.boundaryPeak_cylinders (s : State) : s.boundaryPeak.cylinders = s.cylinders :=
  (State.body_cylinders s.boundaryPeak_body).trans rfl

/-! ## The boundary, whichever of segment end and peak comes first (R68, R130) -/

/-- The state of a boundary whose chain and history have been written. -/
def State.chained (w : State) : State :=
  { w with tracker := { w.tracker with chain := some w.now }, estimator := w.boundaryEstimator }

/-- R63: the end of the segment of a position reaches the Record Table. -/
def State.segmentEnd (w : State) (q : Nat) : State :=
  w.recordSegment (w.params.cylAt q) (w.estimator.result w.params).loss (w.estimator.result w.params).band

theorem State.boundary_fresh {w : State} (h : w.tracker.chain = none) (q : Nat) (order : BoundaryOrder) :
    w.boundary (some q) order = w.chained.boundaryPeak := by
  unfold State.boundary State.chained State.boundaryEstimator
  rw [h]
  rfl

theorem State.boundary_segmentEndFirst {w : State} {x : Tick} (h : w.tracker.chain = some x) (q : Nat) :
    w.boundary (some q) .segmentEndFirst = (w.chained.segmentEnd q).boundaryPeak := by
  unfold State.boundary State.chained State.boundaryEstimator
  rw [h]
  rfl

theorem State.boundary_peakFirst {w : State} {x : Tick} (h : w.tracker.chain = some x) (q : Nat) :
    w.boundary (some q) .peakFirst
      = (((w.onTracker fun tr => { tr with chain := some w.now }).boundaryPeak).onEstimator (fun _ => w.boundaryEstimator)).segmentEnd q := by
  have kept : (w.onTracker fun tr => { tr with chain := some w.now }).boundaryPeak.estimator = w.estimator :=
    (State.body_estimator (State.boundaryPeak_body _)).trans rfl
  have written : ((w.onTracker fun tr => { tr with chain := some w.now }).boundaryPeak).onEstimator (fun _ => w.boundaryEstimator)
      = ((w.onTracker fun tr => { tr with chain := some w.now }).boundaryPeak).onEstimator (Estimator.shift (clampPeriod (ticksFrom x w.now))) := by
    unfold State.onEstimator State.boundaryEstimator
    rw [h, kept]
  rw [written]
  unfold State.boundary
  rw [h]
  rfl

/-- What the segment end keeps. -/
theorem State.Unwithdrawn.segmentEnd {w : State} (h : w.Unwithdrawn) (q : Nat) :
    (w.segmentEnd q).Unwithdrawn ∧ (w.segmentEnd q).outer = w.outer :=
  (State.lasting_outer w.outer).closeComplete (s := w.onRecordOf _ _) ⟨h, rfl⟩

section Boundary
variable {w : State} (hw : w.Unwithdrawn) (q : Nat) (order : BoundaryOrder)

/-- A boundary in its two orders: a property of every way is a property of the boundary. -/
theorem State.boundary_cases {P : State → Prop} (fresh : w.tracker.chain = none → P w.chained.boundaryPeak)
    (endFirst : w.tracker.chain.isSome = true → P (w.chained.segmentEnd q).boundaryPeak)
    (peakFirst : w.tracker.chain.isSome = true →
      P ((((w.onTracker fun tr => { tr with chain := some w.now }).boundaryPeak).onEstimator (fun _ => w.boundaryEstimator)).segmentEnd q)) :
    P (w.boundary (some q) order) := by
  cases h : w.tracker.chain with
  | none =>
    rw [State.boundary_fresh h]
    exact fresh h
  | some x =>
    cases order with
    | segmentEndFirst =>
      rw [State.boundary_segmentEndFirst h]
      exact endFirst (by rw [h]; rfl)
    | peakFirst =>
      rw [State.boundary_peakFirst h]
      exact peakFirst (by rw [h]; rfl)

include hw

/-- R19, R20, R37: a boundary outside the tables, the queue, the faults and the alerts. -/
theorem State.boundary_some_outer : (w.boundary (some q) order).Unwithdrawn ∧ (w.boundary (some q) order).outer = ({ w.chained with
    chanA := w.chanA.restartPeak, chanB := w.chanB.restartPeak, context := w.peakContext } : State).outer := by
  have chained : w.chained.Unwithdrawn := hw
  refine State.boundary_cases (P := fun t => t.Unwithdrawn ∧ t.outer = _) q order (fun _ => ?_) (fun _ => ?_) (fun _ => ?_)
  · exact ⟨chained.calm (State.boundaryPeak_calm _), State.boundaryPeak_outer _⟩
  · obtain ⟨ended, outer⟩ := chained.segmentEnd q
    obtain ⟨-, -, -, context, -⟩ := State.peak_congr outer
    refine ⟨ended.calm (State.boundaryPeak_calm _), ?_⟩
    rw [State.boundaryPeak_outer, outer, context, State.outer_chanA outer, State.outer_chanB outer]
    rfl
  · have peaked : ((w.onTracker fun tr => { tr with chain := some w.now }).boundaryPeak).Unwithdrawn :=
      State.Unwithdrawn.calm (s := w.onTracker _) hw (State.boundaryPeak_calm _)
    have written : (((w.onTracker fun tr => { tr with chain := some w.now }).boundaryPeak).onEstimator (fun _ => w.boundaryEstimator)).Unwithdrawn := peaked
    obtain ⟨ended, outer⟩ := written.segmentEnd q
    refine ⟨ended, outer.trans ?_⟩
    exact congrArg (fun t : State => ({ t with estimator := w.boundaryEstimator } : State)) (State.boundaryPeak_outer _)

/-- R128: a JOLT that the boundary queues waits when the boundary has been taken. -/
theorem State.boundary_some_jolt (hs : w.shocked = true) (hn : w.signals = true) (ht : w.link.Takes .jolt none) :
    (w.boundary (some q) order).link.Holds (joltPayload w.topPeak w.params.shockHold) := by
  have chained : w.chained.Unwithdrawn := hw
  refine State.boundary_cases (P := fun t => t.link.Holds (joltPayload w.topPeak w.params.shockHold)) q order
    (fun _ => State.boundaryPeak_jolt (s := w.chained) hs hn ht) (fun _ => ?_) (fun _ => ?_)
  · obtain ⟨-, outer⟩ := chained.segmentEnd q
    obtain ⟨shocked, signals, top, -, -⟩ := State.peak_congr outer
    have taken : (w.chained.segmentEnd q).link.Takes .jolt none :=
      ((State.lasting_link (L := fun l => l.Takes .jolt none) (State.takes_handOffs (by decide) none) fun _ c p h => State.putReport_takes (by decide) c p h).closeComplete
        (s := w.chained.onRecordOf _ _) ⟨chained, ht⟩).2
    have held := State.boundaryPeak_jolt (shocked.trans hs) (signals.trans hn) taken
    rw [top, State.params_congr (State.outer_image outer)] at held
    exact held
  · have peaked : ((w.onTracker fun tr => { tr with chain := some w.now }).boundaryPeak).Unwithdrawn :=
      State.Unwithdrawn.calm (s := w.onTracker _) hw (State.boundaryPeak_calm _)
    exact ((State.lasting_link (L := Link.Holds _) (State.holds_handOffs _) fun _ c p h => State.putReport_holds h (by decide) c p).closeComplete
      (s := (((w.onTracker fun tr => { tr with chain := some w.now }).boundaryPeak).onEstimator (fun _ => w.boundaryEstimator)).onRecordOf _ _)
      ⟨peaked, State.boundaryPeak_jolt (s := w.onTracker _) hs hn ht⟩).2

/-! ## The record of the segment that ends (R63, R64) -/

/-- The state in which the segment end comes after the peak. -/
def State.peaked (w : State) : State :=
  ((w.onTracker fun tr => { tr with chain := some w.now }).boundaryPeak).onEstimator (fun _ => w.boundaryEstimator)

omit hw in
theorem State.peaked_records : w.peaked.records = w.records.map (Option.map w.peakMark) :=
  (w.onTracker fun tr => { tr with chain := some w.now }).boundaryPeak_records

omit hw in
theorem State.peaked_params : w.peaked.params = w.params :=
  (State.body_params (State.boundaryPeak_body (w.onTracker fun tr => { tr with chain := some w.now }))).trans rfl

omit hw in
/-- R63: a segment end that finds no record of its cylinder. -/
theorem State.segmentEnd_eq_self {v : State} (h : v.NoneReady) {q : Nat} (hno : v.NoRecord (v.params.cylAt q)) : v.segmentEnd q = v := by
  unfold State.segmentEnd State.recordSegment
  rw [State.onRecordOf_eq_self fun r hr => absurd (hno.recordOf.symm.trans hr) (nofun)]
  exact h.closeComplete

omit hw in
/-- R63: a boundary that ends no record's segment. -/
theorem State.boundary_some_loose (h : w.tracker.chain = none ∨ (w.NoRecord (w.params.cylAt q) ∧ w.NoneReady)) :
    (w.boundary (some q) order).records = w.records.map (Option.map w.peakMark) ∧ (w.boundary (some q) order).cylinders = w.cylinders := by
  have table (hs : w.tracker.chain.isSome = true) : w.NoRecord (w.params.cylAt q) ∧ w.NoneReady :=
    h.resolve_left fun hn => by rw [hn] at hs; cases hs
  refine State.boundary_cases (P := fun t => t.records = w.records.map (Option.map w.peakMark) ∧ t.cylinders = w.cylinders) q order
    (fun _ => ⟨w.chained.boundaryPeak_records, w.chained.boundaryPeak_cylinders⟩) (fun hs => ?_) (fun hs => ?_)
  · obtain ⟨hno, hnr⟩ := table hs
    rw [State.segmentEnd_eq_self (v := w.chained) hnr hno]
    exact ⟨w.chained.boundaryPeak_records, w.chained.boundaryPeak_cylinders⟩
  · obtain ⟨hno, hnr⟩ := table hs
    have records := State.peaked_records (w := w)
    have still : w.peaked.segmentEnd q = w.peaked :=
      State.segmentEnd_eq_self (hnr.map records w.peakMark_ready) (by rw [State.peaked_params]; exact hno.map records w.peakMark_cyl)
    show (w.peaked.segmentEnd q).records = _ ∧ (w.peaked.segmentEnd q).cylinders = _
    rw [still]
    exact ⟨records, (w.onTracker fun tr => { tr with chain := some w.now }).boundaryPeak_cylinders⟩

/-- R63, R64: the record of the segment's cylinder takes the segment end, and closes where that completes it. -/
theorem State.boundary_some_takes (hs : w.tracker.chain.isSome = true) (hnr : w.NoneReady) {r : Record}
    (hr : w.recordOf (w.params.cylAt q) = some r) :
    let taken := r.takeSegment (w.boundaryEstimator.result w.params).loss (w.boundaryEstimator.result w.params).band
    (taken.ready = false → (w.boundary (some q) order).recordOf (w.params.cylAt q) = some (w.peakMark taken))
      ∧ (taken.ready = true → (w.boundary (some q) order).NoRecord (w.params.cylAt q)) := by
  intro taken
  have stale (hn : w.tracker.chain = none) : False := by rw [hn] at hs; cases hs
  have records := State.peaked_records (w := w)
  have params := State.peaked_params (w := w)
  have marked : w.peaked.recordOf (w.params.cylAt q) = some (w.peakMark r) := by
    rw [State.recordOf_map records w.peakMark_cyl, hr]
    rfl
  have takes := w.takeSegment_peakMark (w.boundaryEstimator.result w.params).loss (w.boundaryEstimator.result w.params).band r
  have still : w.peaked.NoneReady := hnr.map records w.peakMark_ready
  have ends : w.peaked.segmentEnd q = (w.peaked.onRecordOf (w.params.cylAt q) (Record.takeSegment
      (w.boundaryEstimator.result w.params).loss (w.boundaryEstimator.result w.params).band)).closeComplete := by
    unfold State.segmentEnd State.recordSegment
    rw [params]
    rfl
  refine ⟨fun hready => ?_, fun hready => ?_⟩
  · refine State.boundary_cases (P := fun t => t.recordOf (w.params.cylAt q) = some (w.peakMark taken)) q order
      (fun hn => (stale hn).elim) (fun _ => ?_) (fun _ => ?_)
    · have stays : w.chained.segmentEnd q = w.chained.onRecordOf (w.params.cylAt q) (Record.takeSegment
          (w.boundaryEstimator.result w.params).loss (w.boundaryEstimator.result w.params).band) :=
        State.closeComplete_of_updated (s := w.chained) hnr hr hready
      have found : (w.chained.segmentEnd q).recordOf (w.params.cylAt q) = some taken := by
        rw [stays]
        exact State.recordOf_onRecordOf (s := w.chained) hr (Record.takeSegment_cyl ..)
      obtain ⟨-, -, -, -, mark⟩ := State.peak_congr (s := w.chained) (t := w.chained.segmentEnd q) (by rw [stays]; rfl)
      rw [State.recordOf_map (State.boundaryPeak_records _) (State.peakMark_cyl _), found, mark]
      rfl
    · show (w.peaked.segmentEnd q).recordOf _ = _
      rw [ends, State.closeComplete_of_updated still marked (by rw [takes, State.peakMark_ready]; exact hready),
        State.recordOf_onRecordOf marked (Record.takeSegment_cyl ..), takes]
  · refine State.boundary_cases (P := fun t => t.NoRecord (w.params.cylAt q)) q order
      (fun hn => (stale hn).elim) (fun _ => ?_) (fun _ => ?_)
    · have gone : (w.chained.segmentEnd q).NoRecord (w.params.cylAt q) :=
        State.closeComplete_of_completed (s := w.chained) hnr hr hw.1.due (Record.takeSegment_cyl ..) hready
      exact gone.map (State.boundaryPeak_records _) (State.peakMark_cyl _)
    · show (w.peaked.segmentEnd q).NoRecord _
      rw [ends]
      exact State.closeComplete_of_completed still marked
        (State.Unwithdrawn.calm (s := w.onTracker fun tr => { tr with chain := some w.now }) hw (State.boundaryPeak_calm _)).1.due
        (Record.takeSegment_cyl ..) (by rw [takes, State.peakMark_ready]; exact hready)

end Boundary

end Sys2Proof.Machine

/-! # Accepted tooth edges, and the boundaries among them (R7, R17, R19) -/

namespace Sys2Proof.Machine

/-! ## The accepted edge in each sync state -/

section Accepted
variable {u : State} (h : u.node.state.configured = true) {measured : Tracker} (hm : u.tracker.measure u.now = measured)
  (hyes : measured.edgeAccepted u.params (measured.gapCandidate u.params) = true) (order : BoundaryOrder)
include h hm hyes

theorem toothEdge_of_crankLocked (hs : u.tracker.sync = .crankLocked) : toothEdge order u =
    (({ u with tracker := measured.acceptLocked u.params } : State).lockedBoundary order).onTracker
      (Tracker.estimate u.params (measured.gapCandidate u.params)) := by
  have moved : u.onTracker (Tracker.measure u.now) = { u with tracker := measured } := by
    rw [← hm]
    rfl
  unfold toothEdge State.takeTooth
  rw [if_pos h, if_neg (by rw [hs]; decide)]
  dsimp only
  rw [moved, hs]
  dsimp only
  rw [if_pos (by exact hyes)]
  rfl

theorem toothEdge_of_phased (hs : u.tracker.sync = .phased) : toothEdge order u =
    ((({ u with tracker := measured.acceptPhased u.params } : State).issueDue order).boundaryAfterDrop order).onTracker
      (Tracker.estimate u.params (measured.gapCandidate u.params)) := by
  have moved : u.onTracker (Tracker.measure u.now) = { u with tracker := measured } := by
    rw [← hm]
    rfl
  unfold toothEdge State.takeTooth
  rw [if_pos h, if_neg (by rw [hs]; decide)]
  dsimp only
  rw [moved, hs]
  dsimp only
  rw [if_pos (by exact hyes)]
  rfl

end Accepted

/-- R7: an edge is accepted that ends the gap exactly where the count says so. -/
theorem Tracker.edgeAccepted_of {tr : Tracker} {i : Nat} (hi : tr.toothIndex = some i) {im : Image} {candidate : Bool}
    (h : candidate = decide (i + 1 = im.teeth - im.gap)) : tr.edgeAccepted im candidate = true := by
  unfold Tracker.edgeAccepted
  rw [hi, h]
  exact beq_self_eq_true _

theorem Tracker.nextIndex_eq {tr : Tracker} {i : Nat} (hi : tr.toothIndex = some i) (im : Image) :
    tr.nextIndex im = if decide (i + 1 = im.teeth - im.gap) then 0 else i + 1 := by
  unfold Tracker.nextIndex Image.realTeeth
  rw [hi]
  by_cases hg : i + 1 = im.teeth - im.gap
  · rw [decide_eq_true hg]
    exact if_pos hg
  · rw [decide_eq_false hg]
    exact if_neg hg

/-- R7, R17: the tracker of an edge accepted in PHASED. -/
theorem Tracker.acceptPhased_eq {tr : Tracker} {i e was : Nat} (hi : tr.toothIndex = some i) (he : tr.edgeAngle = some e)
    (ha : tr.angle = some was) (im : Image) :
    let atGap := decide (i + 1 = im.teeth - im.gap)
    let next := (e + (if atGap then im.gap + 1 else 1) * (3600 / im.teeth)) % 7200
    tr.acceptPhased im = { tr with
      toothIndex := some (if atGap then 0 else i + 1), edgeAngle := some next, angle := some next
      phase := some (if next < 3600 then .first else .second)
      marks := tr.marks.map (fun m => { m with dist := m.dist - ((next + 7200 - was) % 7200 : Nat) : PendingMark }) } := by
  intro atGap next
  have index := Tracker.nextIndex_eq hi im
  have step : (if tr.toothIndex.getD 0 + 1 = im.realTeeth then (im.gap + 1) * im.pitch else im.pitch)
      = (if atGap then im.gap + 1 else 1) * (3600 / im.teeth) := by
    rw [hi]
    by_cases hg : i + 1 = im.teeth - im.gap
    · rw [if_pos (show (some i).getD 0 + 1 = im.realTeeth from hg), show atGap = true from decide_eq_true hg]
      rfl
    · rw [if_neg (show ¬(some i).getD 0 + 1 = im.realTeeth from hg), show atGap = false from decide_eq_false hg]
      exact (Nat.one_mul _).symm
  unfold Tracker.acceptPhased Tracker.moveTo phaseOf
  dsimp only
  rw [step, index, he, ha]
  rfl

theorem Image.isLockedBoundary_iff (im : Image) (angle : Nat) : im.isLockedBoundary angle = true
    ↔ im.n % 2 = 0 ∧ ∃ k < im.n / 2, (im.sigma + k * (7200 / im.n)) % 3600 = angle % 3600 := by
  unfold Image.isLockedBoundary Image.boundaryAngle Image.interval
  rw [Bool.and_eq_true, beq_iff_eq, List.any_eq_true]
  simp only [List.mem_range, beq_iff_eq]

/-! ## A boundary of CRANK_LOCKED at an edge -/

/-- R19, R20: an accepted edge at a boundary angle of CRANK_LOCKED, to the end of its event. -/
theorem State.lockedBoundary_settles {x : State} (h : x.AtRest) (hl : x.tracker.sync = .crankLocked)
    (hb : x.params.isLockedBoundary (x.tracker.edgeAngle.getD 0) = true) (order : BoundaryOrder) (f : Tracker → Tracker) :
    let t := ((x.lockedBoundary order).onTracker f).settle
    t.body = ({ x with
        tracker := f { x.tracker with chain := some x.now }, estimator := x.boundaryEstimator
        chanA := x.chanA.restartPeak, chanB := x.chanB.restartPeak, context := x.peakContext
        records := x.records.map (Option.map x.peakMark) } : State).body
      ∧ (x.shocked = true → x.signals = true → x.link.Takes .jolt none → t.link.Holds (joltPayload x.topPeak x.params.shockHold)) := by
  have taken : x.lockedBoundary order = x.boundary none order := if_pos ⟨hl, hb⟩
  have rest := State.boundary_none_atRest h order
  have due : ((x.lockedBoundary order).onTracker f).withdrawDue = false := by
    rw [taken]
    exact rest.due
  have settled := State.settle_settled _ due
  refine ⟨?_, fun hs hn ht => ?_⟩
  · rw [settled.body_eq, taken, ← x.peakRecords_eq]
    exact congrArg (fun t : State => t.onTracker f) (x.boundary_none_body order)
  · rw [settled.eq_updateService]
    refine State.updateService_handOffs (State.holds_handOffs _) (fun _ _ h => h) ?_
    rw [taken]
    exact State.boundary_none_jolt hs hn ht order

/-! ## What the peak leaves, in the terms of R126 to R128 -/

/-- R126, R127, R128: what a boundary leaves in the Context Unit. -/
theorem State.peakContext_cases (a : State) :
    (a.shocked = false → a.peakContext = a.context)
      ∧ (a.shocked = true → a.context.hold = none →
          a.peakContext.hold = some { left := a.params.shockHold * 20000, cause := .ownShock })
      ∧ (∀ h, a.shocked = true → a.context.hold = some h → a.peakContext.hold
          = some (if h.left < a.params.shockHold * 20000 then { left := a.params.shockHold * 20000, cause := .ownShock } else h))
      ∧ (a.peakContext.joltGuard = if a.shocked && a.signals then some (a.params.shockHold * 10000) else a.context.joltGuard) := by
  refine ⟨fun h => ?_, fun h hn => ?_, fun x h hx => ?_, rfl⟩
  · unfold State.peakContext
    rw [h]
    rfl
  · show (if a.shocked then some (ShockHold.after _ a.context.hold) else a.context.hold) = _
    rw [if_pos h, hn]
    rfl
  · show (if a.shocked then some (ShockHold.after _ a.context.hold) else a.context.hold) = _
    rw [if_pos h, hx]
    rfl

end Sys2Proof.Machine

/-! # Segment boundaries at a tooth edge (O25) -/

namespace Sys2Proof.Machine

/-! ## The record of the segment, by what it has taken (R63, R64) -/

/-- R63, R64: the record stays with its segment end until its window and its witnesses are in, and closes with them. -/
theorem State.boundary_some_record {w : State} (hw : w.Unwithdrawn) (q : Nat) (order : BoundaryOrder) (hs : w.tracker.chain.isSome = true)
    (hnr : w.NoneReady) {r : Record} (hr : w.recordOf (w.params.cylAt q) = some r) (hseg : r.segmentTaken = false) :
    let segment := w.boundaryEstimator.result w.params
    let taken := { r with segmentTaken := true, loss := segment.loss, band := segment.band : Record }
    let missing := ∃ st ∈ r.expected, ∀ x ∈ r.witnesses, x.station ≠ st
    let B := w.boundary (some q) order
    (r.windowTaken = false → B.recordOf (w.params.cylAt q) = some (w.peakMark taken))
      ∧ (r.windowTaken = true → missing → B.recordOf (w.params.cylAt q) = some (w.peakMark { taken with state := .waiting }))
      ∧ (r.windowTaken = true → ¬missing → B.NoRecord (w.params.cylAt q)) := by
  intro segment taken missing B
  obtain ⟨stays, closes⟩ := State.boundary_some_takes hw q order hs hnr hr
  have ready : ({ taken with state := .waiting } : Record).ready = true ↔ ¬missing := Record.ready_iff_not_missing rfl
  refine ⟨fun hwin => ?_, fun hwin hmiss => ?_, fun hwin hmiss => ?_⟩
  · rw [Record.takeSegment_gathering hseg hwin] at stays
    exact stays (hnr r (State.recordOf_some hr).1)
  · rw [Record.takeSegment_waiting hseg hwin] at stays
    exact stays (Bool.eq_false_iff.mpr fun h => ready.mp h hmiss)
  · rw [Record.takeSegment_waiting hseg hwin] at closes
    exact closes (ready.mpr hmiss)

/-! ## The two ways to a boundary -/

/-- R6, R7, R19: an edge that locks, or is accepted in CRANK_LOCKED, comes to the boundary test with the next tooth's angle. -/
theorem toothEdge_to_lockedBoundary {a : State} (hconf : a.node.state.configured = true) {measured : Tracker}
    (hm : a.tracker.measure a.now = measured) {i : Nat} {atGap : Bool} (hgap : atGap = decide (i + 1 = a.params.teeth - a.params.gap))
    (test : measured.gapCandidate a.params = atGap)
    (hsync : (measured.sync = .crankLocked ∧ measured.toothIndex = some i)
      ∨ (measured.sync = .seeking ∧ measured.refCount = some i ∧ atGap = true)) (hs : a.tracker.sync = measured.sync) (order : BoundaryOrder) :
    let index := if atGap then 0 else i + 1
    let angle := (a.params.gapOffset + index * (3600 / a.params.teeth)) % 3600
    ∃ tr : Tracker, toothEdge order a = (({ a with tracker := tr } : State).lockedBoundary order).onTracker (Tracker.estimate a.params atGap)
      ∧ tr.sync = .crankLocked ∧ tr.toothIndex = some index ∧ tr.chain = measured.chain ∧ tr.edgeAngle.getD 0 % 3600 = angle
      ∧ (measured.sync = .crankLocked → tr.edgeAngle = some angle) := by
  intro index angle
  rcases hsync with ⟨hl, hi⟩ | ⟨hl, hr, hg⟩
  · have edge := toothEdge_of_crankLocked hconf hm (Tracker.edgeAccepted_of hi (test.trans hgap)) order (hs.trans hl)
    rw [test] at edge
    have next : measured.nextIndex a.params = index := by
      rw [Tracker.nextIndex_eq hi, ← hgap]
    have angled : (measured.acceptLocked a.params).edgeAngle = some angle := by
      show some (a.params.toothAngle (measured.nextIndex a.params)) = _
      rw [next]
      rfl
    exact ⟨measured.acceptLocked a.params, edge, hl, congrArg some next, rfl, by rw [angled]; exact Nat.mod_mod _ _, fun _ => angled⟩
  · have edge := toothEdge_of_seeking hconf (hs.trans hl) order
    have sought : measured.seek a.params atGap = measured.lock a.params :=
      (measured.seek_table hl a.params atGap).2.2.2 i hr (of_decide_eq_true (hgap ▸ hg)) hg
    have moved : (a.onTracker (Tracker.measure a.now)).onTracker (Tracker.seek a.params atGap) = { a with tracker := measured.lock a.params } := by
      rw [← sought, ← hm]
      rfl
    rw [hm, test] at edge
    have zero : index = 0 := if_pos hg
    refine ⟨measured.lock a.params, edge.trans (by rw [← moved]), rfl, congrArg some zero.symm, rfl, ?_, fun h => by rw [hl] at h; cases h⟩
    show a.params.gapOffset % 3600 = (a.params.gapOffset + index * _) % 3600
    rw [zero, Nat.zero_mul, Nat.add_zero]

/-- R17, R18, R20: an edge accepted in PHASED that issues a boundary mark and no other, to the end of its event. -/
theorem State.issuedBoundary_settles {x : State} {m : PendingMark} {k : Nat} (hissue : x.params.issuesExactly [m] x.tracker.marks = true)
    (hkind : m.kind = .segment) (hpos : m.pos = some k) (hw : x.Unwithdrawn) (order : BoundaryOrder) (f : Tracker → Tracker) :
    let w := x.replaced m
    let B := w.boundary (some ((k + x.params.n - 1) % x.params.n)) order
    let t := (((x.issueDue order).boundaryAfterDrop order).onTracker f).settle
    t.outer = ({ w.chained with
        tracker := f w.chained.tracker, chanA := w.chanA.restartPeak, chanB := w.chanB.restartPeak, context := w.peakContext } : State).outer
      ∧ t.records = B.records ∧ t.cylinders = B.cylinders
      ∧ (w.shocked = true → w.signals = true → w.link.Takes .jolt none → t.link.Holds (joltPayload w.topPeak w.params.shockHold)) := by
  intro w B t
  have issued : x.issueDue order = B.settle := by
    rw [State.issueDue_one hissue]
    unfold State.deliverMark
    rw [hkind, hpos]
    rfl
  have hw' : w.Unwithdrawn := hw
  obtain ⟨hB, outer⟩ := State.boundary_some_outer hw' ((k + x.params.n - 1) % x.params.n) order
  have settled := State.settle_settled B hB.1.due
  have chain : B.settle.tracker.chain = some B.settle.now := by
    rw [State.body_tracker settled.body_eq, State.body_now settled.body_eq, (State.outer_tracker outer :), (State.outer_now outer :)]
    rfl
  have once : (x.issueDue order).boundaryAfterDrop order = B.settle := by
    rw [issued]
    exact if_pos chain
  have done : (B.settle.onTracker f).SettledTo t := by
    show State.SettledTo _ (State.settle (State.onTracker f (State.boundaryAfterDrop _ order)))
    rw [once]
    exact State.settle_settled _ (hB.calm (.settle hB.1.due)).1.due
  have body : t.body = (B.onTracker f).body := done.body_eq.trans (congrArg (fun u : State => u.onTracker f) settled.body_eq)
  refine ⟨(State.outer_of_body body).trans (congrArg (fun u : State => u.onTracker f) outer), (State.body_records body :),
    (State.body_cylinders body :), fun hs hn ht => ?_⟩
  have held := State.boundary_some_jolt hw' ((k + x.params.n - 1) % x.params.n) order hs hn ht
  have inner : (B.settle.onTracker f).link.Holds (joltPayload w.topPeak w.params.shockHold) := by
    rw [settled.eq_updateService]
    exact State.updateService_handOffs (State.holds_handOffs _) (fun _ _ h => h) held
  rw [done.eq_updateService]
  exact State.updateService_handOffs (State.holds_handOffs _) (fun _ _ h => h) inner

/-! ## O25 -/

/-- Settles O25: an edge comes to a boundary by the lock, by the count of CRANK_LOCKED or by a boundary mark, and what the boundary does is
stated once for the first two and once for the third. -/
theorem lockedBoundaryMeasuresTheSegment : Obligations.LockedBoundaryMeasuresTheSegment := by
  intro s τ u p i order hf hconf hu hp im a pitch atGap index angle peakOf peak shock onset jolts estimator marked bounded hgap
  have last : a.tracker.lastEdge = some u := (s.advance_lastEdge τ).trans hu
  have cur : a.tracker.periodCur = some p := (s.advance_periodCur τ).trans hp
  let measured : Tracker := { a.tracker with lastEdge := some τ, periodPrev := some p, periodCur := some (τ - u).toNat }
  have hm : a.tracker.measure τ = measured := by rw [Tracker.measure_eq last, cur]
  have test : measured.gapCandidate im = atGap := by
    rw [← hm, Tracker.gapCandidate_measure last, cur]
    exact hgap
  have chain : a.tracker.chain = s.tracker.chain := s.advance_chain τ
  have shocked : a.shocked = true ↔ shock := decide_eq_true_iff
  have signals : a.signals = true ↔ (s.node.state = .running ∨ s.node.state = .hold) ∧ s.context.joltGuard = none := by
    unfold State.signals
    rw [decide_eq_true_iff]
    refine and_congr Iff.rfl ?_
    show countDown _ s.context.joltGuard = none ↔ _
    unfold countDown
    rw [Option.map_eq_none_iff]
  have holdNone : a.context.hold = none ↔ s.context.hold = none := by
    show Option.map _ s.context.hold = none ↔ _
    rw [Option.map_eq_none_iff]
  have mark : a.peakMark = marked := by
    funext r
    unfold State.peakMark
    by_cases ho : onset
    · exact (if_pos ⟨shocked.mpr ho.1, holdNone.mpr ho.2⟩).trans (if_pos ho).symm
    · exact (if_neg fun h => ho ⟨shocked.mp h.1, holdNone.mp h.2⟩).trans (if_neg ho).symm
  have hbounded : ∀ t : State, t.tracker.chain = some τ → t.tracker.toothIndex = some index → t.estimator = estimator →
      t.chanA = a.chanA.restartPeak → t.chanB = a.chanB.restartPeak → t.context = a.peakContext →
      (a.shocked = true → a.signals = true → a.link.Takes .jolt none → t.link.Holds (joltPayload a.topPeak im.shockHold)) →
      t.image = s.image → bounded t := by
    intro t hchain hindex hest hA hB hctx hjolt himage
    obtain ⟨quiet, starts, extends_, guard⟩ := a.peakContext_cases
    refine ⟨hchain, hindex, hest, fun ch => ?_, fun hs => ?_, fun ho => ?_, fun h hs hh => ?_, ?_, fun hj hq hlen => ?_, himage⟩
    · cases ch
      · exact hA
      · exact hB
    · exact hctx.trans (quiet (Bool.eq_false_iff.mpr (mt shocked.mp hs)))
    · rw [hctx]
      exact starts (shocked.mpr ho.1) (holdNone.mpr ho.2)
    · rw [hctx]
      exact extends_ h (shocked.mpr hs) hh
    · rw [hctx, guard]
      have both : (a.shocked && a.signals) = true ↔ jolts := by rw [Bool.and_eq_true, shocked, signals]
      by_cases hj : jolts
      · rw [if_pos (both.mpr hj), if_pos hj]
        rfl
      · rw [if_neg (mt both.mp hj), if_neg hj]
    · have takes : s.link.Takes .jolt none := hq.takes (.inl hlen)
      exact hjolt (shocked.mpr hj.1) (signals.mpr hj.2) takes
  have estimated (tr : Tracker) (h : tr.chain = s.tracker.chain) : ({ a with tracker := tr } : State).boundaryEstimator = estimator := by
    unfold State.boundaryEstimator
    rw [show ({ a with tracker := tr } : State).tracker.chain = s.tracker.chain from h]
    show (match s.tracker.chain with | some u => _ | none => _) = (match s.tracker.chain with | some chain => _ | none => _)
    cases s.tracker.chain <;> rfl
  refine ⟨fun hsync hn hk => ?_, ?_⟩
  · obtain ⟨tr, edge, hlocked, hindex, hchain, hangle, hedge⟩ := toothEdge_to_lockedBoundary (a := a) hconf hm rfl test
      (hsync.imp (fun ⟨hs, hi⟩ => ⟨(s.advance_sync τ).trans hs, (s.advance_toothIndex τ).trans hi⟩)
        fun ⟨hs, hr, hg⟩ => ⟨(s.advance_sync τ).trans hs, (s.advance_refCount τ).trans hr, hg⟩) rfl order
    have boundary : im.isLockedBoundary (tr.edgeAngle.getD 0) = true := (im.isLockedBoundary_iff _).mpr ⟨hn, hangle ▸ hk⟩
    obtain ⟨body, jolt⟩ := State.lockedBoundary_settles (x := { a with tracker := tr }) ⟨(hf.sound.atRest hf.due).advisory, hf.due⟩
      hlocked boundary order (Tracker.estimate im atGap)
    rw [show State.onTracker (Tracker.estimate im atGap) _ = toothEdge order a from edge.symm] at body jolt
    have hexec : exec (.toothEdge τ order) s = .next (toothEdge order a).settle := rfl
    have measures : ({ a with tracker := tr } : State).boundaryEstimator = estimator := estimated tr (hchain.trans chain)
    generalize (toothEdge order a).settle = t at body jolt hexec
    have htracker : t.tracker = ({ tr with chain := some τ } : Tracker).estimate im atGap := (State.body_tracker body :)
    refine ⟨t, hexec, hbounded t (by rw [htracker]; rfl) (by rw [htracker]; exact hindex) ((State.body_estimator body :).trans measures)
      (State.body_chanA body :) (State.body_chanB body :) (State.body_context body :) jolt (State.body_image body :),
      by rw [htracker]; exact hlocked, fun hs => by rw [htracker]; exact hedge ((s.advance_sync τ).trans hs), ?_,
      (State.body_cylinders body).trans rfl, (State.body_peers body).trans rfl, (State.body_node body).trans rfl⟩
    rw [← mark]
    exact (State.body_records body :)
  · intro e was m k hphased hi he ha next marks hissue hkind hpos hsev c segment
    have hi' : measured.toothIndex = some i := (s.advance_toothIndex τ).trans hi
    have accepted := Tracker.acceptPhased_eq hi' (show measured.edgeAngle = some e from (s.advance_edgeAngle τ).trans he)
      (show measured.angle = some was from ha) im
    let x : State := { a with tracker := measured.acceptPhased im }
    have hmarks : x.tracker.marks = marks := congrArg Tracker.marks accepted
    have hx : x.Unwithdrawn := ⟨hf, hsev⟩
    let w := x.replaced m
    have edge : toothEdge order a = ((x.issueDue order).boundaryAfterDrop order).onTracker (Tracker.estimate im atGap) := by
      have phased := toothEdge_of_phased (u := a) hconf hm (Tracker.edgeAccepted_of hi' (show measured.gapCandidate im = _ from test)) order
        ((s.advance_sync τ).trans hphased)
      rw [show measured.gapCandidate a.params = atGap from test] at phased
      exact phased
    obtain ⟨outer, records, cylinders, jolt⟩ := State.issuedBoundary_settles (x := x) (by rw [hmarks]; exact hissue) hkind hpos hx order
      (Tracker.estimate im atGap)
    rw [← edge] at outer records cylinders jolt
    have hexec : exec (.toothEdge τ order) s = .next (toothEdge order a).settle := rfl
    generalize (toothEdge order a).settle = t at hexec outer records cylinders jolt
    have measures : w.boundaryEstimator = estimator := estimated w.tracker chain
    have htracker : t.tracker = ({ w.tracker with chain := some τ } : Tracker).estimate im atGap := (State.outer_tracker outer :)
    have moved : w.tracker = { measured.acceptPhased im with marks := insertMark { m with dist := m.dist + 7200 } marks.tail } := by
      show ({ x.tracker with marks := replaceMark im m x.tracker.marks.tail } : Tracker) = _
      rw [hmarks]
      unfold replaceMark
      rw [hkind]
    rw [moved, accepted] at htracker
    have loose (h : w.tracker.chain = none ∨ (w.NoRecord c ∧ w.NoneReady)) :
        t.records = s.records.map (Option.map marked) ∧ t.cylinders = s.cylinders := by
      obtain ⟨kept, same⟩ := State.boundary_some_loose (w := w) ((k + im.n - 1) % im.n) order h
      exact ⟨records.trans (mark ▸ kept), cylinders.trans same⟩
    refine ⟨t, hexec, hbounded t (by rw [htracker]; rfl) (by rw [htracker]; rfl) ((State.outer_estimator outer :).trans measures)
      (State.outer_chanA outer :) (State.outer_chanB outer :) (State.outer_context outer :) jolt (State.outer_image outer :),
      by rw [htracker]; exact (s.advance_sync τ).trans hphased, by rw [htracker]; rfl, by rw [htracker]; rfl, by rw [htracker]; rfl,
      fun hc => loose (.inl (chain.trans hc)), fun hno hnr => loose (.inr ⟨hno, hnr⟩), fun r hc hnr hr hseg => ?_⟩
    have taken := State.boundary_some_record (w := w) hx ((k + im.n - 1) % im.n) order (by exact (congrArg Option.isSome chain).trans hc) hnr hr hseg
    rw [measures, show w.peakMark = marked from mark] at taken
    have recordOf := State.recordOf_congr records c
    exact ⟨fun hwin => recordOf.trans (taken.1 hwin), fun hwin hmiss => recordOf.trans (taken.2.1 hwin hmiss),
      fun hwin hmiss y hy => taken.2.2 hwin hmiss y (State.mem_openRecords.mpr (records ▸ State.mem_openRecords.mp hy))⟩

end Sys2Proof.Machine

/-! # What the hand-offs of an event read of the tracker and the channels (R22, R32, R152)

A queue change, an occurrence, a raise, a close and the end of an event read the tracker's sync state, angle and cycle count, and the
channels' states, and write an integrator at most: so they commute with a change of anything else there. -/

namespace Sys2Proof.Machine

/-- The tracker and both channels changed. -/
def State.retuned (gt : Tracker → Tracker) (gc : Channel → Channel) (s : State) : State :=
  { s with tracker := gt s.tracker, chanA := gc s.chanA, chanB := gc s.chanB }

/-- A change of what no hand-off reads. -/
structure Inert (gt : Tracker → Tracker) (gc : Channel → Channel) : Prop where
  sync : ∀ tr, (gt tr).sync = tr.sync
  angle : ∀ tr, (gt tr).angle = tr.angle
  cycleCount : ∀ tr, (gt tr).cycleCount = tr.cycleCount
  state : ∀ c, (gc c).state = c.state
  abandon : ∀ c, gc c.abandon = (gc c).abandon

section Retuned
variable {gt : Tracker → Tracker} {gc : Channel → Channel}

theorem foldl_retuned {α : Type} {f : State → α → State} (hf : ∀ (s : State) (a : α), f (s.retuned gt gc) a = (f s a).retuned gt gc)
    (l : List α) (s : State) : l.foldl f (s.retuned gt gc) = (l.foldl f s).retuned gt gc := by
  induction l generalizing s with
  | nil => rfl
  | cons a l ih =>
    rw [List.foldl_cons, List.foldl_cons, hf, ih]

variable (h : Inert gt gc)
include h

/-! ## Occurrences, reports and raises -/

theorem State.occurrence_retuned (s : State) (cls : FaultClass) (st : Option Station) (k c : Option Nat) :
    (s.retuned gt gc).occurrence cls st k c = s.occurrence cls st k c := by
  show ({ cls := cls, cycle := (gt s.tracker).cycleCount, angle := (gt s.tracker).faultAngle, station := st, kind := k, cyl := c } : Occurrence) = _
  unfold Tracker.faultAngle
  rw [h.cycleCount, h.sync, h.angle]
  rfl

theorem State.overflowOf_retuned (s : State) (lost : Option (Kind × Option Nat)) : (s.retuned gt gc).overflowOf lost = s.overflowOf lost := by
  unfold State.overflowOf
  cases lost with
  | none => rfl
  | some x => exact congrArg (fun o => [o]) (State.occurrence_retuned h s ..)

theorem State.putReport_retuned (s : State) (k : Kind) (c : Option Nat) (p : List Byte) :
    (s.retuned gt gc).putReport k c p = ((s.putReport k c p).1.retuned gt gc, (s.putReport k c p).2) :=
  Prod.ext rfl (State.overflowOf_retuned h s _)

theorem State.raiseStep_retuned (s : State) (x : AlertSource) :
    (s.retuned gt gc).raiseStep x = ((s.raiseStep x).1.retuned gt gc, (s.raiseStep x).2) := by
  have queued := State.putReport_retuned h (s.onAlert (AlertUnit.latchSource x)) .status none []
  unfold State.raiseStep
  dsimp only
  rw [show (s.retuned gt gc).onAlert (AlertUnit.latchSource x) = (s.onAlert (AlertUnit.latchSource x)).retuned gt gc from rfl, queued]
  rfl

theorem State.capture_retuned (s : State) (o : Occurrence) :
    (s.retuned gt gc).capture o = ((s.capture o).1.retuned gt gc, (s.capture o).2) := by
  unfold State.capture
  rw [show (s.retuned gt gc).faults = s.faults from rfl]
  cases s.faults.first with
  | some x => rfl
  | none =>
    let s1 := s.onFaults (fun f => { f with first := some (o.captured f.service) })
    have queued := State.putReport_retuned h s1 .log none (firstFaultLog s1.faults.first s1.faults.overflow FaultClass.index)
    have raised := State.raiseStep_retuned h (s1.putReport .log none (firstFaultLog s1.faults.first s1.faults.overflow FaultClass.index)).1 .firstFault
    dsimp only
    rw [show (s.retuned gt gc).onFaults (fun f => { f with first := some (o.captured f.service) }) = s1.retuned gt gc from rfl,
      show (s1.retuned gt gc).faults = s1.faults from rfl, queued]
    dsimp only
    rw [raised]

theorem State.takeOccurrence_retuned (s : State) (o : Occurrence) :
    (s.retuned gt gc).takeOccurrence o = ((s.takeOccurrence o).1.retuned gt gc, (s.takeOccurrence o).2) := by
  have captured := State.capture_retuned h (s.onFaults (FaultUnit.countOccurrence o.cls)) o
  unfold State.takeOccurrence
  dsimp only
  rw [show (s.retuned gt gc).onFaults (FaultUnit.countOccurrence o.cls) = (s.onFaults (FaultUnit.countOccurrence o.cls)).retuned gt gc from rfl,
    captured]
  show (if ((s.onFaults (FaultUnit.countOccurrence o.cls)).faults.cls o.cls).mask then _ else
    (if ((s.onFaults (FaultUnit.countOccurrence o.cls)).faults.cls o.cls).severity = .withdrawing then _ else _, _)) = _
  split
  · rfl
  · split <;> rfl

theorem State.occur_retuned (s : State) (o : Occurrence) : (s.retuned gt gc).occur o = (s.occur o).retuned gt gc := by
  unfold State.occur
  rw [State.takeOccurrence_retuned h]
  exact foldl_retuned (f := fun s o => (s.takeOccurrence o).1) (fun s o => congrArg Prod.fst (State.takeOccurrence_retuned h s o)) _ _

theorem State.fault_retuned (s : State) (cls : FaultClass) (st : Option Station) (k c : Option Nat) :
    (s.retuned gt gc).fault cls st k c = (s.fault cls st k c).retuned gt gc := by
  unfold State.fault
  rw [State.occurrence_retuned h, State.occur_retuned h]

theorem State.raise_retuned (s : State) (x : AlertSource) : (s.retuned gt gc).raise x = (s.raise x).retuned gt gc := by
  unfold State.raise
  rw [State.raiseStep_retuned h]
  exact foldl_retuned (State.occur_retuned h) _ _

theorem State.queueReport_retuned (s : State) (k : Kind) (c : Option Nat) (p : List Byte) :
    (s.retuned gt gc).queueReport k c p = (s.queueReport k c p).retuned gt gc := by
  unfold State.queueReport
  rw [State.putReport_retuned h]
  exact foldl_retuned (State.occur_retuned h) _ _

/-! ## The end of an event -/

theorem State.serviceOf_retuned (s : State) : (s.retuned gt gc).serviceOf = s.serviceOf := by
  have channels : (s.retuned gt gc).channelDegrades = s.channelDegrades := by
    show [Chan.a, Chan.b].any (fun ch => ((s.retuned gt gc).chan ch).state == .disabled && s.params.weighted ch) = _
    simp only [List.any_cons, List.any_nil, State.chan, State.retuned, h.state]
    rfl
  have tracker : (s.retuned gt gc).trackerDegrades = s.trackerDegrades := by
    show ((gt s.tracker).sync == .seeking || (gt s.tracker).sync == .crankLocked) = _
    rw [h.sync]
    rfl
  unfold State.serviceOf
  rw [channels, tracker]
  rfl

theorem State.updateService_retuned (s : State) : (s.retuned gt gc).updateService = s.updateService.retuned gt gc := by
  have raised := State.raise_retuned h (s.onFaults (fun f => { f with service := s.serviceOf })) .serviceChange
  unfold State.updateService
  rw [State.serviceOf_retuned h]
  show (if s.serviceOf = s.faults.service then _ else _) = _
  split
  · rfl
  · exact raised

omit h in
theorem State.abortAll_retuned (s : State) : (s.retuned gt gc).abortAll = s.abortAll.retuned gt gc := by
  have counted := foldl_retuned (gt := gt) (gc := gc) (f := State.countSlotAbort) (fun s a => by cases a <;> rfl) s.records s
  unfold State.abortAll
  rw [show (s.retuned gt gc).records = s.records from rfl, counted]
  rfl

theorem State.enterWithdrawn_retuned (s : State) : (s.retuned gt gc).enterWithdrawn = s.enterWithdrawn.retuned gt gc := by
  have abandoned (u : State) : (u.retuned gt gc).onChans Channel.abandon = (u.onChans Channel.abandon).retuned gt gc := by
    show ({ u with tracker := gt u.tracker, chanA := (gc u.chanA).abandon, chanB := (gc u.chanB).abandon } : State) = _
    rw [← h.abandon, ← h.abandon]
    rfl
  unfold State.enterWithdrawn
  dsimp only
  rw [State.abortAll_retuned, abandoned]
  show (if s.node.state.drivesAlert then _ else _) = _
  split <;> rfl

theorem State.carryWithdrawal_retuned (s : State) : (s.retuned gt gc).carryWithdrawal = s.carryWithdrawal.retuned gt gc := by
  have entered := State.enterWithdrawn_retuned h (s.setWithdrawDue false)
  unfold State.carryWithdrawal
  show (if s.withdrawDue then _ else _) = _
  split
  · show (match s.node.state with | .probing => _ | .joining => _ | .running => _ | .hold => _ | _ => _) = _
    cases s.node.state with
    | probing | joining | running | hold => exact entered
    | _ => rfl
  · rfl

theorem State.settle_retuned (s : State) : (s.retuned gt gc).settle = s.settle.retuned gt gc := by
  unfold State.settle
  rw [State.carryWithdrawal_retuned h, State.updateService_retuned h]

end Retuned

end Sys2Proof.Machine

/-! # What a close and the marks read of the tracker and the channels -/

namespace Sys2Proof.Machine

section Retuned
variable {gt : Tracker → Tracker} {gc : Channel → Channel} (h : Inert gt gc)
include h

/-! ## Closes -/

theorem State.silencePeer_retuned (s : State) (st : Station) (c : Option Nat) :
    (s.retuned gt gc).silencePeer st c = (s.silencePeer st c).retuned gt gc := by
  have passed := State.fault_retuned h (s.onPeer st PeerEntry.silence) .peerSilent (some st) none c
  have raised := State.raise_retuned h ((s.onPeer st PeerEntry.silence).fault .peerSilent (some st) none c) .peerSilent
  unfold State.silencePeer
  dsimp only
  rw [show (s.retuned gt gc).onPeer st PeerEntry.silence = (s.onPeer st PeerEntry.silence).retuned gt gc from rfl, passed, raised]
  show State.onOpenRecords _ (if (s.peer st).state = .active ∧ (s.peer st).expectedFor = true then _ else _) = _
  split <;> rfl

theorem State.missPeer_retuned (c : Nat) (s : State) (st : Station) :
    State.missPeer c (s.retuned gt gc) st = (State.missPeer c s st).retuned gt gc := by
  unfold State.missPeer
  dsimp only
  rw [State.silencePeer_retuned h]
  show (if (s.peer st).state = .active then if s.params.kMiss ≤ (s.peer st).misses + 1 then _ else _ else _) = _
  split
  · split <;> rfl
  · rfl

theorem State.absentPeer_retuned (c : Nat) (s : State) (st : Station) :
    State.absentPeer c (s.retuned gt gc) st = (State.absentPeer c s st).retuned gt gc := by
  unfold State.absentPeer
  rw [State.silencePeer_retuned h]
  show (if (s.peer st).state = .rejoining then _ else _) = _
  split <;> rfl

theorem State.accountWitnesses_retuned (s : State) (r : Record) :
    (s.retuned gt gc).accountWitnesses r = (s.accountWitnesses r).retuned gt gc := by
  have present := foldl_retuned (gt := gt) (gc := gc) (f := fun (s : State) st => s.onPeer st (PeerEntry.onTime s.params)) (fun _ _ => rfl) r.onTime s
  unfold State.accountWitnesses
  dsimp only
  rw [present, foldl_retuned (State.missPeer_retuned h r.cyl)]
  exact foldl_retuned (State.absentPeer_retuned h r.cyl) _ _

theorem State.foldVerdict_retuned (s : State) (c : Nat) (v : Verdict) (a b : Option Evidence) :
    (s.retuned gt gc).foldVerdict c v a b = (s.foldVerdict c v a b).retuned gt gc := by
  have raised := State.raise_retuned h (s.onCyl c (CylEntry.foldVerdict s.params v a b)) .deadCylinder
  rw [State.foldVerdict_eq, State.foldVerdict_eq]
  dsimp only
  rw [show (s.retuned gt gc).onCyl c (CylEntry.foldVerdict (s.retuned gt gc).params v a b)
    = (s.onCyl c (CylEntry.foldVerdict s.params v a b)).retuned gt gc from rfl, raised]
  show (if (s.cyl c).dead = false ∧ ((s.onCyl c (CylEntry.foldVerdict s.params v a b)).cyl c).dead = true then _ else _) = _
  split <;> rfl

theorem State.closeRecord_retuned (s : State) (r : Record) : (s.retuned gt gc).closeRecord r = (s.closeRecord r).retuned gt gc := by
  have judged : (s.retuned gt gc).judged r = (s.judged r).retuned gt gc := by
    unfold State.judged
    dsimp only
    rw [show (s.retuned gt gc).params = s.params from rfl, State.queueReport_retuned h, State.foldVerdict_retuned h, State.raise_retuned h]
    split <;> rfl
  rw [State.closeRecord_eq, State.closeRecord_eq, judged, State.accountWitnesses_retuned h]
  rfl

theorem State.closeReady_retuned (fuel : Nat) (s : State) : State.closeReady fuel (s.retuned gt gc) = (State.closeReady fuel s).retuned gt gc := by
  induction fuel generalizing s with
  | zero => rfl
  | succ n ih =>
    unfold State.closeReady
    rw [State.settle_retuned h, show (s.retuned gt gc).findRecord Record.ready = s.findRecord Record.ready from rfl,
      show (s.settle.retuned gt gc).findRecord Record.ready = s.settle.findRecord Record.ready from rfl]
    cases s.findRecord Record.ready with
    | none => rfl
    | some x =>
      cases s.settle.findRecord Record.ready with
      | none => rfl
      | some r =>
        dsimp only
        rw [State.closeRecord_retuned h, State.settle_retuned h, ih]

theorem State.closeComplete_retuned (s : State) : (s.retuned gt gc).closeComplete = s.closeComplete.retuned gt gc :=
  State.closeReady_retuned h 8 s

theorem State.recordSegment_retuned (s : State) (c : Nat) (loss : Option Int) (band : Nat) :
    (s.retuned gt gc).recordSegment c loss band = (s.recordSegment c loss band).retuned gt gc :=
  State.closeComplete_retuned h (s.onRecordOf c (Record.takeSegment loss band))

theorem State.recordWindow_retuned (s : State) (c : Nat) (a b : ChanResult) :
    (s.retuned gt gc).recordWindow c a b = (s.recordWindow c a b).retuned gt gc :=
  State.closeComplete_retuned h (s.onRecordOf c (Record.takeWindow a b))

theorem State.deadlineMark_retuned (s : State) (k : Nat) : (s.retuned gt gc).deadlineMark k = (s.deadlineMark k).retuned gt gc := by
  unfold State.deadlineMark
  rw [show (s.retuned gt gc).findRecord (fun r => r.pos == k) = s.findRecord (fun r => r.pos == k) from rfl]
  cases s.findRecord (fun r => r.pos == k) with
  | none => rfl
  | some r =>
    dsimp only
    rw [State.closeRecord_retuned h, State.closeComplete_retuned h]

theorem State.takePeriod_retuned (s : State) (p : Nat) (pos : Option Nat) :
    (s.retuned gt gc).takePeriod p pos = (s.takePeriod p pos).retuned gt gc := by
  cases pos with
  | none => rfl
  | some k => exact State.recordSegment_retuned h (s.onEstimator (Estimator.shift p)) _ _ _

end Retuned

/-! ## The estimate of an edge, which no mark reads (R3, R8, R14) -/

/-- The span, the per-pitch estimate and the stall limit written. -/
def Tracker.retimed (span per stall : Option Nat) (tr : Tracker) : Tracker := { tr with span := span, perPitch := per, stallLeft := stall }

/-- The estimate of an edge written. -/
def State.retimed (span per stall : Option Nat) (s : State) : State := s.retuned (Tracker.retimed span per stall) id

section Retimed
variable (x y z : Option Nat)

theorem inert_retimed : Inert (Tracker.retimed x y z) id :=
  ⟨fun _ => rfl, fun _ => rfl, fun _ => rfl, fun _ => rfl, fun _ => rfl⟩

/-! ### Cycle marks -/

theorem State.raiseWhen_retimed (b : Bool) (a : AlertSource) (s : State) : (s.retimed x y z).raiseWhen b a = (s.raiseWhen b a).retimed x y z := by
  cases b
  · rfl
  · exact State.raise_retuned (inert_retimed x y z) s a

theorem State.queueReport_retimed (s : State) (k : Kind) (c : Option Nat) (p : List Byte) :
    (s.retimed x y z).queueReport k c p = (s.queueReport k c p).retimed x y z := State.queueReport_retuned (inert_retimed x y z) s k c p

theorem State.fault_retimed (s : State) (cls : FaultClass) (st : Option Station) (k c : Option Nat) :
    (s.retimed x y z).fault cls st k c = (s.fault cls st k c).retimed x y z := State.fault_retuned (inert_retimed x y z) s cls st k c

theorem State.endBlock_retimed (s : State) (c : Nat) : (s.retimed x y z).endBlock c = (s.endBlock c).retimed x y z := by
  have judged : (s.retimed x y z).judgedBlock c = (s.judgedBlock c).retimed x y z := by
    unfold State.judgedBlock
    dsimp only
    rw [show (s.retimed x y z).cyl c = s.cyl c from rfl, show (s.retimed x y z).params = s.params from rfl,
      show (s.retimed x y z).onCyl c (fun _ => (s.cyl c).judgeBlock s.params) = (s.onCyl c (fun _ => (s.cyl c).judgeBlock s.params)).retimed x y z from rfl,
      State.raiseWhen_retimed, State.raiseWhen_retimed]
  rw [State.endBlock_eq, State.endBlock_eq, judged, State.queueReport_retimed]
  rfl

theorem State.countCycle_retimed (s : State) (c : Nat) : (s.retimed x y z).countCycle c = (s.countCycle c).retimed x y z := by
  unfold State.countCycle
  rw [State.endBlock_retimed]
  show (if (s.cyl c).role.judges then State.onCyl c _ (if (s.cyl c).block.cycles = s.params.blockLen then _ else _) else _) = _
  split
  · split <;> rfl
  · rfl

theorem State.takeOverIfDue_retimed (s : State) (c : Nat) : (s.retimed x y z).takeOverIfDue c = (s.takeOverIfDue c).retimed x y z := by
  have raised := State.raise_retuned (inert_retimed x y z) (s.onCyl c CylEntry.takeOver) .ownershipChange
  unfold State.takeOverIfDue
  show (if (s.cyl c).takeoverDue s.params then _ else _) = _
  split
  · exact raised
  · rfl

theorem State.cylinderCycleMark_retimed (s : State) : (s.retimed x y z).cylinderCycleMark = s.cylinderCycleMark.retimed x y z := by
  have silences (u : State) : (u.retimed x y z).countSilences = u.countSilences.retimed x y z :=
    foldl_retuned (f := State.takeOverIfDue) (fun s c => State.takeOverIfDue_retimed x y z s c) allCylinders
      (u.onCylinders (fun l => l.map CylEntry.countSilence))
  have cycles (u : State) : allCylinders.foldl State.countCycle (u.retimed x y z) = (allCylinders.foldl State.countCycle u).retimed x y z :=
    foldl_retuned (f := State.countCycle) (fun s c => State.countCycle_retimed x y z s c) allCylinders u
  unfold State.cylinderCycleMark
  show (if s.node.state = .running then _ else _) = _
  split
  · rw [show (s.retimed x y z).setMarkCounted true = (s.setMarkCounted true).retimed x y z from rfl, silences, cycles]
  · rfl

theorem State.contextCycleMark_retimed (s : State) : (s.retimed x y z).contextCycleMark = s.contextCycleMark.retimed x y z := by
  have passed := State.fault_retimed x y z (s.onContext Context.cycleMark) .contextStale none none none
  unfold State.contextCycleMark
  dsimp only
  by_cases hc : (!s.context.stale && (s.onContext Context.cycleMark).context.stale) = true
  · exact (if_pos hc).trans (passed.trans (congrArg (State.retimed x y z) (if_pos hc).symm))
  · have kept : (s.retimed x y z).onContext Context.cycleMark = (s.onContext Context.cycleMark).retimed x y z := rfl
    exact (if_neg hc).trans (kept.trans (congrArg (State.retimed x y z) (if_neg hc).symm))

theorem State.cycleMark_retimed (s : State) : (s.retimed x y z).cycleMark = s.cycleMark.retimed x y z := by
  unfold State.cycleMark
  rw [show (s.retimed x y z).onTracker (Tracker.cycleMark (s.retimed x y z).params)
    = (s.onTracker (Tracker.cycleMark s.params)).retimed x y z from rfl, State.contextCycleMark_retimed, State.cylinderCycleMark_retimed]

/-! ### Firing marks and windows -/

theorem State.firingMark_retimed (s : State) (k : Nat) : (s.retimed x y z).firingMark k = (s.firingMark k).retimed x y z := by
  have opened (u : State) (c : Nat) : (u.retimed x y z).openRecord k c = (u.openRecord k c).retimed x y z := by
    unfold State.openRecord
    show (if u.node.state = .running ∧ u.phasedWarm = true ∧ (u.cyl c).role.judges = true then
      match u.records.findIdx? Option.isNone with | some _ => _ | none => _ else _) = _
    split
    · cases u.records.findIdx? Option.isNone <;> rfl
    · rfl
  exact opened (s.removeReports _) (s.params.cylAt k)

theorem State.windowOpen_retimed (s : State) (k c : Nat) : (s.retimed x y z).windowOpen k c = (s.windowOpen k c).retimed x y z := by
  unfold State.windowOpen
  show (if s.node.state = .running then _ else _) = _
  split <;> rfl

theorem State.produceWitness_retimed (s : State) (c : Nat) (a b : ChanResult) :
    (s.retimed x y z).produceWitness c a b = (s.produceWitness c a b).retimed x y z := by
  have queued : (s.retimed x y z).queueWitness c a b = (s.queueWitness c a b).retimed x y z := by
    unfold State.queueWitness
    rw [State.queueReport_retimed]
    split <;> rfl
  rw [State.produceWitness_eq, State.produceWitness_eq, queued]
  show (if s.phasedWarm then if s.context.hold = none then _ else _ else _) = _
  split
  · split <;> rfl
  · rfl

theorem State.windowClose_retimed (s : State) (k c : Nat) : (s.retimed x y z).windowClose k c = (s.windowClose k c).retimed x y z := by
  have clip (u : State) (r : ChanResult) : (u.retimed x y z).reportClip c r = (u.reportClip c r).retimed x y z := by
    unfold State.reportClip
    rw [State.fault_retimed]
    split <;> rfl
  have windowed : (s.retimed x y z).windowed k c = (s.windowed k c).retimed x y z := by
    unfold State.windowed
    rw [show (s.retimed x y z).windowResult = s.windowResult from rfl,
      show (s.retimed x y z).onChans Channel.abandon = (s.onChans Channel.abandon).retimed x y z from rfl, clip, clip]
  by_cases hrun : s.node.state = .running
  · by_cases hj : (s.cyl c).role.judges = true
    · rw [State.windowClose_judged k c hrun hj, State.windowClose_judged (u := s.retimed x y z) k c hrun hj, windowed]
      exact State.recordWindow_retuned (inert_retimed x y z) ..
    · rw [State.windowClose_witness k c hrun hj, State.windowClose_witness (u := s.retimed x y z) k c hrun hj, windowed]
      exact State.produceWitness_retimed x y z ..
  · rw [State.windowClose_stopped k c hrun, State.windowClose_stopped (u := s.retimed x y z) k c hrun]

/-! ### Boundaries and the cam window -/

theorem State.considerJolt_retimed (s : State) (peak : Nat) : (s.retimed x y z).considerJolt peak = (s.considerJolt peak).retimed x y z := by
  unfold State.considerJolt
  rw [State.queueReport_retimed]
  show (if (s.node.state = .running ∨ s.node.state = .hold) ∧ s.context.joltGuard = none then _ else _) = _
  split <;> rfl

theorem State.boundaryPeak_retimed (s : State) : (s.retimed x y z).boundaryPeak = s.boundaryPeak.retimed x y z := by
  by_cases hs : s.shocked = true
  · rw [State.boundaryPeak_of_shock hs, State.boundaryPeak_of_shock (s := s.retimed x y z) hs, State.extendHold_eq, State.extendHold_eq]
    rw [← State.considerJolt_retimed]
    rfl
  · rw [State.boundaryPeak_of_quiet (Bool.eq_false_iff.mpr hs), State.boundaryPeak_of_quiet (s := s.retimed x y z) (Bool.eq_false_iff.mpr hs)]
    rfl

theorem State.boundary_retimed (s : State) (ended : Option Nat) (order : BoundaryOrder) :
    (s.retimed x y z).boundary ended order = (s.boundary ended order).retimed x y z := by
  have taken (u : State) (p : Nat) : (u.retimed x y z).takePeriod p ended = (u.takePeriod p ended).retimed x y z :=
    State.takePeriod_retuned (inert_retimed x y z) u p ended
  unfold State.boundary
  dsimp only
  rw [show (s.retimed x y z).onTracker (fun tr => { tr with chain := some (s.retimed x y z).now })
      = (s.onTracker fun tr => { tr with chain := some s.now }).retimed x y z from rfl,
    show (s.retimed x y z).tracker.chain = s.tracker.chain from rfl, State.boundaryPeak_retimed]
  cases s.tracker.chain with
  | none => rfl
  | some u =>
    dsimp only
    rw [taken, taken, State.boundaryPeak_retimed]
    cases order <;> rfl

theorem State.camMismatch_retimed (s : State) : (s.retimed x y z).camMismatch = s.camMismatch.retimed x y z := by
  have lost (u : State) : (u.retimed x y z).lossEvent = u.lossEvent.retimed x y z := by
    unfold State.lossEvent
    rw [show (u.retimed x y z).abortAll = u.abortAll.retimed x y z from State.abortAll_retuned u]
    rfl
  unfold State.camMismatch
  dsimp only
  rw [State.fault_retimed]
  show State.lossEvent (if s.params.n % 2 = 1 then _ else _) = _
  split
  · exact lost ((s.fault .camMismatch).onTracker Tracker.dropPhase).breakChain
  · exact lost ((s.fault .camMismatch).onTracker Tracker.dropPhase)

theorem State.camWindowEnd_retimed (s : State) : (s.retimed x y z).camWindowEnd = s.camWindowEnd.retimed x y z := by
  have mismatch := State.camMismatch_retimed x y z s
  unfold State.camWindowEnd
  show (if s.tracker.camSeen then _ else if s.tracker.camMiss = 0 then _ else _) = _
  split
  · rfl
  · split
    · rfl
    · exact mismatch

/-! ### The pass (R17) -/

/-- R15, R17: no mark reads the estimate that the edge leaves behind. -/
theorem State.deliverMark_retimed (s : State) (m : PendingMark) (order : BoundaryOrder) :
    (s.retimed x y z).deliverMark m order = (s.deliverMark m order).retimed x y z := by
  unfold State.deliverMark
  cases m.kind with
  | cycle => exact State.cycleMark_retimed x y z s
  | firing => exact State.firingMark_retimed x y z s _
  | segment => exact State.boundary_retimed x y z s _ order
  | windowOpen => exact State.windowOpen_retimed x y z s _ _
  | windowClose => exact State.windowClose_retimed x y z s _ _
  | camWindowEnd => exact State.camWindowEnd_retimed x y z s
  | deadline => exact State.deadlineMark_retuned (inert_retimed x y z) s _

theorem State.issueMarks_retimed (fuel : Nat) (order : BoundaryOrder) (s : State) :
    (s.retimed x y z).issueMarks fuel order = (s.issueMarks fuel order).retimed x y z := by
  induction fuel generalizing s with
  | zero => rfl
  | succ n ih =>
    unfold State.issueMarks
    rw [show (s.retimed x y z).tracker.marks = s.tracker.marks from rfl]
    cases s.tracker.marks with
    | nil => rfl
    | cons m rest =>
      have issued : (s.retimed x y z).issueMark m rest order = (s.issueMark m rest order).retimed x y z := by
        unfold State.issueMark
        rw [show (s.retimed x y z).onTracker (fun tr => { tr with marks := replaceMark (s.retimed x y z).params m rest })
          = (s.onTracker fun tr => { tr with marks := replaceMark s.params m rest }).retimed x y z from rfl, State.deliverMark_retimed]
        exact State.settle_retuned (inert_retimed x y z) _
      dsimp only
      rw [issued, ih]
      split <;> rfl

theorem State.issueDue_retimed (s : State) (order : BoundaryOrder) : (s.retimed x y z).issueDue order = (s.issueDue order).retimed x y z :=
  State.issueMarks_retimed x y z _ order s

end Retimed

end Sys2Proof.Machine

/-! # What an issued mark keeps, and what the order at an edge matters to (R10, R17, R37, R130) -/

namespace Sys2Proof.Machine

/-! ## What the marks keep -/

/-- From `s` to `t` marks were issued: the crank-revolution angle and the period of the latest tooth, the parameters and the instant are
kept, and no shock peak has grown. -/
structure State.MarkKeeps (s t : State) : Prop where
  edgeAngle : t.tracker.edgeAngle.map (· % 3600) = s.tracker.edgeAngle.map (· % 3600)
  periodCur : t.tracker.periodCur = s.tracker.periodCur
  params : t.params = s.params
  now : t.now = s.now
  peak : ∀ ch, (t.chan ch).peak ≤ (s.chan ch).peak

namespace State.MarkKeeps

theorem refl (s : State) : s.MarkKeeps s := ⟨rfl, rfl, rfl, rfl, fun _ => le_rfl⟩

theorem trans {s t u : State} (h : s.MarkKeeps t) (h' : t.MarkKeeps u) : s.MarkKeeps u :=
  ⟨h'.edgeAngle.trans h.edgeAngle, h'.periodCur.trans h.periodCur, h'.params.trans h.params, h'.now.trans h.now, fun ch => (h'.peak ch).trans (h.peak ch)⟩

theorem of_ground {s t : State} (h : t.ground = s.ground) : s.MarkKeeps t := by
  refine ⟨by rw [State.ground_tracker h], by rw [State.ground_tracker h], State.params_congr (State.ground_image h), State.ground_now h, fun ch => le_of_eq ?_⟩
  cases ch
  · have e := congrArg Channel.peak (State.ground_chanA h)
    exact e
  · have e := congrArg Channel.peak (State.ground_chanB h)
    exact e

theorem of_outer {s t : State} (h : t.outer = s.outer) : s.MarkKeeps t := of_ground (State.ground_of_outer h)

theorem of_core {s t : State} (h : t.core = s.core) (hn : t.now = s.now) : s.MarkKeeps t := by
  refine ⟨by rw [State.core_tracker h], by rw [State.core_tracker h], State.core_params h, hn, fun ch => le_of_eq ?_⟩
  cases ch
  · exact congrArg Channel.peak (State.core_chanA h)
  · exact congrArg Channel.peak (State.core_chanB h)

end State.MarkKeeps

theorem Channel.peak_restartPeak (c : Channel) : c.restartPeak.peak = 0 := by
  unfold Channel.restartPeak
  by_cases h : c.state = .enabled
  · rw [if_pos h]
    exact if_pos h
  · rw [if_neg h]
    exact if_neg h

theorem State.boundaryPeak_markKeeps (s : State) : s.MarkKeeps s.boundaryPeak := by
  have outer := s.boundaryPeak_outer
  have tracker : s.boundaryPeak.tracker = s.tracker := s.boundaryPeak_tracker
  refine ⟨by rw [tracker], by rw [tracker],
    State.params_congr (State.outer_image (s := { s with chanA := _, chanB := _, context := _ }) outer :),
    (State.outer_now (s := { s with chanA := _, chanB := _, context := _ }) outer :), fun ch => ?_⟩
  rw [State.chan_of_outer (s := { s with chanA := _, chanB := _, context := _ }) outer ch]
  cases ch
  · exact (Channel.peak_restartPeak s.chanA).trans_le (Nat.zero_le _)
  · exact (Channel.peak_restartPeak s.chanB).trans_le (Nat.zero_le _)

theorem State.takePeriod_markKeeps (s : State) (p : Nat) (pos : Option Nat) : s.MarkKeeps (s.takePeriod p pos) := by
  have shifted : s.MarkKeeps (s.onEstimator (Estimator.shift p)) := ⟨rfl, rfl, rfl, rfl, fun ch => by cases ch <;> exact le_rfl⟩
  cases pos with
  | none => exact shifted
  | some k => exact shifted.trans (.of_ground (State.recordSegment_ground ..))

theorem State.boundary_markKeeps (s : State) (ended : Option Nat) (order : BoundaryOrder) : s.MarkKeeps (s.boundary ended order) := by
  have chained : s.MarkKeeps (s.onTracker fun tr => { tr with chain := some s.now }) := ⟨rfl, rfl, rfl, rfl, fun ch => by cases ch <;> exact le_rfl⟩
  unfold State.boundary
  dsimp only
  split
  · cases order with
    | segmentEndFirst => exact chained.trans ((State.takePeriod_markKeeps _ _ _).trans (State.boundaryPeak_markKeeps _))
    | peakFirst => exact chained.trans ((State.boundaryPeak_markKeeps _).trans (State.takePeriod_markKeeps _ _ _))
  · exact chained.trans (State.boundaryPeak_markKeeps _)

theorem State.windowClose_markKeeps (s : State) (k c : Nat) : s.MarkKeeps (s.windowClose k c) := by
  have windowed : s.MarkKeeps (s.windowed k c) :=
    .of_ground ((State.ground_of_outer (State.outer_of_body (s.windowed_body k c))).trans s.abandon_ground)
  by_cases hrun : s.node.state = .running
  · by_cases hj : (s.cyl c).role.judges = true
    · rw [State.windowClose_judged k c hrun hj]
      exact windowed.trans (.of_ground (State.recordWindow_ground ..))
    · rw [State.windowClose_witness k c hrun hj]
      refine windowed.trans (.of_core (State.engine_core (State.produceWitness_engine ..)) ?_)
      exact (State.produceWitness_moves ..).sameBase.now
  · rw [State.windowClose_stopped k c hrun]
    exact .refl s

theorem Tracker.dropPhase_edgeAngle (tr : Tracker) : tr.dropPhase.edgeAngle.map (· % 3600) = tr.edgeAngle.map (· % 3600) := by
  show (tr.edgeAngle.map (· % 3600)).map (· % 3600) = _
  rw [Option.map_map]
  exact congrArg (fun f => tr.edgeAngle.map f) (funext fun a => Nat.mod_mod a 3600)

theorem State.camWindowEnd_markKeeps (s : State) : s.MarkKeeps s.camWindowEnd := by
  have tolerated (f : Tracker → Tracker) (hf : (f s.tracker).edgeAngle = s.tracker.edgeAngle)
      (hp : (f s.tracker).periodCur = s.tracker.periodCur) : s.MarkKeeps (s.onTracker f) :=
    ⟨congrArg (Option.map (· % 3600)) hf, hp, rfl, rfl, fun ch => by cases ch <;> exact le_rfl⟩
  have lost : s.MarkKeeps s.camMismatch := by
    obtain ⟨cs, e⟩ := (s.fault .camMismatch).dropPhase_eq (s.params.n % 2 = 1)
    change s.camMismatch = _ at e
    refine State.MarkKeeps.trans (.of_outer (State.fault_outer s .camMismatch none none none)) ?_
    rw [e]
    refine ⟨Tracker.dropPhase_edgeAngle _, rfl, rfl, rfl, fun ch => ?_⟩
    have empty (x : Channel) : x.lossEvent.peak ≤ x.peak := by
      unfold Channel.lossEvent Channel.peak
      split <;> exact Nat.zero_le _
    cases ch
    · exact empty _
    · exact empty _
  unfold State.camWindowEnd
  split
  · exact tolerated _ rfl rfl
  · split
    · exact tolerated _ rfl rfl
    · exact lost

theorem State.deliverMark_markKeeps (s : State) (m : PendingMark) (order : BoundaryOrder) : s.MarkKeeps (s.deliverMark m order) := by
  unfold State.deliverMark
  cases m.kind with
  | cycle =>
    have outer := s.cycleMark_outer
    refine ⟨by rw [s.cycleMark_tracker]; rfl, by rw [s.cycleMark_tracker]; rfl, State.params_congr (State.outer_image outer :), (State.outer_now outer :), fun ch => ?_⟩
    rw [State.chan_of_outer outer ch]
    cases ch <;> exact le_rfl
  | firing => exact .of_ground ((State.ground_of_outer (s.firingMark_core _)).trans (State.removeReports_ground ..))
  | segment => exact s.boundary_markKeeps _ order
  | windowOpen =>
    show s.MarkKeeps (s.windowOpen _ _)
    unfold State.windowOpen
    split
    · refine ⟨rfl, rfl, rfl, rfl, fun ch => ?_⟩
      have opened (x : Channel) (k c : Nat) : (x.openWindow s.now k c).peak ≤ x.peak := by
        unfold Channel.openWindow
        split <;> exact le_rfl
      cases ch
      · exact opened _ _ _
      · exact opened _ _ _
    · exact .refl s
  | windowClose => exact s.windowClose_markKeeps _ _
  | camWindowEnd => exact s.camWindowEnd_markKeeps
  | deadline => exact .of_ground (s.deadlineMark_ground _)

theorem State.issueMark_markKeeps (s : State) (m : PendingMark) (rest : List PendingMark) (order : BoundaryOrder) :
    s.MarkKeeps (s.issueMark m rest order) := by
  have replaced : s.MarkKeeps (s.onTracker fun tr => { tr with marks := replaceMark s.params m rest }) :=
    ⟨rfl, rfl, rfl, rfl, fun ch => by cases ch <;> exact le_rfl⟩
  exact replaced.trans ((State.deliverMark_markKeeps _ m order).trans (.of_ground (State.settle_ground _)))

theorem State.issueMarks_markKeeps (fuel : Nat) (order : BoundaryOrder) (s : State) : s.MarkKeeps (s.issueMarks fuel order) := by
  induction fuel generalizing s with
  | zero => exact .refl s
  | succ n ih =>
    unfold State.issueMarks
    split
    · split
      · exact (s.issueMark_markKeeps _ _ order).trans (ih _)
      · exact .refl s
    · exact .refl s

end Sys2Proof.Machine

/-! # Marks issued at an accepted tooth edge (O24) -/

namespace Sys2Proof.Machine

/-! ## The order of segment end and peak, where there is no shock (R37, R130) -/

theorem inert_restartPeak : Inert id Channel.restartPeak where
  sync _ := rfl
  angle _ := rfl
  cycleCount _ := rfl
  state c := c.restartPeak_keeps.1
  abandon c := by
    unfold Channel.restartPeak
    by_cases h : c.state = .enabled
    · exact (if_pos h).trans (by rw [if_pos h]; rfl)
    · exact (if_neg h).trans (by rw [if_neg h])

/-- No shock is found at a boundary. -/
def State.Calmed (s : State) : Prop := s.topPeak < s.params.shockThr

theorem State.Calmed.shocked {s : State} (h : s.Calmed) : s.shocked = false := decide_eq_false fun hs => Nat.not_le.mpr h hs.2

theorem State.Calmed.keeps {s t : State} (h : s.Calmed) (k : s.MarkKeeps t) : t.Calmed := by
  unfold State.Calmed
  rw [k.params]
  exact (max_le_max (k.peak .a) (k.peak .b)).trans_lt h

theorem State.boundary_order {s : State} (h : s.Calmed) (ended : Option Nat) :
    s.boundary ended .peakFirst = s.boundary ended .segmentEndFirst := by
  let chained := s.onTracker fun tr => { tr with chain := some s.now }
  have quiet : chained.Calmed := h
  have taken (p : Nat) : (chained.onChans Channel.restartPeak).takePeriod p ended = (chained.takePeriod p ended).onChans Channel.restartPeak :=
    State.takePeriod_retuned inert_restartPeak chained p ended
  unfold State.boundary
  dsimp only
  cases s.tracker.chain with
  | none => rfl
  | some u =>
    dsimp only
    rw [show (s.onTracker fun tr => { tr with chain := some s.now }) = chained from rfl, State.boundaryPeak_of_quiet quiet.shocked, taken,
      State.boundaryPeak_of_quiet (quiet.keeps (State.takePeriod_markKeeps ..)).shocked]

theorem State.deliverMark_order {s : State} {m : PendingMark} (h : m.kind ≠ .segment ∨ s.Calmed) :
    s.deliverMark m .peakFirst = s.deliverMark m .segmentEndFirst := by
  unfold State.deliverMark
  cases hk : m.kind with
  | segment => exact State.boundary_order (h.resolve_left fun hn => hn hk) _
  | _ => rfl

/-! ## What the issue of a mark leaves due (R16) -/

/-- R16: where the mark issued is no segment boundary, no segment boundary is placed. -/
theorem mem_replaceMark {im : Image} {m x : PendingMark} {rest : List PendingMark} (hm : m.kind ≠ .segment) (hx : x ∈ replaceMark im m rest) :
    x ∈ rest ∨ x.kind ≠ .segment := by
  have again {y : PendingMark} (hy : y.kind ≠ .segment) (h : x ∈ insertMark y rest) : x ∈ rest ∨ x.kind ≠ .segment :=
    (List.mem_cons.mp ((insertMark_perm y rest).mem_iff.mp h)).symm.imp_right fun e => by rw [e]; exact hy
  obtain ⟨kind, angle, pos, dist⟩ := m
  cases kind with
  | segment => exact absurd rfl hm
  | cycle => exact again (by exact hm) hx
  | camWindowEnd => exact again (by exact hm) hx
  | firing =>
    have spread := (foldl_insertMark_perm id (im.dependentMarks (pos.getD 0) angle dist) _).mem_iff.mp hx
    rw [List.map_id] at spread
    rcases List.mem_append.mp spread with hdep | hrest
    · refine .inr ?_
      unfold Image.dependentMarks at hdep
      simp only [List.mem_cons, List.not_mem_nil, or_false] at hdep
      rcases hdep with rfl | rfl | rfl <;> exact nofun
    · exact again (by exact hm) hrest
  | windowOpen | windowClose | deadline => exact .inl hx

/-- No segment boundary is due. -/
def State.NoBoundaryDue (s : State) : Prop := ∀ m ∈ s.tracker.marks, m.dist ≤ 0 → m.kind ≠ .segment

theorem State.NoBoundaryDue.issueMark {s : State} (h : s.NoBoundaryDue) {m : PendingMark} {rest : List PendingMark}
    (hm : s.tracker.marks = m :: rest) (hd : m.dist ≤ 0) (order : BoundaryOrder) : (s.issueMark m rest order).NoBoundaryDue := by
  intro x hx hxd
  have list : x ∈ replaceMark s.params m rest := by
    unfold State.issueMark at hx
    rw [State.settle_tracker] at hx
    rcases State.deliverMark_marks (s.onTracker fun tr => { tr with marks := replaceMark s.params m rest }) m order with e | e
    · rw [e] at hx
      exact hx
    · rw [e] at hx
      cases hx
  rcases mem_replaceMark (h m (hm ▸ .head _) hd) list with hrest | hk
  · exact h x (hm ▸ .tail _ hrest) hxd
  · exact hk

/-- R37, R130: the order matters only to a boundary at a shock. -/
theorem State.issueMarks_order (fuel : Nat) {s : State} (h : s.NoBoundaryDue ∨ s.Calmed) :
    s.issueMarks fuel .peakFirst = s.issueMarks fuel .segmentEndFirst := by
  induction fuel generalizing s with
  | zero => rfl
  | succ n ih =>
    unfold State.issueMarks
    cases hm : s.tracker.marks with
    | nil => rfl
    | cons m rest =>
      dsimp only
      by_cases hd : m.dist ≤ 0
      · have issued : s.issueMark m rest .peakFirst = s.issueMark m rest .segmentEndFirst := by
          unfold State.issueMark
          rw [State.deliverMark_order (s := s.onTracker _) (h.imp (fun hn => hn m (hm ▸ .head _) hd) fun hc => hc)]
        rw [if_pos hd, if_pos hd, issued]
        exact ih (h.imp (fun hn => hn.issueMark hm hd _) fun hc => hc.keeps (s.issueMark_markKeeps m rest _))
      · rw [if_neg hd, if_neg hd]

theorem State.issueDue_order {s : State} (order : BoundaryOrder) (h : order = .segmentEndFirst ∨ s.NoBoundaryDue ∨ s.Calmed) :
    s.issueDue order = s.issueDue .segmentEndFirst := by
  cases order with
  | segmentEndFirst => rfl
  | peakFirst => exact State.issueMarks_order _ (h.resolve_left nofun)

/-! ## No time passes at the instant of the edge (R14) -/

theorem ticksFrom_self (τ : Tick) : ticksFrom τ τ = 0 := by
  unfold ticksFrom
  rw [BitVec.sub_self]
  rfl

theorem countDown_zero (timer : Option Nat) : countDown 0 timer = timer := by
  unfold countDown
  cases timer <;> rfl

theorem NodeCtl.elapse_zero (n : NodeCtl) : n.elapse 0 = n := by
  unfold NodeCtl.elapse ConfigPort.elapse
  rw [countDown_zero, countDown_zero, countDown_zero]
  cases n with
  | mk state port => cases port <;> rfl

theorem Channel.elapse_zero (d : Nat) (c : Channel) : (c.elapse d).elapse 0 = c.elapse d := by
  unfold Channel.elapse
  rw [countDown_zero]
  dsimp only
  cases c.levelAbove with
  | none => rfl
  | some u => simp

theorem Context.elapse_zero (c : Context) : c.elapse 0 = c := by
  have held : c.hold.map (fun h => ({ h with left := h.left - 0 } : ShockHold)) = c.hold := by cases c.hold <;> rfl
  unfold Context.elapse
  rw [countDown_zero, held]

theorem Transmitter.elapse_zero (d : Nat) (x : Transmitter) : (x.elapse d).elapse 0 = x.elapse d := by
  cases x with
  | arbitrating e removed left =>
    by_cases hl : left ≤ d
    · rw [show (Transmitter.arbitrating e removed left).elapse d = .sending e from if_pos hl]
      rfl
    · rw [show (Transmitter.arbitrating e removed left).elapse d = .arbitrating e removed (left - d) from if_neg hl]
      exact if_neg (by omega)
  | _ => rfl

theorem Link.elapse_zero (d : Nat) (l : Link) : (l.elapse d).elapse 0 = l.elapse d := by
  unfold Link.elapse
  rw [countDown_zero]
  dsimp only
  rw [Transmitter.elapse_zero]

theorem AlertUnit.elapse_zero (a : AlertUnit) : a.elapse 0 = a := by
  unfold AlertUnit.elapse
  rw [countDown_zero]

/-- R14: at the instant of the edge the interpolated angle is that of the tooth. -/
theorem Tracker.elapse_at_edge {tr : Tracker} {τ : Tick} {next : Nat} (hs : tr.sync = .phased) (hl : tr.lastEdge = some τ)
    (he : tr.edgeAngle = some next) (ha : tr.angle = some next) (hp : tr.phase = some (phaseOf next)) (hn : next < 7200) (im : Image) :
    tr.elapse im τ 0 = tr := by
  have advance : tr.heldAdvance im τ = 0 := by
    unfold Tracker.heldAdvance
    rw [hl]
    dsimp only
    rw [ticksFrom_self, Nat.zero_mul, Nat.zero_div, Nat.zero_min]
  have still : ({ tr with stallLeft := countDown 0 tr.stallLeft } : Tracker) = tr := by rw [countDown_zero]
  have marks : tr.marks.map (fun m => ({ m with dist := m.dist - ((next + 7200 - next) % 7200 : Nat) } : PendingMark)) = tr.marks := by
    rw [Nat.add_sub_cancel_left, Nat.mod_self]
    simp
  unfold Tracker.elapse Tracker.interpolate
  rw [still, hs, he, advance]
  dsimp only
  rw [Option.getD_some, Nat.add_zero, Nat.mod_eq_of_lt hn]
  unfold Tracker.moveTo
  dsimp only
  rw [ha, Option.getD_some, marks, ← hp, ← ha]

/-- R14: a state at an instant, with a tracker whose latest tooth is of that instant, is what it is at that instant. -/
theorem State.advance_self (s : State) (τ : Tick) {tr : Tracker} (h : tr.elapse s.params τ 0 = tr) :
    ({ s.advance τ with tracker := tr } : State).advance τ = { s.advance τ with tracker := tr } := by
  let d := ticksFrom s.now τ
  show ({ s with
    now := τ, node := (s.node.elapse d).elapse (ticksFrom τ τ), tracker := tr.elapse s.params τ (ticksFrom τ τ)
    chanA := (s.chanA.elapse d).elapse (ticksFrom τ τ), chanB := (s.chanB.elapse d).elapse (ticksFrom τ τ)
    context := (s.context.elapse d).elapse (ticksFrom τ τ), link := (s.link.elapse d).elapse (ticksFrom τ τ)
    alert := (s.alert.elapse d).elapse (ticksFrom τ τ) } : State) = _
  rw [ticksFrom_self, h, NodeCtl.elapse_zero, Channel.elapse_zero, Channel.elapse_zero, Context.elapse_zero, Link.elapse_zero,
    AlertUnit.elapse_zero]
  rfl

/-! ## The boundary of CRANK_LOCKED that an edge may be after all (log entry 9) -/

/-- R19: an edge that is no boundary of CRANK_LOCKED, or has not dropped PHASED. -/
theorem State.boundaryAfterDrop_eq_self {y : State} {next : Nat} (hedge : y.tracker.edgeAngle.map (· % 3600) = some (next % 3600))
    (h : y.tracker.sync = .phased ∨ y.params.isLockedBoundary (next % 3600) = false) (order : BoundaryOrder) :
    y.boundaryAfterDrop order = y := by
  obtain ⟨b, hb, hmod⟩ := Option.map_eq_some_iff.mp hedge
  have same : y.params.isLockedBoundary b = y.params.isLockedBoundary (next % 3600) := by
    unfold Image.isLockedBoundary
    rw [← hmod, Nat.mod_mod]
  have loose : y.lockedBoundary order = y := by
    refine if_neg fun hl => ?_
    rw [hb, Option.getD_some, same] at hl
    rcases h with hp | hn
    · rw [hp] at hl
      cases hl.1
    · rw [hn] at hl
      cases hl.2
  unfold State.boundaryAfterDrop
  split
  · rfl
  · exact loose

/-- Settles O24: no mark reads the estimate that the edge leaves behind, so the pass is the same whether it is written before the marks or
after them. -/
theorem acceptedToothIsCounted : Obligations.AcceptedToothIsCounted := by
  intro s τ u p i order hdue hconf hu hp hi im a period pitch atGap index angle span per measured hgap
  have last : a.tracker.lastEdge = some u := (s.advance_lastEdge τ).trans hu
  have cur : a.tracker.periodCur = some p := (s.advance_periodCur τ).trans hp
  let raw : Tracker := { a.tracker with lastEdge := some τ, periodPrev := some p, periodCur := some period }
  have hm : a.tracker.measure τ = raw := by rw [Tracker.measure_eq last, cur]
  have test : raw.gapCandidate im = atGap := by
    rw [← hm, Tracker.gapCandidate_measure last, cur]
    exact hgap
  have hi' : raw.toothIndex = some i := (s.advance_toothIndex τ).trans hi
  have yes : raw.edgeAccepted a.params (raw.gapCandidate a.params) = true := Tracker.edgeAccepted_of hi' test
  have timed (tr : Tracker) (h : tr.periodCur = some period) : tr.estimate im atGap
      = tr.retimed (some span) (some per) (some (min ((im.gap + 3) * per) 4000000)) := Tracker.estimate_eq h im atGap
  refine ⟨fun hs hno => ⟨_, rfl, ?_⟩, ?_⟩
  · have edge := toothEdge_of_crankLocked (u := a) hconf hm yes order ((s.advance_sync τ).trans hs)
    have next : raw.nextIndex im = index := Tracker.nextIndex_eq hi' im
    have accepted : raw.acceptLocked im = { raw with toothIndex := some index, edgeAngle := some angle, angle := some angle } := by
      unfold Tracker.acceptLocked
      rw [next]
      rfl
    have loose : ({ a with tracker := raw.acceptLocked im } : State).lockedBoundary order = { a with tracker := raw.acceptLocked im } := by
      refine if_neg fun hb => ?_
      have hb := hb.2
      rw [show ({ a with tracker := raw.acceptLocked im } : State).tracker.edgeAngle = some angle by rw [accepted]] at hb
      rw [show im.isLockedBoundary angle = true from hb] at hno
      cases hno
    refine State.settles_as (edge.trans ?_) hdue
    rw [show ({ a with tracker := raw.acceptLocked a.params } : State).lockedBoundary order = _ from loose,
      show raw.gapCandidate a.params = atGap from test, accepted]
    exact congrArg (fun tr => ({ a with tracker := tr } : State)) (timed _ rfl)
  · intro e was hs he ha next marks accepted peakOf
    let x : State := { a with tracker := raw.acceptPhased im }
    have edge : toothEdge order a = ((x.issueDue order).boundaryAfterDrop order).onTracker (Tracker.estimate im atGap) := by
      have phased := toothEdge_of_phased (u := a) hconf hm yes order ((s.advance_sync τ).trans hs)
      rw [show raw.gapCandidate a.params = atGap from test] at phased
      exact phased
    have stepped := Tracker.acceptPhased_eq hi' (show raw.edgeAngle = some e from (s.advance_edgeAngle τ).trans he) (show raw.angle = some was from ha) im
    have hx : x = { a with tracker := { raw with
        toothIndex := some index, edgeAngle := some next, angle := some next, phase := some (if next < 3600 then .first else .second)
        marks := marks } } := congrArg (fun tr => ({ a with tracker := tr } : State)) stepped
    have hsync : a.tracker.sync = .phased := (s.advance_sync τ).trans hs
    have later : accepted = x.retimed (some span) (some per) (some (min ((im.gap + 3) * per) 4000000)) := by
      rw [hx]
      rfl
    have hangle : x.tracker.edgeAngle = some next := by rw [hx]
    have hmarks : x.tracker.marks = marks := by rw [hx]
    have hperiod : x.tracker.periodCur = some period := by rw [hx]
    clear_value x
    refine ⟨fun hahead => ⟨_, rfl, ?_⟩, fun horder => ?_⟩
    · have none_ : x.issueDue order = x := State.issueMarks_of_ahead (hmarks ▸ hahead) _ order
      have still := State.boundaryAfterDrop_eq_self (y := x) (next := next) (by rw [hangle]; rfl) (.inl (by rw [hx]; exact hsync)) order
      refine State.settles_as (edge.trans ?_) hdue
      rw [none_, still, later]
      exact congrArg (fun tr => ({ x with tracker := tr } : State)) (timed _ hperiod)
    · let y := x.issueDue .segmentEndFirst
      have kept : x.MarkKeeps y := x.issueMarks_markKeeps _ .segmentEndFirst
      have ordered : x.issueDue order = y := by
        refine State.issueDue_order order (horder.imp_right (Or.imp (fun hn => ?_) fun hc => ?_))
        · unfold State.NoBoundaryDue
          rw [hmarks]
          exact hn
        · rw [hx]
          exact hc
      have now : accepted.advance τ = accepted :=
        State.advance_self s τ (Tracker.elapse_at_edge (tr := accepted.tracker) hsync rfl rfl rfl rfl (Nat.mod_lt _ (by decide)) im)
      have hexec : exec (.interpolatedMark τ) accepted
          = .next (y.retimed (some span) (some per) (some (min ((im.gap + 3) * per) 4000000))).settle := by
        have issued : interpolatedMark accepted = accepted.issueDue .segmentEndFirst := if_pos hsync
        show Host.Outcome.next (interpolatedMark (accepted.advance τ)).settle = _
        rw [now, issued, later, State.issueDue_retimed]
      refine ⟨_, hexec, fun h => ?_⟩
      rw [State.settle_tracker] at h
      have same : y.params = im := kept.params.trans (by rw [hx]; rfl)
      have still : y.boundaryAfterDrop order = y :=
        State.boundaryAfterDrop_eq_self (next := next) (kept.edgeAngle.trans (by rw [hangle]; rfl)) (h.imp_right fun hn => by rw [same]; exact hn) order
      show Host.Outcome.next (toothEdge order a).settle = _
      rw [edge, ordered, still]
      exact congrArg (fun tr => Host.Outcome.next (State.settle { y with tracker := tr })) (timed _ (kept.periodCur.trans hperiod))

end Sys2Proof.Machine
